-- ==== Sys2Proof/Word.lean ====
section
/-! DEFINITION. Word.lean: the byte and the other fixed-width words of the serial frame and the converter. Everything
the manual counts (masses, times, sequence numbers, bin numbers) is a `Nat` or an `Int`: "all mass, tolerance and span
arithmetic is exact integer arithmetic" (spec/00_scope.md, Arithmetic). -/

namespace Sys2Proof

/-- One byte on a serial port (R194). -/
abbrev Byte := BitVec 8

/-- The check of a frame, a CRC-16 (R194). -/
abbrev Check := BitVec 16

/-- A code of a cradle channel's converter, −131,072 to 131,071: exactly the signed 18-bit integers (R34). -/
abbrev ConverterCode := BitVec 18

end Sys2Proof
end

