-- ==== Sys2Proof/Syntax.lean ====
section
/-! DEFINITION. Syntax.lean: the commands, one constructor of `Instr` per row of spec/opcode_table.json, and the types
of their operands. An enumeration that a request carries is an `Option`: `none` stands for a value the manual does not
list, which the request's own rule refuses. Numbers are `Nat`, so that values outside a range can be written and
refused. -/

namespace Sys2Proof

/-- A drop head (R1); its weigh channel WA, WB or WC carries the same name (R27). -/
inductive HeadId where
  | a | b | c
  deriving DecidableEq, Repr

/-- The three heads in the order A, B, C. -/
def HeadId.all : List HeadId := [.a, .b, .c]

/-- One of the two serial ports (R194). -/
inductive PortId where
  | branch | service
  deriving DecidableEq, Repr

/-- What every request frame carries besides its named fields: the port it arrives on, its request number (R194), and
whether its payload has the request's form (R198 check 3: the length; for MODE_SET also R139: a mode that is NIGHT or
DAY). -/
structure Req where
  port   : PortId
  number : Byte
  formOk : Bool
  deriving DecidableEq, Repr

/-- The kind of a denomination (R65). -/
inductive DenomKind where
  | note | coin
  deriving DecidableEq, Repr

/-- The class of a bin (R103). -/
inductive BinClass where
  | standard | quarantine | disabled
  deriving DecidableEq, Repr

/-- The arbitration mode of the lift (R120). -/
inductive ArbMode where
  | alternate | run
  deriving DecidableEq, Repr

/-- The outcome named by LIFT_RESOLVE (R131). -/
inductive ResolveOutcome where
  | delivered | retrieved
  deriving DecidableEq, Repr

/-- The role of an officer (R147). -/
inductive Role where
  | teller | supervisor
  deriving DecidableEq, Repr

/-- The polarity of an input line (R162) or of the ALARM line (R177). -/
inductive Polarity where
  | activeHigh | activeLow
  deriving DecidableEq, Repr

/-- Which edges of an input line are recorded for the host (R162, R166). -/
inductive ReportEdges where
  | none | activate | deactivate | both
  deriving DecidableEq, Repr

/-- The output mode of the alarm (R177). -/
inductive AlarmMode where
  | level | pulse
  deriving DecidableEq, Repr

/-- One level for each of the seven alarm causes (R175): the latched flags, and the enable flags (R177). -/
structure AlarmFlags where
  linkLost    : Bool
  tamper      : Bool
  headFault   : Bool
  liftFault   : Bool
  binOpenLong : Bool
  tempHigh    : Bool
  refFault    : Bool
  deriving DecidableEq, Repr

/-- The service states that SERVICE_ENTER can name (R180). -/
inductive ServiceKind where
  | hold | pattern | limp
  deriving DecidableEq, Repr

/-- The settings groups of SETTINGS_READ (R203). -/
inductive SettingsGroup where
  | head | weigh | scan | tables | log | lift | release | lines | alarm | link
  deriving DecidableEq, Repr

/-- The unit of the link watch count (R201). -/
inductive WatchUnit where
  | second | minute
  deriving DecidableEq, Repr

/-- The link-lost policy (R201): ADMIT or CLOSE. -/
inductive LinkPolicy where
  | keepOpen | close
  deriving DecidableEq, Repr

/-- The settings of one head (R3): timeouts in s, ms, ms, s as R3 lists them. -/
structure HeadSettings where
  intakeTimeout  : Nat
  descentTimeout : Nat
  identWindow    : Nat
  gateTimeout    : Nat
  autoOpen       : Bool
  deriving DecidableEq, Repr

/-- The eleven settings of one cradle channel, in the units of R28. -/
structure WeighSettings where
  warmUpTime      : Nat
  idleTime        : Nat
  sampleInterval  : Nat
  acquisitionTime : Nat
  exponent        : Nat
  settleDelay     : Nat
  settleBand      : Nat
  settleCount     : Nat
  settleTimeout   : Nat
  zeroInterval    : Nat
  zeroWindow      : Nat
  deriving DecidableEq, Repr

/-- The five scanner settings of R46; the temperature limit in tenths of a degree. -/
structure ScanSettings where
  scanPeriod : Nat
  auxSettle  : Nat
  refLow     : Nat
  refHigh    : Nat
  tempLimit  : Int
  deriving DecidableEq, Repr

/-- The content of an ADVISE (R53): the account reference as its character codes, each line a denomination code and a
count. -/
structure Advice where
  tag          : Nat
  reference    : List Byte
  bagType      : Nat
  serviceClass : Nat
  validUntil   : Nat
  lines        : List (Nat × Nat)
  deriving DecidableEq, Repr

/-- How ADVICE_QUERY chooses an entry (R59). -/
inductive AdviceSelector where
  | byIndex (index : Nat)
  | byTag (tag : Nat)
  deriving DecidableEq, Repr

/-- The alarm settings given by ALARM_SET, the pulse width in ms (R177). -/
structure AlarmRequest where
  mode     : Option AlarmMode
  width    : Nat
  polarity : Option Polarity
  enables  : AlarmFlags
  deriving DecidableEq, Repr

/-- The commands of the part, in the order of spec/opcode_table.json. -/
inductive Instr where
  -- resets: the electrical levels of the 16 input lines as the reset finds them; seconds of outage
  | coldStart (levels : BitVec 16)
  | supplyRestart (levels : BitVec 16) (outage : Nat)
  -- input lines and tag readers
  | rawLevelChange (line : Fin 16) (active : Bool)
  | debounceTimerExpiry (line : Fin 16)
  | tagReport (h : HeadId) (number : Nat)
  | readFailureReport (h : HeadId)
  -- head timers
  | intakeTimerExpiry (h : HeadId)
  | descentTimerExpiry (h : HeadId)
  | windowTimerExpiry (h : HeadId)
  | gateTimerExpiry (h : HeadId)
  -- cradle channels
  | warmUpTimerExpiry (h : HeadId)
  | paceTimerExpiry (h : HeadId)
  | acquisitionTimeElapsed (h : HeadId)
  | conversionComplete (h : HeadId) (code : ConverterCode)
  | settleDelayExpiry (h : HeadId)
  | settleTimerExpiry (h : HeadId)
  | idleTimerExpiry (h : HeadId)
  | zeroIntervalExpiry (h : HeadId)
  -- auxiliary scanner: a value in mV, or in tenths of a degree for TEMP
  | scanPeriodExpiry
  | auxSettleElapsed
  | auxConversionComplete (value : Int)
  -- rack drive reports and the transfer timer
  | delivered (bin : Nat)
  | moveFault (code : Byte)
  | binOpened (bin : Nat)
  | unlockFault (bin : Nat)
  | binShut (bin : Nat) (floorEmpty : Bool)
  | unknownDriveReport
  | transferTimerExpiry
  -- release control timers, each of one bin
  | confirmTimerExpiry (bin : Nat)
  | unlockTimerExpiry (bin : Nat)
  | openLongTimerExpiry (bin : Nat)
  -- outputs, alarm and clock
  | checkTimerExpiry (output : Fin 15) (readback : Bool)
  | pulseTimerExpiry
  | clockSecond
  -- serial ports
  | byteReceived (p : PortId) (byte : Byte)
  | interByteGap (p : PortId)
  | watchTimerExpiry
  | frameSent (p : PortId)
  -- requests: kinds 0x3A to 0x3F are in no catalogue row (R198, section 11.7)
  | unlistedRequestKind (r : Req) (offset : Fin 6)
  | status (r : Req)
  | identify (r : Req)
  | settingsRead (r : Req) (group : Option SettingsGroup) (head : Nat)
  | linkSet (r : Req) (count : Nat) (unit : Option WatchUnit) (policy : Option LinkPolicy)
  | headOpen (r : Req) (heads : List Nat)
  | headClose (r : Req) (heads : List Nat)
  | headSet (r : Req) (head : Nat) (v : HeadSettings)
  | headClearFault (r : Req) (head : Nat)
  | weighSet (r : Req) (head : Nat) (v : WeighSettings)
  | weightRead (r : Req) (head : Nat)
  | scanSet (r : Req) (v : ScanSettings)
  | auxRead (r : Req)
  | advise (r : Req) (a : Advice)
  | withdraw (r : Req) (tag : Nat)
  | adviceQuery (r : Req) (sel : AdviceSelector)
  | denomSet (r : Req) (code : Nat) (kind : DenomKind) (mass : Nat) (enabled : Bool)
  | bagTypeSet (r : Req) (bagType : Nat) (tare : Nat)
  | toleranceSet (r : Req) (cls : Nat) (floor : Nat) (perMille : Nat)
  | logRead (r : Req) (fromSeq : Nat) (count : Nat)
  | logInfo (r : Req)
  | logPurge (r : Req)
  | logSet (r : Req) (threshold : Nat)
  | binSet (r : Req) (bin : Nat) (cls : Option BinClass) (zone : Nat) (limit : Nat)
  | binRead (r : Req) (first : Nat) (count : Nat)
  | zoneMapSet (r : Req) (zones : List Nat)
  | liftSet (r : Req) (mode : Option ArbMode) (runLimit : Nat) (transferTime : Nat)
  | liftRead (r : Req)
  | liftResolve (r : Req) (outcome : Option ResolveOutcome)
  | modeSetNight (r : Req)
  | modeSetDay (r : Req)
  | scheduleSet (r : Req) (nightStart : Nat) (dayMinute : Nat) (enabled : Bool)
  | setReleaseWindow (r : Req) (openMinute : Nat) (closeMinute : Nat)
  | officerSet (r : Req) (slot : Nat) (number : Nat) (role : Option Role) (enabled : Bool)
  | releaseSet (r : Req) (confirmTime : Nat) (unlockTime : Nat) (openLimit : Nat)
  | releaseRequest (r : Req) (bin : Nat) (officer : Nat)
  | releaseConfirm (r : Req) (bin : Nat) (officer : Nat)
  | releaseCancel (r : Req) (bin : Nat) (officer : Nat)
  | releaseRead (r : Req)
  | lineStatus (r : Req)
  | lineAck (r : Req) (lines : List Nat)
  | lineSet (r : Req) (line : Nat) (polarity : Polarity) (debounce : Nat)
  | lineReportSet (r : Req) (line : Nat) (edges : Option ReportEdges) (notify : Bool)
  | outputSet (r : Req) (output : Nat) (level : Bool)
  | clockRead (r : Req)
  | clockSet (r : Req) (value : BitVec 32)
  | alarmAck (r : Req)
  | alarmSet (r : Req) (v : AlarmRequest)
  | serviceEnter (r : Req) (kind : Option ServiceKind)
  | serviceExit (r : Req)
  | patternSet (r : Req) (levels : List (Option Bool))
  | snapshot (r : Req)
  | calZero (r : Req) (head : Nat)
  | calSpan (r : Req) (head : Nat) (reference : Nat)
  | calVerify (r : Req) (head : Nat) (reference : Nat) (tolerance : Nat)
  | statsRead (r : Req)
  | statsClear (r : Req)
  | restart (r : Req)
  | coldInitialise (r : Req)
  -- rack drive link: the last byte of an order has left
  | rackDriveOrderSent
  deriving DecidableEq, Repr

end Sys2Proof
end

