-- ==== Sys2Proof/Machine/State.lean ====
section
/-! DEFINITION. Machine/State.lean: the state of the ND-360, block by block, as plain data; the refusal codes, replies
and notices of its two ports; and `State.reset`, the part right after a cold start. Where an item is "present only in" a
state, the constructor of that state carries it. Timers hold the duration they were started with, or `none` when
stopped. -/

namespace Sys2Proof.Machine

/-- A timer: `none` when stopped, otherwise the duration it was started with, in the unit of its setting. -/
abbrev Timer := Option Nat

/-- One value for each of the three heads. -/
structure PerHead (α : Type) where
  a : α
  b : α
  c : α
  deriving DecidableEq, Repr

/-- The value for head `h`. -/
def PerHead.get {α : Type} (p : PerHead α) : HeadId → α
  | .a => p.a
  | .b => p.b
  | .c => p.c

/-- The triple with the value for head `h` replaced. -/
def PerHead.set {α : Type} (p : PerHead α) (h : HeadId) (v : α) : PerHead α :=
  match h with
  | .a => { p with a := v }
  | .b => { p with b := v }
  | .c => { p with c := v }

/-- A value of each head changed in the same way. -/
def PerHead.map {α β : Type} (p : PerHead α) (f : α → β) : PerHead β := ⟨f p.a, f p.b, f p.c⟩

/-! ### Refusal codes (section 11.6) -/

/-- A refusal code: the result of a reply that is not OK, also used as a per-head outcome of HEAD_OPEN (R5). -/
inductive Refuse where
  | badFormat | paramRange | wrongPort | wrongMode | clockUnset | tableFull | duplicateTag | denomDisabled | massRange
  | badWindow | notFound | adviceLodged | logFull | refFault | tempHigh | tamper | headFault | cradleOccupied
  | channelOff | headNotClosed | timeLocked | officerUnknown | officerBusy | binEmpty | binBusy | binInUse
  | reservationsFull | notReserved | sameOfficer | supervisorRequired | hatchBusy | binsOpen | inService | doorShut
  | liftNotFault | custodyOpen | headStarting
  deriving DecidableEq, Repr, Inhabited

/-! ### Drop heads (chapter 1) -/

/-- The causes of FAULT (R22). -/
inductive HeadFaultCause where
  | flapStuck | chuteJam | gateJam | cradleLost | unexpectedCradle | outputFault
  deriving DecidableEq, Repr

/-- The head state (R1); FAULT carries its cause. -/
inductive HeadState where
  | closed | warming | ready | intake | descent | examine | discharge | hold
  | fault (cause : HeadFaultCause)
  | recover
  deriving DecidableEq, Repr

/-- The close causes (R1, R19). -/
inductive CloseCause where
  | requested | mode | tempHigh | tamper | linkLost | logFull | refFault | restart
  deriving DecidableEq, Repr

/-- Why a weighing did not settle (R39). -/
inductive UnsettledCause where
  | overrange | refFault | timeout
  deriving DecidableEq, Repr

/-- The outcome of a weighing (R12, R38, R39). -/
inductive WeighOutcome where
  | settled (mass : Nat) (negative : Bool)
  | unsettled (cause : UnsettledCause)
  deriving DecidableEq, Repr

/-- The four timings a head latches (R1). -/
structure HeadTimings where
  intake  : Nat
  descent : Nat
  ident   : Nat
  gate    : Nat
  deriving DecidableEq, Repr

/-- Whether a head has made its restart decision (R25). While it has not, the first established level of its
CRADLE_SENSE line is held once there is one, since the decision uses the first levels (R4). -/
inductive RestartDecision where
  | made
  | awaited (firstCradle : Option Bool)
  deriving DecidableEq, Repr

/-- What one head controller holds (R1). Close pending and its close cause are one item: the cause is present exactly
while the flag is set. -/
structure Head where
  state        : HeadState
  closePending : Option CloseCause
  reservation  : Bool
  beamCount    : Nat
  earlyLanding : Bool
  tags         : List Nat
  windowDone   : Bool
  weighing     : Option WeighOutcome
  restarted    : Bool
  landed       : Option Nat
  latched      : HeadTimings
  cradleRecord : Option Nat
  staging      : List Nat
  settings     : HeadSettings
  intakeTimer  : Timer
  descentTimer : Timer
  windowTimer  : Timer
  gateTimer    : Timer
  decision     : RestartDecision
  deriving DecidableEq, Repr

/-! ### Weigh unit (chapter 2) -/

/-- The mass flag of R35 beside SATURATED. -/
inductive MassFlag where
  | plain | negative | high
  deriving DecidableEq, Repr

/-- A completed reading (R34, R35). -/
structure Reading where
  average   : Int
  saturated : Bool
  clear     : Bool
  warmUp    : Bool
  unclamped : Int
  mass      : Nat
  flag      : MassFlag
  deriving DecidableEq, Repr

/-- The partial reading (R27, R34): how many codes, their sum, whether one was saturated, and whether CRADLE_SENSE has
been inactive since the start of the first conversion. -/
structure PartialReading where
  count     : Nat
  sum       : Int
  saturated : Bool
  clear     : Bool
  deriving DecidableEq, Repr

/-- A conversion in progress: whether its result is dropped (a weighing began after its start, R36), and whether
CRADLE_SENSE has been inactive since its start. -/
structure Conversion where
  dropped : Bool
  clear   : Bool
  deriving DecidableEq, Repr

/-- Who asked for a weighing (R36). -/
inductive Requester where
  | head | service
  deriving DecidableEq, Repr

/-- The weighing record (R27, R36): the latched settings, the run so far, whether the settle delay has run, and whether
a reading has completed since the start (R39). -/
structure WeighRecord where
  requester   : Requester
  interval    : Nat
  acquisition : Nat
  exponent    : Nat
  band        : Nat
  count       : Nat
  stable      : Nat
  previous    : Option Reading
  delayRun    : Bool
  anyReading  : Bool
  settleDelay   : Nat
  settleTimeout : Nat
  deriving DecidableEq, Repr

/-- The warm-up phase (R27). -/
inductive WarmPhase where
  | running | done
  deriving DecidableEq, Repr

/-- The channel state (R27), with the warm-up phase and the weighing record where they are present. -/
inductive ChannelState where
  | off
  | warming (phase : WarmPhase)
  | idle
  | weighing (w : WeighRecord)
  deriving DecidableEq, Repr

/-- One cradle channel (R27, R33). -/
structure Channel where
  state        : ChannelState
  zero         : Int
  span         : Nat
  settings     : WeighSettings
  latest       : Option Reading
  gathered     : PartialReading
  conversion   : Option Conversion
  waiting      : Bool
  refFault     : Bool
  zeroDrift    : Bool
  warmUpTimer  : Timer
  paceTimer    : Timer
  acquireTimer : Timer
  idleTimer    : Timer
  zeroTimer    : Timer
  delayTimer   : Timer
  settleTimer  : Timer
  deriving DecidableEq, Repr

/-- The four aux readings, replaced together at an end of scan (R45): millivolts, and tenths of a degree. -/
structure AuxReadings where
  refA : Int
  refB : Int
  refC : Int
  temp : Int
  deriving DecidableEq, Repr

/-- The scan state (R45): SCANNING holds the values converted so far, oldest first (their number names the input in
hand), the latched aux settle time, and whether that time has run for the input in hand. -/
inductive ScanState where
  | idle
  | scanning (values : List Int) (settle : Nat) (converting : Bool)
  deriving DecidableEq, Repr

/-- The auxiliary scanner with the safe temperature condition (R45, R46, R49). -/
structure Scanner where
  state       : ScanState
  readings    : Option AuxReadings
  periodTimer : Timer
  settings    : ScanSettings
  tempHigh    : Bool
  deriving DecidableEq, Repr

/-! ### Advice table and judgement tables (chapters 3 and 4) -/

/-- The state of an occupied advice entry (R52); a lodged one carries its custody sequence. -/
inductive AdviceState where
  | pending
  | lodged (seq : Nat)
  | lodgedException (seq : Nat)
  deriving DecidableEq, Repr

/-- An occupied advice entry (R52). -/
structure AdviceEntry where
  index        : Nat
  tag          : Nat
  reference    : List Byte
  bagType      : Nat
  serviceClass : Nat
  lines        : List (Nat × Nat)
  expected     : Nat
  validUntil   : Nat
  state        : AdviceState
  deriving DecidableEq, Repr

/-- The advice table (R51): its occupied entries in rising order of index, and the lodging order, oldest first. -/
structure AdviceTable where
  entries : List AdviceEntry
  order   : List Nat
  deriving DecidableEq, Repr

/-- A denomination entry (R65). -/
structure Denomination where
  kind    : DenomKind
  mass    : Nat
  enabled : Bool
  deriving DecidableEq, Repr

/-- A tolerance entry (R67). -/
structure Tolerance where
  floor    : Nat
  perMille : Nat
  deriving DecidableEq, Repr

/-- The judgement engine's tables (R65, R66, R67): 16 denominations, 4 tares, 4 tolerance entries. -/
structure JudgeTables where
  denominations : List Denomination
  tares         : List Nat
  tolerances    : List Tolerance
  deriving DecidableEq, Repr

/-! ### Custody log (chapter 5) -/

/-- The verdicts, in the order in which they are tested (R73). -/
inductive Verdict where
  | multiple | unread | unsettled | unadvised | duplicate | shortMass | overMass | accepted
  deriving DecidableEq, Repr

/-- The cause field of a record (R75, R84). -/
inductive RecordCause where
  | none | noTag | tagConflict | timeout | overrange | refFault
  deriving DecidableEq, Repr

/-- The state of a custody record (R85). -/
inductive RecordState where
  | judged | inTransfer | stored | transferFault | withdrawn | released
  deriving DecidableEq, Repr

/-- A custody record (R84). -/
structure Record where
  seq         : Nat
  head        : HeadId
  tag         : Option Nat
  advice      : Option Nat
  verdict     : Verdict
  late        : Bool
  overflow    : Bool
  restarted   : Bool
  cause       : RecordCause
  measured    : Option Nat
  expected    : Option Nat
  tolerance   : Option Nat
  landed      : Nat
  bin         : Option Nat
  state       : RecordState
  storedTime  : Option Nat
  releaseTime : Option Nat
  officers    : Option (Nat × Nat)
  deriving DecidableEq, Repr

/-- The custody log (R91 to R96): records in log order. -/
structure CustodyLog where
  records      : List Record
  nextSeq      : Nat
  reservations : Nat
  lowWater     : Nat
  lowFlag      : Bool
  deriving DecidableEq, Repr

/-! ### Bin table (chapter 6) -/

/-- The lock state of a bin (R103); UNLOCKED carries the open-since time. -/
inductive LockState where
  | locked | reserved | unlocking
  | unlocked (since : Nat)
  deriving DecidableEq, Repr

/-- One bin (R103); its number is its place in the table. -/
structure Bin where
  cls   : BinClass
  zone  : Nat
  limit : Nat
  count : Nat
  mass  : Nat
  lock  : LockState
  deriving DecidableEq, Repr

/-- The bin table (R103): 60 bins, the zone map by service class, the zone-full flags by zone, the rack-full flag. -/
structure BinTable where
  bins     : List Bin
  zoneMap  : List Nat
  zoneFull : List Bool
  rackFull : Bool
  deriving DecidableEq, Repr

/-! ### Lift and arbiter (chapter 7) -/

/-- The lift's fault causes (R120). -/
inductive LiftFaultCause where
  | wrongBin | drive | timeout | restart
  deriving DecidableEq, Repr

/-- The in-flight record (R120). -/
structure InFlight where
  seq  : Nat
  head : HeadId
  bin  : Nat
  deriving DecidableEq, Repr

/-- The lift state (R120) with what is present exactly in it. -/
inductive LiftState where
  | idle
  | moving (f : InFlight) (grantTime : Nat)
  | fault (cause : LiftFaultCause) (f : InFlight)
  deriving DecidableEq, Repr

/-- An order on the rack drive link (R132). -/
inductive DriveOrder where
  | move (h : HeadId) (bin : Nat)
  | unlock (bin : Nat)
  deriving DecidableEq, Repr

/-- What the lift and arbiter holds (R120, R132); `orders` are the orders given and not yet wholly sent, the one being
sent first. -/
structure Lift where
  state           : LiftState
  lastHead        : HeadId
  runCount        : Nat
  mode            : ArbMode
  runLimit        : Nat
  transferTime    : Nat
  transferTimer   : Timer
  moveOutstanding : Option Nat
  unlockList      : List Nat
  orders          : List DriveOrder
  deriving DecidableEq, Repr

/-! ### Release control (chapter 8) -/

/-- The source of a change of mode (R138). -/
inductive ModeSource where
  | request | schedule
  deriving DecidableEq, Repr

/-- The device mode (R138); DAY_PENDING carries the pending source. -/
inductive Mode where
  | night
  | dayPending (source : ModeSource)
  | day
  deriving DecidableEq, Repr

/-- The name of a device mode, as notices and replies carry it. -/
inductive ModeName where
  | night | dayPending | day
  deriving DecidableEq, Repr

/-- The schedule (R143), minutes of day. -/
structure Schedule where
  nightStart : Nat
  dayMinute  : Nat
  enabled    : Bool
  deriving DecidableEq, Repr

/-- A release window (R145), minutes of day. -/
structure Window where
  openMinute  : Nat
  closeMinute : Nat
  deriving DecidableEq, Repr

/-- An officer slot's content (R147). -/
structure Officer where
  number  : Nat
  role    : Role
  enabled : Bool
  deriving DecidableEq, Repr

/-- The release settings (R148): s, s, min. -/
structure ReleaseSettings where
  confirmTime : Nat
  unlockTime  : Nat
  openLimit   : Nat
  deriving DecidableEq, Repr

/-- A live reservation (R148) with its running confirm timer (s). -/
structure Reservation where
  bin     : Nat
  officer : Nat
  made    : Nat
  timer   : Nat
  deriving DecidableEq, Repr

/-- The unlock record of a bin that is UNLOCKING or UNLOCKED (R154): the officer pair, the unlock timer or the
open-long timer (s), and the open-long mark. -/
structure UnlockRecord where
  bin        : Nat
  requesting : Nat
  confirming : Nat
  timer      : Timer
  openLong   : Bool
  deriving DecidableEq, Repr

/-- What release control holds (R138 to R154). -/
structure Release where
  mode         : Mode
  schedule     : Schedule
  active       : Window
  pending      : Option Window
  officers     : List (Option Officer)
  settings     : ReleaseSettings
  reservations : List Reservation
  unlocks      : List UnlockRecord
  deriving DecidableEq, Repr

/-! ### Lines, clock and alarm (chapter 9) -/

/-- One input line (R162). `high` is its electrical level; the raw level is that level after polarity. -/
structure InputLine where
  polarity  : Polarity
  debounce  : Nat
  report    : ReportEdges
  notify    : Bool
  high      : Bool
  debounced : Option Bool
  timer     : Timer
  event     : Bool
  deriving DecidableEq, Repr

/-- One output line (R170); `true` is energised. `readback` is the level last sensed. -/
structure OutputLine where
  owner    : Bool
  driven   : Bool
  readback : Bool
  fault    : Bool
  check    : Timer
  deriving DecidableEq, Repr

/-- The seven alarm causes (R175). -/
inductive AlarmCause where
  | linkLost | tamper | headFault | liftFault | binOpenLong | tempHigh | refFault
  deriving DecidableEq, Repr

/-- The alarm (R175, R177): latched causes, settings (pulse width in ms) and pulse timer. -/
structure Alarm where
  latched    : AlarmFlags
  mode       : AlarmMode
  width      : Nat
  polarity   : Polarity
  enables    : AlarmFlags
  pulseTimer : Timer
  deriving DecidableEq, Repr

/-! ### Service controller (chapter 10) -/

/-- The service state (R179). -/
inductive ServiceState where
  | none | hold | pattern | limp
  deriving DecidableEq, Repr

/-- The kind of a calibration step with its reference mass and tolerance (R179). -/
inductive CalKind where
  | zero
  | span (reference : Nat)
  | verify (reference : Nat) (tolerance : Nat)
  deriving DecidableEq, Repr

/-- The kind of a calibration step as replies and CAL_DONE name it, without its reference mass and tolerance (R183, R184,
R185). -/
inductive CalName where
  | zero | span | verify
  deriving DecidableEq, Repr

/-- The name of a kind (R183, R184, R185). -/
def CalKind.name : CalKind → CalName
  | .zero => .zero
  | .span _ => .span
  | .verify _ _ => .verify

/-- The phase of a calibration step (R179). -/
inductive CalPhase where
  | warming | weighing
  deriving DecidableEq, Repr

/-- The calibration step in progress (R179). -/
structure CalStep where
  head  : HeadId
  kind  : CalKind
  phase : CalPhase
  deriving DecidableEq, Repr

/-- The counters of one head (R190). -/
structure HeadStats where
  admitted  : Nat
  multiple  : Nat
  unread    : Nat
  unsettled : Nat
  unadvised : Nat
  duplicate : Nat
  shortMass : Nat
  overMass  : Nat
  accepted  : Nat
  faults    : Nat
  deriving DecidableEq, Repr

/-- The 35 statistics counters (R190). -/
structure Stats where
  heads         : PerHead HeadStats
  transfers     : Nat
  liftFaults    : Nat
  driveErrors   : Nat
  branchErrors  : Nat
  serviceErrors : Nat
  deriving DecidableEq, Repr

/-- What the service controller holds (R179). -/
structure Service where
  state   : ServiceState
  pattern : List Bool
  step    : Option CalStep
  stats   : Stats
  deriving DecidableEq, Repr

/-! ### Notices and replies (chapter 11) -/

/-- The cause of RESTARTED (R204). -/
inductive RestartCause where
  | cold | supply | request
  deriving DecidableEq, Repr

/-- The cause carried by HEAD_CLOSED (R24): a close cause, a refusal code of a failed opening, or FAULT_CLEARED. -/
inductive ClosedCause where
  | cause (c : CloseCause)
  | refusal (r : Refuse)
  | faultCleared
  deriving DecidableEq, Repr

/-- What a late report carried (R129). -/
inductive LateReport where
  | delivered (bin : Nat)
  | moveFault (code : Byte)
  deriving DecidableEq, Repr

/-- What LIFT_FAULT carries beside the record (R128). -/
inductive LiftFaultDetail where
  | wrongBin (reported : Nat)
  | drive (code : Byte)
  | timeout
  | restart
  deriving DecidableEq, Repr

/-- The reason of RESERVATION_ENDED (R151). -/
inductive EndReason where
  | expired | cancelled
  deriving DecidableEq, Repr

/-- The cause of UNLOCK_FAILED (R155). -/
inductive UnlockFailCause where
  | drive | timeout | restart
  deriving DecidableEq, Repr

/-- The mark of DEPOSIT_STORED (R127, R131). -/
inductive StoredMark where
  | drive | resolved
  deriving DecidableEq, Repr

/-- The outcome of a calibration step with the values CAL_DONE carries (R185 to R189). -/
inductive CalOutcome where
  | zeroDone (oldZero average : Int)
  | cradleOccupied (oldZero average : Int)
  | spanDone (difference : Int) (oldSpan candidate : Nat)
  | spanRange (difference : Int) (oldSpan : Nat) (candidate : Option Nat)
  | pass (measured : Nat) (difference : Int)
  | fail (measured : Nat) (difference : Int)
  | unsettled (cause : UnsettledCause)
  | aborted
  deriving DecidableEq, Repr

/-- The notices (section 11.7), each with the content its rule gives. -/
inductive Notice where
  | restarted (cause : RestartCause)
  | linkRestored
  | headClosed (h : HeadId) (cause : ClosedCause)
  | headFault (h : HeadId) (cause : HeadFaultCause)
  | zeroDrift (h : HeadId) (mass : Option Int)
  | refFault (h : HeadId) (millivolts : Int)
  | tempHigh (temperature : Int)
  | adviceExpired (tag index : Nat)
  | depositJudged (seq : Nat) (h : HeadId) (tag : Option Nat) (verdict : Verdict) (cause : RecordCause) (measured : Option Nat)
  | logLow (free threshold : Nat)
  | rackFull (h : HeadId) (seq mass : Nat) (standardToo : Bool)
  | zoneFull (zone seq bin : Nat)
  | depositStored (seq : Nat) (h : HeadId) (bin time : Nat) (mark : StoredMark)
  | liftFault (detail : LiftFaultDetail) (seq : Nat) (h : HeadId) (bin : Nat)
  | driveLateReport (report : LateReport) (seq bin : Nat)
  | modeChanged (new previous : ModeName) (source : ModeSource)
  | scheduleMissed (mode : ModeName) (code : Refuse)
  | reservationEnded (bin officer : Nat) (reason : EndReason)
  | unlockFailed (bin requesting confirming : Nat) (cause : UnlockFailCause)
  | binOpenLong (bin since requesting confirming : Nat)
  | binReleased (bin records time requesting confirming : Nat)
  | binNotEmpty (bin count requesting confirming : Nat)
  | lineEvent (line : Nat) (activated : Bool) (time : Option Nat)
  | outputFault (output : Nat) (driven readback : Bool)
  | calDone (h : HeadId) (kind : CalName) (outcome : CalOutcome)
  deriving DecidableEq, Repr

/-- What STATUS reports of one head (R202). -/
structure HeadReport where
  state        : HeadState
  closePending : Option CloseCause
  deriving DecidableEq, Repr

/-- The reply of STATUS (R202). -/
structure StatusReport where
  mode            : ModeName
  clockSet        : Bool
  heads           : PerHead HeadReport
  lift            : LiftState
  free            : Nat
  occupied        : Nat
  pendingAdvices  : Nat
  lodgedAdvices   : Nat
  refFaults       : PerHead Bool
  tempHigh        : Bool
  linkLost        : Bool
  latched         : AlarmFlags
  service         : ServiceState
  branchReceive   : Bool
  branchNotice    : Bool
  serviceReceive  : Bool
  serviceNotice   : Bool
  deriving DecidableEq, Repr

/-- The settings of one input line (R162), as SETTINGS_READ returns them. -/
structure LineSettings where
  polarity : Polarity
  debounce : Nat
  report   : ReportEdges
  notify   : Bool
  deriving DecidableEq, Repr

/-- The reply of SETTINGS_READ by group (R203). -/
inductive SettingsReport where
  | head (v : HeadSettings)
  | weigh (v : WeighSettings)
  | scan (v : ScanSettings)
  | tables (judge : JudgeTables) (zoneMap : List Nat)
  | log (lowWater : Nat)
  | lift (mode : ArbMode) (runLimit transferTime : Nat)
  | release (schedule : Schedule) (active : Window) (pending : Option Window) (settings : ReleaseSettings)
      (officers : List (Option Officer))
  | lines (v : List LineSettings)
  | alarm (mode : AlarmMode) (width : Nat) (polarity : Polarity) (enables : AlarmFlags)
  | link (count : Nat) (unit : WatchUnit) (policy : LinkPolicy)
  deriving DecidableEq, Repr

/-- The channel state as replies name it. -/
inductive ChannelName where
  | off | warming | idle | weighing
  deriving DecidableEq, Repr

/-- The latest reading as WEIGHT_READ returns it (R44). -/
structure ReadingReport where
  average   : Int
  mass      : Nat
  saturated : Bool
  flag      : MassFlag
  clear     : Bool
  warmUp    : Bool
  deriving DecidableEq, Repr

/-- The reply of WEIGHT_READ (R44). -/
structure WeightReport where
  state     : ChannelName
  zero      : Int
  span      : Nat
  refFault  : Bool
  zeroDrift : Bool
  latest    : Option ReadingReport
  deriving DecidableEq, Repr

/-- The reply of LOG_INFO (R98). -/
structure LogReport where
  count         : Nat
  oldest        : Nat
  newest        : Nat
  free          : Nat
  reservations  : Nat
  nextSeq       : Nat
  lowWater      : Nat
  lowFlag       : Bool
  judged        : Nat
  inTransfer    : Nat
  stored        : Nat
  transferFault : Nat
  withdrawn     : Nat
  released      : Nat
  deriving DecidableEq, Repr

/-- The reply of LIFT_READ (R135). -/
structure LiftReport where
  state           : LiftState
  lastHead        : HeadId
  runCount        : Nat
  mode            : ArbMode
  runLimit        : Nat
  transferTime    : Nat
  moveOutstanding : Option Nat
  unlockList      : List Nat
  driveErrors     : Nat
  deriving DecidableEq, Repr

/-- One unlock record as RELEASE_READ returns it (R159). -/
structure UnlockReport where
  bin         : Nat
  lock        : LockState
  requesting  : Nat
  confirming  : Nat
  secondsLeft : Option Nat
  openLong    : Bool
  deriving DecidableEq, Repr

/-- One reservation as RELEASE_READ returns it (R159). -/
structure ReservationReport where
  bin         : Nat
  officer     : Nat
  made        : Nat
  secondsLeft : Nat
  deriving DecidableEq, Repr

/-- The reply of RELEASE_READ (R159). -/
structure ReleaseReport where
  mode         : ModeName
  schedule     : Schedule
  active       : Window
  pending      : Option Window
  inside       : Bool
  settings     : ReleaseSettings
  reservations : List ReservationReport
  unlocks      : List UnlockReport
  deriving DecidableEq, Repr

/-- An output line as LINE_STATUS returns it (R167). -/
structure OutputReport where
  driven   : Bool
  readback : Bool
  fault    : Bool
  deriving DecidableEq, Repr

/-- The reply of SNAPSHOT (R183): per input its raw level, debounced level and event flag; per output its owner, driven
and readback levels and fault flag; the service state, the pattern, and the head, kind and phase of a calibration step in progress. -/
structure SnapshotReport where
  inputs  : List (Bool × Option Bool × Bool)
  outputs : List (Bool × Bool × Bool × Bool)
  service : ServiceState
  pattern : List Bool
  step    : Option (HeadId × CalName × CalPhase)
  deriving DecidableEq, Repr

/-- The content of a reply whose result is OK. -/
inductive ReplyBody where
  | done
  | status (v : StatusReport)
  | identity (partCode : String) (revision serial : Nat)
  | settings (v : SettingsReport)
  | headOutcomes (v : List (HeadId × Option Refuse))
  | headState (v : HeadState)
  | weight (v : WeightReport)
  | aux (scanning : Bool) (readings : Option AuxReadings) (refFaults : PerHead Bool) (tempHigh : Bool)
  | entered (index expected : Nat)
  | lateMatch (index expected seq : Nat) (verdict : Verdict)
  | freed (index : Nat)
  | adviceImage (bytes : List Byte)
  | records (images : List (List Byte)) (continuation : Nat)
  | logInfo (v : LogReport)
  | purged (records entries : Nat)
  | bins (v : List (Nat × Bin)) (zoneFull : List Bool) (rackFull : Bool)
  | lift (v : LiftReport)
  | resolved (seq : Nat) (state : RecordState)
  | mode (v : ModeName) (heads : List (HeadId × Option Refuse))
  | reserved (bin confirmTime : Nat)
  | bin (bin : Nat)
  | release (v : ReleaseReport)
  | lines (inputs : List (Option Bool × Bool)) (outputs : List OutputReport)
  | clock (seconds minute : Option Nat)
  | latched (v : AlarmFlags)
  | service (v : ServiceState)
  | snapshot (v : SnapshotReport)
  | calStarted (h : HeadId) (kind : CalName)
  | stats (v : Stats)
  deriving DecidableEq, Repr

/-- A reply (R198): refused with a code, or OK with its content. -/
inductive Reply where
  | refused (code : Refuse)
  | ok (body : ReplyBody)
  deriving DecidableEq, Repr

/-! ### Link interface (chapter 11) -/

/-- A port's receiver (R195): IN_FRAME holds the bytes after the start byte, in order of arrival. -/
inductive Receiver where
  | hunting
  | inFrame (bytes : List Byte)
  deriving DecidableEq, Repr

/-- A port's transmitter (R199): free, or sending the reply to the request in hand, or sending the front notice. -/
inductive Transmitter where
  | free | sendingReply | sendingNotice
  deriving DecidableEq, Repr

/-- One port (R195 to R200). The front of `requests` is the request in hand; `reply` is its reply until it is sent. -/
structure Port where
  receiver       : Receiver
  requests       : List Instr
  reply          : Option Reply
  transmitter    : Transmitter
  notices        : List Notice
  receiveOver    : Bool
  noticeOver     : Bool
  deriving DecidableEq, Repr

/-- The link interface: the two ports and the link watch (R201). -/
structure Link where
  branch  : Port
  service : Port
  count   : Nat
  unit    : WatchUnit
  policy  : LinkPolicy
  lost    : Bool
  timer   : Timer
  deriving DecidableEq, Repr

/-! ### The state, and why a step could stop -/

/-- The whole part, and the model's own two fields: `free`, the index of the next free value, and `pending`, the
commands that wait, first in first out. -/
structure State where
  heads    : PerHead Head
  channels : PerHead Channel
  scanner  : Scanner
  advices  : AdviceTable
  judge    : JudgeTables
  log      : CustodyLog
  rack     : BinTable
  lift     : Lift
  release  : Release
  inputs   : List InputLine
  outputs  : List OutputLine
  clock    : Option Nat
  alarm    : Alarm
  service  : Service
  link     : Link
  free     : Nat
  pending  : List Instr
  deriving DecidableEq, Repr

/-- Why the machine could stop with a fault: nothing does. Every fault the manual names (R22, R128, R172) is state the
part goes on from, so there is no constructor; safe, since no run ends here. -/
inductive Fault where
  deriving DecidableEq, Repr

/-- Why a command could be refused by the model. -/
inductive Refusal where
  /-- Raised by `exec` alone, for a command that has no meaning yet; safe: the run stops. No arm raises it now. -/
  | notModelled (mnemonic : String)
  deriving DecidableEq, Repr

/-! ### Cold-start values -/

/-- R3. -/
def coldHeadSettings : HeadSettings := ⟨45, 2000, 600, 3, false⟩

/-- The timings of head settings, as a head latches them (R7). -/
def HeadTimings.ofSettings (v : HeadSettings) : HeadTimings :=
  ⟨v.intakeTimeout, v.descentTimeout, v.identWindow, v.gateTimeout⟩

/-- R1. -/
def Head.cold : Head where
  state := .closed
  closePending := none
  reservation := false
  beamCount := 0
  earlyLanding := false
  tags := []
  windowDone := false
  weighing := none
  restarted := false
  landed := none
  latched := .ofSettings coldHeadSettings
  cradleRecord := none
  staging := []
  settings := coldHeadSettings
  intakeTimer := none
  descentTimer := none
  windowTimer := none
  gateTimer := none
  decision := .made

/-- R28. -/
def coldWeighSettings : WeighSettings := ⟨8, 30, 10, 2, 2, 300, 2000, 4, 4000, 5, 50000⟩

/-- The empty partial reading (R34). -/
def PartialReading.empty : PartialReading := ⟨0, 0, false, true⟩

/-- A channel after either reset with the zero code, span and settings given (R27). -/
def Channel.fresh (zero : Int) (span : Nat) (settings : WeighSettings) : Channel where
  state := .off
  zero := zero
  span := span
  settings := settings
  latest := none
  gathered := .empty
  conversion := none
  waiting := false
  refFault := false
  zeroDrift := false
  warmUpTimer := none
  paceTimer := none
  acquireTimer := none
  idleTimer := none
  zeroTimer := none
  delayTimer := none
  settleTimer := none

/-- R27. -/
def Channel.cold : Channel := .fresh 0 8192000 coldWeighSettings

/-- R46. -/
def coldScanSettings : ScanSettings := ⟨500, 25, 4750, 5250, 600⟩

/-- The scanner after either reset: the scan-period timer starts and the first scan starts at once (R45). -/
def Scanner.fresh (v : ScanSettings) : Scanner :=
  ⟨.scanning [] v.auxSettle false, none, some v.scanPeriod, v, false⟩

/-- R65, R66, R67. -/
def JudgeTables.cold : JudgeTables :=
  ⟨List.replicate 16 ⟨.note, 1, false⟩, List.replicate 4 0, List.replicate 4 ⟨5000, 10⟩⟩

/-- R101. -/
def CustodyLog.cold : CustodyLog := ⟨[], 1, 0, 64, false⟩

/-- A bin at a cold start, of the class given (R104). -/
def Bin.cold (cls : BinClass) : Bin := ⟨cls, 0, 30000000, 0, 0, .locked⟩

/-- R104. -/
def BinTable.cold : BinTable :=
  ⟨List.replicate 52 (.cold .standard) ++ List.replicate 8 (.cold .quarantine), List.replicate 4 0,
    List.replicate 4 false, false⟩

/-- R120. -/
def Lift.cold : Lift where
  state := .idle
  lastHead := .c
  runCount := 0
  mode := .alternate
  runLimit := 4
  transferTime := 40
  transferTimer := none
  moveOutstanding := none
  unlockList := []
  orders := []

/-- R160. -/
def Release.cold : Release where
  mode := .day
  schedule := ⟨1110, 390, false⟩
  active := ⟨480, 600⟩
  pending := none
  officers := List.replicate 16 none
  settings := ⟨60, 10, 15⟩
  reservations := []
  unlocks := []

/-- An input line at a cold start with the electrical level given: not established, its debounce timer started with its
debounce time (R162, R164). -/
def InputLine.cold (high : Bool) : InputLine := ⟨.activeHigh, 20, .none, false, high, none, some 20, false⟩

/-- An output line at a cold start: de-energised, its check timer started with 50 ms (R170). -/
def OutputLine.cold : OutputLine := ⟨false, false, false, false, some 50⟩

/-- All seven causes with one level. -/
def allCauses (v : Bool) : AlarmFlags := ⟨v, v, v, v, v, v, v⟩

/-- R177, R178. -/
def Alarm.cold : Alarm := ⟨allCauses false, .level, 2000, .activeHigh, allCauses true, none⟩

/-- All counters of a head 0 (R190). -/
def HeadStats.zero : HeadStats := ⟨0, 0, 0, 0, 0, 0, 0, 0, 0, 0⟩

/-- Every counter 0 (R190). -/
def Stats.zero : Stats := ⟨⟨.zero, .zero, .zero⟩, 0, 0, 0, 0, 0⟩

/-- The pattern with every output de-energised (R179). -/
def Service.clearPattern : List Bool := List.replicate 15 false

/-- R179. -/
def Service.cold : Service := ⟨.none, Service.clearPattern, none, .zero⟩

/-- A port after either reset, before any notice (R204). -/
def Port.fresh : Port := ⟨.hunting, [], none, .free, [], false, false⟩

/-- R201, R204: RESTARTED(COLD) is in the branch notice queue and is being sent, the transmitter being free (R199). -/
def Link.cold : Link where
  branch := { Port.fresh with notices := [.restarted .cold], transmitter := .sendingNotice }
  service := .fresh
  count := 60
  unit := .second
  policy := .keepOpen
  lost := false
  timer := some 60

/-- The part after a cold start with the electrical levels of its input lines given; the model's own fields are kept. -/
def State.cold (levels : BitVec 16) (free : Nat) (pending : List Instr) : State where
  heads := ⟨.cold, .cold, .cold⟩
  channels := ⟨.cold, .cold, .cold⟩
  scanner := .fresh coldScanSettings
  advices := ⟨[], []⟩
  judge := .cold
  log := .cold
  rack := .cold
  lift := .cold
  release := .cold
  inputs := (List.range 16).map fun i => InputLine.cold (levels.getLsbD i)
  outputs := List.replicate 15 .cold
  clock := none
  alarm := .cold
  service := .cold
  link := .cold
  free := free
  pending := pending

/-- The part right after its first power-up, every input line electrically low (DESIGN CHOICE, notes/assumptions/5). -/
def State.reset : State := State.cold 0 0 []

end Sys2Proof.Machine
end

