-- ==== Sys2Proof/Config.lean ====
section
/-! DEFINITION. Config.lean: what one part fixes and the manual does not, and the free values. Each is a constant with no
body, so that no proof can see its value and a claim holds whatever it is. A free value that can differ each time is
applied to the index `State.free`, which every draw advances. -/

namespace Sys2Proof

/-! ### The layouts of payloads that the manual does not give (notes/assumptions/2) -/

/-- The size in bytes of the payload of a request of kind `kind`, or of its fixed part where it carries a list (R198). -/
opaque Config.fixedSize (kind : Byte) : Nat

/-- The size in bytes of one item of the list that a request of kind `kind` carries (R198). -/
opaque Config.itemSize (kind : Byte) : Nat

/-- The number of items that the payload of a request of kind `kind` gives for its list (R198). -/
opaque Config.itemCount (kind : Byte) (payload : List Byte) : Nat

/-- The values of the fields of the payload of a request of kind `kind`, in the order in which the request's rule names
them; the items of its list where it carries one. -/
opaque Config.payloadFields (kind : Byte) (payload : List Byte) : List Int

/-- The payload bytes of a reply answered OK, after its result byte (R198), where the manual gives them no layout; of a
MODE_SET reply, those before the outcomes (R139). -/
opaque Config.replyContent (body : Machine.ReplyBody) : List Byte

/-- The payload bytes of a notice (section 11.7). -/
opaque Config.noticeContent (notice : Machine.Notice) : List Byte

/-! ### Identity and free values -/

/-- The revision number of IDENTIFY, less 1, before it is brought into 1 to 255 (R203, notes/assumptions/8). -/
opaque Config.revisionSeed : Nat

/-- The serial number of IDENTIFY, less 1, before it is brought into 1 to 4,294,967,295 (R203, notes/assumptions/8). -/
opaque Config.serialSeed : Nat

/-- The revision number, 1 to 255 (R203). -/
def Config.revision : Nat := Config.revisionSeed % 255 + 1

/-- The serial number, 1 to 4,294,967,295 (R203). -/
def Config.serial : Nat := Config.serialSeed % 4294967295 + 1

/-- The seconds left on a running timer when a reply shows them (R159); the reply bounds the value by the time the
timer was started with (notes/assumptions/7). -/
opaque Config.secondsLeft (index : Nat) : Nat

/-- The levels the 15 readback senses report when a reply shows them (R167, R183, notes/assumptions/6). -/
opaque Config.readbacks (index : Nat) : BitVec 15

/-- Whether the active electrical level of an output line other than ALARM is the high one: the manual says that it is
fixed, and not which it is (R170, notes/assumptions/44). -/
opaque Config.outputActiveHigh (output : Nat) : Bool

/-- Which of the six orders of the three heads applies where heads decide at the same moment of a restart: "Which head
is first is not fixed" (R25, notes/assumptions/13). -/
opaque Config.headOrder (index : Nat) : Nat

/-- The refusal of HEAD_SET, WEIGH_SET and HEAD_CLEAR_FAULT for a head that is not A, B or C, which their rules do not
state (R3, R24, R28, notes/assumptions/20). -/
opaque Config.unknownHead : Machine.Refuse

end Sys2Proof
end

