-- ==== Sys2Proof/Machine/Flags.lean ====
section
/-! DEFINITION. Machine/Flags.lean: the arithmetic of the manual and the flags and verdicts computed from it: average
codes and masses (R34, R35), the tolerance and the verdict (R72 to R75), the span candidate (R188), minutes of day and
release windows (R145, R173), the minute boundary (R174). All of it is exact integer arithmetic (spec/00_scope.md). -/

namespace Sys2Proof.Machine

/-! ### Codes and masses -/

/-- A code at either limit of the converter's range is saturated (R34). -/
def isSaturated (code : Int) : Bool := code == -131072 || code == 131071

/-- The average code of a reading of 2^k codes: the one code for k = 0, else the floor of (sum + 2^(k−1)) / 2^k (R34). -/
def averageCode (k : Nat) (sum : Int) : Int :=
  if k = 0 then sum else (sum + 2 ^ (k - 1)) / 2 ^ k

/-- `num / den` rounded to the nearest whole number with ties away from zero (R35, R188). -/
def roundAway (num : Int) (den : Nat) : Int :=
  num.sign * ((2 * num.natAbs + den) / (2 * den) : Nat)

/-- The unclamped mass of an average code (R35). -/
def unclampedMass (average zero : Int) (span : Nat) : Int := roundAway ((average - zero) * span) 65536

/-- The largest mass a reading gives, 25,000,000 mg (R35). -/
def massMax : Nat := 25000000

/-- The mass of a reading from its unclamped mass (R35). -/
def clampMass (u : Int) : Nat := if u < 0 then 0 else if (massMax : Int) < u then massMax else u.toNat

/-- The flag of a reading from its unclamped mass (R35). -/
def massFlag (u : Int) : MassFlag := if u < 0 then .negative else if (massMax : Int) < u then .high else .plain

/-- The reading of an average code with its marks, its mass worked out with the zero code and span given (R34, R35). -/
def makeReading (average zero : Int) (span : Nat) (saturated clear warmUp : Bool) : Reading :=
  let u := unclampedMass average zero span
  ⟨average, saturated, clear, warmUp, u, clampMass u, massFlag u⟩

/-- A reading flagged SATURATED or HIGH is never counted stable, and makes an expiry OVERRANGE (R37, R39). -/
def Reading.overrange (r : Reading) : Bool := r.saturated || r.flag == .high

/-- Whether two masses differ by no more than the settle band (R37). -/
def withinBand (band m n : Nat) : Bool := m ≤ n + band && n ≤ m + band

/-! ### Tolerance and verdict -/

/-- The tolerance of an expected mass under a tolerance entry (R72). -/
def toleranceOf (expected : Nat) (t : Tolerance) : Nat :=
  max t.floor ((expected * t.perMille + 999) / 1000)

/-- Tests 6 to 8 of R73 with the edges of R74, which belong to the accepted band. -/
def massVerdict (measured expected tolerance : Nat) : Verdict :=
  if measured + tolerance < expected then .shortMass
  else if expected + tolerance < measured then .overMass
  else .accepted

/-- The tag outcome of a tag list at the end of the window (R11). -/
inductive TagOutcome where
  | tag (n : Nat)
  | noTag
  | conflict
  deriving DecidableEq, Repr

/-- R11: empty, one number, or two. -/
def tagOutcome : List Nat → TagOutcome
  | [] => .noTag
  | [n] => .tag n
  | _ => .conflict

/-- The advice table's answer to a lookup (R60), with what judgement takes from a PENDING entry (R71). -/
inductive Lookup where
  | pending (index expected serviceClass : Nat)
  | lodged
  | none
  deriving DecidableEq, Repr

/-- The verdict: the first entry of the order of R73 whose condition holds. `tolerance` is that of a PENDING answer. -/
def verdictOf (beamCount : Nat) (tag : TagOutcome) (w : WeighOutcome) (l : Lookup) (tolerance : Nat) : Verdict :=
  if 2 ≤ beamCount then .multiple
  else match tag, w, l with
    | .noTag, _, _ | .conflict, _, _ => .unread
    | .tag _, .unsettled _, _ => .unsettled
    | .tag _, .settled _ _, .none => .unadvised
    | .tag _, .settled _ _, .lodged => .duplicate
    | .tag _, .settled m _, .pending _ e _ => massVerdict m e tolerance

/-- The record's cause (R75). -/
def causeOf (tag : TagOutcome) (w : WeighOutcome) : RecordCause :=
  match tag, w with
  | .noTag, _ => .noTag
  | .conflict, _ => .tagConflict
  | .tag _, .unsettled .overrange => .overrange
  | .tag _, .unsettled .refFault => .refFault
  | .tag _, .unsettled .timeout => .timeout
  | .tag _, .settled _ _ => .none

/-! ### Calibration -/

/-- The candidate span of a reference mass and a positive code difference (R188). -/
def candidateSpan (reference difference : Nat) : Nat := (roundAway (reference * 65536 : Nat) difference).toNat

/-! ### Time -/

/-- The largest value of the device clock and of every statistics counter (R173, R190). -/
def wordMax : Nat := 4294967295

/-- The minute of day of a clock value (R173). -/
def minuteOfDay (t : Nat) : Nat := t / 60 % 1440

/-- Whether a minute of day lies inside a release window, which crosses midnight when the open minute is above the
close minute; the close minute lies outside (R145). -/
def Window.contains (w : Window) (m : Nat) : Bool :=
  if w.openMinute < w.closeMinute then w.openMinute ≤ m && m < w.closeMinute
  else w.openMinute ≤ m || m < w.closeMinute

/-- Whether the device clock lies inside a window; UNSET lies outside every window (R145). -/
def insideWindow (w : Window) : Option Nat → Bool
  | some t => w.contains (minuteOfDay t)
  | none => false

/-- A counter increased by 1, staying at its maximum (R190). -/
def countUp (n : Nat) : Nat := if n < wordMax then n + 1 else n

/-! ### Sequence numbers -/

/-- The sequence number after `n`: 1 after 16,777,215 (R92). -/
def seqAfter (n : Nat) : Nat := if 16777215 ≤ n then 1 else n + 1

/-- The first number from `n` on that no record holds, trying at most `fuel` candidates (R92). -/
def freeSeq (held : List Nat) : Nat → Nat → Nat
  | 0, n => n
  | fuel + 1, n => if n ∈ held then freeSeq held fuel (seqAfter n) else n

/-- The next sequence number after `taken` was given to a record; `held` are the numbers the log then holds. A number
that no record holds is found within one candidate more than there are records (R92). -/
def nextSeqAfter (held : List Nat) (taken : Nat) : Nat := freeSeq held held.length (seqAfter taken)

/-! ### Mass of an advice -/

/-- The expected mass of an advice: the tare plus the sum over its lines of count times unit mass (R68). -/
def expectedMass (j : JudgeTables) (a : Advice) : Nat :=
  (j.tares[a.bagType]?).getD 0 +
    (a.lines.map fun l => l.2 * ((j.denominations[l.1]?).map (·.mass)).getD 0).sum

end Sys2Proof.Machine
end

