-- ==== Sys2Proof/Machine/Ops.lean ====
section
/-! DEFINITION. Machine/Ops.lean: the operations every block shares: access to heads, channels, lines, outputs, ports,
records and bins; notices and transmitters (R199, R200); output lines (R171); the alarm (R175, R177); the statistics
(R190); free values. -/

namespace Sys2Proof.Machine

/-! ### Access -/

/-- The number of a head: 0 for A, 1 for B, 2 for C (R205). -/
def headIndex : HeadId → Nat
  | .a => 0
  | .b => 1
  | .c => 2

/-- The head of a code (R205); other codes name no head. -/
def headOfCode : Nat → Option HeadId
  | 0 => some .a
  | 1 => some .b
  | 2 => some .c
  | _ => none

/-- The controller of head `h`. -/
def State.head (s : State) (h : HeadId) : Head := s.heads.get h

/-- The state with the controller of head `h` replaced. -/
def State.setHead (s : State) (h : HeadId) (v : Head) : State := { s with heads := s.heads.set h v }

/-- The cradle channel of head `h`. -/
def State.channel (s : State) (h : HeadId) : Channel := s.channels.get h

/-- The state with the cradle channel of head `h` replaced. -/
def State.setChannel (s : State) (h : HeadId) (v : Channel) : State := { s with channels := s.channels.set h v }

/-- The port named. -/
def State.port (s : State) : PortId → Port
  | .branch => s.link.branch
  | .service => s.link.service

/-- The state with a port replaced. -/
def State.setPort (s : State) (p : PortId) (v : Port) : State :=
  match p with
  | .branch => { s with link := { s.link with branch := v } }
  | .service => { s with link := { s.link with service := v } }

/-- An input line that no state lacks: what reading past the table gives. -/
def InputLine.absent : InputLine := .cold false

/-- Input line `n` (R162). -/
def State.input (s : State) (n : Nat) : InputLine := (s.inputs[n]?).getD .absent

/-- The state with input line `n` replaced. -/
def State.setInput (s : State) (n : Nat) (v : InputLine) : State := { s with inputs := s.inputs.set n v }

/-- Output line `n` (R170). -/
def State.output (s : State) (n : Nat) : OutputLine := (s.outputs[n]?).getD .cold

/-- The state with output line `n` replaced. -/
def State.setOutput (s : State) (n : Nat) (v : OutputLine) : State := { s with outputs := s.outputs.set n v }

/-- The raw level of an input line: its electrical level after polarity (R162). -/
def InputLine.raw (l : InputLine) : Bool := l.high == (l.polarity == .activeHigh)

/-- The level a block finds when it consults a line: not established counts as inactive (R162). -/
def InputLine.level (l : InputLine) : Bool := l.debounced.getD false

/-- Whether input line `n` is active for a block that consults it (R162). -/
def State.active (s : State) (n : Nat) : Bool := (s.input n).level

/-- The numbers of a head's input lines (R162). -/
def intakeShutLine (h : HeadId) : Nat := 4 * headIndex h
/-- CHUTE_BEAM (R162). -/
def chuteBeamLine (h : HeadId) : Nat := 4 * headIndex h + 1
/-- CRADLE_SENSE (R162). -/
def cradleLine (h : HeadId) : Nat := 4 * headIndex h + 2
/-- GATE_SHUT (R162). -/
def gateShutLine (h : HeadId) : Nat := 4 * headIndex h + 3
/-- DOOR_SHUT (R162). -/
def doorShutLine : Nat := 12
/-- TAMPER (R162). -/
def tamperLine : Nat := 13

/-- The numbers of a head's output lines (R170). -/
def flapReleaseOutput (h : HeadId) : Nat := 4 * headIndex h
/-- GATE_OPEN (R170). -/
def gateOpenOutput (h : HeadId) : Nat := 4 * headIndex h + 1
/-- INTAKE_LAMP (R170). -/
def intakeLampOutput (h : HeadId) : Nat := 4 * headIndex h + 2
/-- READER_ON (R170). -/
def readerOnOutput (h : HeadId) : Nat := 4 * headIndex h + 3
/-- ALARM (R170). -/
def alarmOutput : Nat := 12
/-- GP-OUT-1 (R170). -/
def gpOut1 : Nat := 13
/-- GP-OUT-2 (R170). -/
def gpOut2 : Nat := 14

/-- Whether CRADLE_SENSE of head `h` is active. -/
def State.cradle (s : State) (h : HeadId) : Bool := s.active (cradleLine h)

/-- The record with sequence number `seq`, if the log holds one. -/
def State.record (s : State) (seq : Nat) : Option Record := s.log.records.find? fun r => r.seq == seq

/-- The log with the record of sequence number `seq` changed, its place kept. -/
def State.updateRecord (s : State) (seq : Nat) (f : Record → Record) : State :=
  { s with log := { s.log with records := s.log.records.map fun r => if r.seq = seq then f r else r } }

/-- Bin `n`, if the rack has it (R103). -/
def State.bin (s : State) (n : Nat) : Option Bin := s.rack.bins[n]?

/-- The rack with bin `n` changed. -/
def State.updateBin (s : State) (n : Nat) (f : Bin → Bin) : State :=
  { s with rack := { s.rack with bins := s.rack.bins.modify n f } }

/-- The name of a mode. -/
def Mode.name : Mode → ModeName
  | .night => .night
  | .dayPending _ => .dayPending
  | .day => .day

/-- The device mode. -/
def State.mode (s : State) : ModeName := s.release.mode.name

/-- The clock value an event records; while the clock is UNSET it is shown as 0 (R206; notes/assumptions/29). -/
def State.now (s : State) : Nat := s.clock.getD 0

/-! ### Free values -/

/-- The state after one free value has been drawn at `s.free`. -/
def State.drawn (s : State) : State := { s with free := s.free + 1 }

/-! ### Notices and transmitters -/

/-- The port a notice is sent on: CAL_DONE on the service port, every other on the branch link (R200). -/
def Notice.port : Notice → PortId
  | .calDone _ _ _ => .service
  | _ => .branch

/-- How many notices a port's queue holds (R200). -/
def noticeCapacity : PortId → Nat
  | .branch => 32
  | .service => 8

/-- A notice joins the tail of its port's queue, or finds it full, is discarded and sets the overflow flag (R200). -/
def Port.offer (p : Port) (capacity : Nat) (n : Notice) : Port :=
  if p.notices.length < capacity then { p with notices := p.notices ++ [n] } else { p with noticeOver := true }

/-- A block raises a notice (R200). -/
def notify (n : Notice) (s : State) : State :=
  s.setPort n.port ((s.port n.port).offer (noticeCapacity n.port) n)

/-- A free transmitter starts the reply if one is ready, otherwise the front notice, otherwise nothing (R199). -/
def Port.pump (p : Port) : Port :=
  match p.transmitter, p.reply, p.notices with
  | .free, some _, _ => { p with transmitter := .sendingReply }
  | .free, none, _ :: _ => { p with transmitter := .sendingNotice }
  | _, _, _ => p

/-- Both transmitters, each when it is free (R199): done once at the end of every command, so that a reply made by the
command goes before the notices it raised. -/
def pump (s : State) : State :=
  { s with link := { s.link with branch := s.link.branch.pump, service := s.link.service.pump } }

/-! ### Output lines -/

/-- The driven level takes a level: a change starts the check timer with 50 ms (R172). -/
def OutputLine.drive (o : OutputLine) (level : Bool) : OutputLine :=
  if o.driven = level then o else { o with driven := level, check := some 50 }

/-- The active electrical level of an output line, whether it is the high one: of ALARM by the alarm polarity (R177), of every
other fixed (R170, notes/assumptions/44). -/
def State.outputActiveHigh (s : State) (n : Nat) : Bool :=
  if n = alarmOutput then s.alarm.polarity == .activeHigh else Config.outputActiveHigh n

/-- Whether an output line is electrically high: energised is its active electrical level (R170, R177). It is read off the
driven level and the polarity at each moment, so that a change of polarity acts at once and starts no check. -/
def State.outputHigh (s : State) (n : Nat) : Bool := (s.output n).driven == s.outputActiveHigh n

/-- An owner commands an output: the owner level is stored, and driven while no service state is held (R171). -/
def handOutput (n : Nat) (level : Bool) (s : State) : State :=
  let o := { s.output n with owner := level }
  s.setOutput n (if s.service.state = .none then o.drive level else o)

/-- Whether a head commands FLAP_RELEASE energised (R2). -/
def Head.flap (hd : Head) : Bool := hd.state == .ready || hd.state == .intake
/-- Whether a head commands INTAKE_LAMP energised (R2). -/
def Head.lamp (hd : Head) : Bool := hd.state == .ready && hd.closePending.isNone
/-- Whether a head commands READER_ON energised: in EXAMINE while the tag window runs (R2). -/
def Head.reader (hd : Head) : Bool := hd.state == .examine && hd.windowTimer.isSome
/-- Whether a head commands GATE_OPEN energised: in DISCHARGE until the cradle clears, that is while the cradle record
is still with the head (R2, R16). -/
def Head.gate (hd : Head) : Bool := hd.state == .discharge && hd.cradleRecord.isSome

/-- Head `h` hands its four levels to the line unit (R2). -/
def driveHead (h : HeadId) (s : State) : State :=
  let hd := s.head h
  s |> handOutput (flapReleaseOutput h) hd.flap
    |> handOutput (gateOpenOutput h) hd.gate
    |> handOutput (intakeLampOutput h) hd.lamp
    |> handOutput (readerOnOutput h) hd.reader

/-- Head `h` changes; its outputs follow at once (R2). -/
def updateHead (h : HeadId) (f : Head → Head) (s : State) : State :=
  driveHead h (s.setHead h (f (s.head h)))

/-! ### Alarm -/

/-- The flag of a cause. -/
def causeSet (f : AlarmFlags) : AlarmCause → Bool
  | .linkLost => f.linkLost
  | .tamper => f.tamper
  | .headFault => f.headFault
  | .liftFault => f.liftFault
  | .binOpenLong => f.binOpenLong
  | .tempHigh => f.tempHigh
  | .refFault => f.refFault

/-- The flags with that of a cause set. -/
def raiseCause (f : AlarmFlags) : AlarmCause → AlarmFlags
  | .linkLost => { f with linkLost := true }
  | .tamper => { f with tamper := true }
  | .headFault => { f with headFault := true }
  | .liftFault => { f with liftFault := true }
  | .binOpenLong => { f with binOpenLong := true }
  | .tempHigh => { f with tempHigh := true }
  | .refFault => { f with refFault := true }

/-- Both sets of flags at once: the causes set in each. -/
def bothCauses (f g : AlarmFlags) : AlarmFlags :=
  ⟨f.linkLost && g.linkLost, f.tamper && g.tamper, f.headFault && g.headFault, f.liftFault && g.liftFault,
    f.binOpenLong && g.binOpenLong, f.tempHigh && g.tempHigh, f.refFault && g.refFault⟩

/-- Whether some cause is set. -/
def anyCause (f : AlarmFlags) : Bool :=
  f.linkLost || f.tamper || f.headFault || f.liftFault || f.binOpenLong || f.tempHigh || f.refFault

/-- The ALARM owner level in LEVEL mode: energised while a latched cause has its enable flag set (R177). -/
def Alarm.levelRule (a : Alarm) : Bool := anyCause (bothCauses a.latched a.enables)

/-- In LEVEL mode the ALARM line is evaluated again (R177). -/
def alarmLevel (s : State) : State :=
  if s.alarm.mode = .level then handOutput alarmOutput s.alarm.levelRule s else s

/-- A cause is reported (R175): if its flag is clear it newly latches, with the effect of R177 on the ALARM line. -/
def reportAlarm (c : AlarmCause) (s : State) : State :=
  if causeSet s.alarm.latched c then s
  else
    let s := { s with alarm := { s.alarm with latched := raiseCause s.alarm.latched c } }
    match s.alarm.mode with
    | .level => alarmLevel s
    | .pulse =>
      if causeSet s.alarm.enables c && s.alarm.pulseTimer.isNone then
        handOutput alarmOutput true { s with alarm := { s.alarm with pulseTimer := some s.alarm.width } }
      else s

/-! ### Statistics -/

/-- The statistics changed (R190). -/
def updateStats (f : Stats → Stats) (s : State) : State :=
  { s with service := { s.service with stats := f s.service.stats } }

/-- The counters of head `h` changed (R190). -/
def updateHeadStats (h : HeadId) (f : HeadStats → HeadStats) (s : State) : State :=
  updateStats (fun t => { t with heads := t.heads.set h (f (t.heads.get h)) }) s

/-- One for a judgement with the verdict given (R79). -/
def HeadStats.countVerdict (t : HeadStats) : Verdict → HeadStats
  | .multiple => { t with multiple := countUp t.multiple }
  | .unread => { t with unread := countUp t.unread }
  | .unsettled => { t with unsettled := countUp t.unsettled }
  | .unadvised => { t with unadvised := countUp t.unadvised }
  | .duplicate => { t with duplicate := countUp t.duplicate }
  | .shortMass => { t with shortMass := countUp t.shortMass }
  | .overMass => { t with overMass := countUp t.overMass }
  | .accepted => { t with accepted := countUp t.accepted }

/-- An unmatched report on the rack drive link: nothing but one drive error (R133). -/
def driveError (s : State) : State := updateStats (fun t => { t with driveErrors := countUp t.driveErrors }) s

/-- A frame discarded by a port's receiver (R195). -/
def frameError (p : PortId) (s : State) : State :=
  updateStats (fun t => match p with
    | .branch => { t with branchErrors := countUp t.branchErrors }
    | .service => { t with serviceErrors := countUp t.serviceErrors }) s

/-! ### The outcome of a command -/

/-- A command leads to a next state, after the transmitters have been served. -/
def done (s : State) : Host.Outcome State Fault Refusal := .next (pump s)

end Sys2Proof.Machine
end

