-- ==== Sys2Proof/Machine/Advice.lean ====
section
/-! DEFINITION. Machine/Advice.lean: the advice table's operations (chapter 3): the lookup (R60), lodging (R61), entering
at the lowest free index (R55), freeing (R58, R62), the expiry sweep (R63), and the record a new advice late-matches
(R56). -/

namespace Sys2Proof.Machine

/-- How many entries the table has (R51). -/
def adviceCapacity : Nat := 400

/-- Whether an entry is PENDING. -/
def AdviceEntry.isPending (e : AdviceEntry) : Bool := e.state == .pending

/-- The PENDING entry with a tag; R53 keeps at most one. -/
def AdviceTable.pendingOf (t : AdviceTable) (tag : Nat) : Option AdviceEntry :=
  t.entries.find? fun e => e.isPending && e.tag == tag

/-- Whether a lodged entry has the tag. -/
def AdviceTable.lodgedHas (t : AdviceTable) (tag : Nat) : Bool :=
  t.entries.any fun e => !e.isPending && e.tag == tag

/-- The entry at an index, if it is occupied. -/
def AdviceTable.entry (t : AdviceTable) (index : Nat) : Option AdviceEntry :=
  t.entries.find? fun e => e.index == index

/-- The advice table's answer to a lookup (R60). -/
def AdviceTable.lookup (t : AdviceTable) (tag : Nat) : Lookup :=
  match t.pendingOf tag with
  | some e => .pending e.index e.expected e.serviceClass
  | none => if t.lodgedHas tag then .lodged else .none

/-- The state of a lodged entry: LODGED for ACCEPTED, LODGED_EXCEPTION otherwise, with its custody sequence (R61). -/
def lodgedState (v : Verdict) (seq : Nat) : AdviceState :=
  if v = .accepted then .lodged seq else .lodgedException seq

/-- The entry at an index is lodged to a record, and its index joins the tail of the lodging order (R61). -/
def AdviceTable.lodge (t : AdviceTable) (index : Nat) (v : Verdict) (seq : Nat) : AdviceTable :=
  ⟨t.entries.map fun e => if e.index = index then { e with state := lodgedState v seq } else e, t.order ++ [index]⟩

/-- The lowest index no entry of the list occupies, from `n` on; the list is in rising order of index. -/
def lowestFree : Nat → List AdviceEntry → Nat
  | n, [] => n
  | n, e :: rest => if e.index = n then lowestFree (n + 1) rest else n

/-- The free entry with the lowest index (R55). -/
def AdviceTable.freeIndex (t : AdviceTable) : Nat := lowestFree 0 t.entries

/-- An entry takes its place in rising order of index. -/
def insertEntry (e : AdviceEntry) : List AdviceEntry → List AdviceEntry
  | [] => [e]
  | x :: rest => if e.index < x.index then e :: x :: rest else x :: insertEntry e rest

/-- The entry of an advice at an index, with its expected mass, its valid-until time in whole minutes and a state (R52,
R55). -/
def entryOf (a : Advice) (index expected : Nat) (state : AdviceState) : AdviceEntry :=
  ⟨index, a.tag, a.reference, a.bagType, a.serviceClass, a.lines, expected, a.validUntil / 60 * 60, state⟩

/-- The entry at an index is freed, and leaves the lodging order if it was in it (R58, R62). -/
def AdviceTable.freeEntry (t : AdviceTable) (index : Nat) : AdviceTable :=
  ⟨t.entries.filter fun e => e.index != index, t.order.filter fun i => i != index⟩

/-- Whether a record can be late-matched by an advice with a tag (R56). -/
def Record.lateMatchable (r : Record) (tag : Nat) : Bool :=
  r.verdict == .unadvised && !r.late && r.tag == some tag &&
    (r.state == .judged || r.state == .inTransfer || r.state == .stored || r.state == .transferFault)

/-- Whether an entry is swept at a clock value: PENDING, its valid-until time at or before it (R63). -/
def AdviceEntry.expiredAt (e : AdviceEntry) (t : Nat) : Bool := e.isPending && e.validUntil ≤ t

/-- The expiry sweep at a clock value: every expired PENDING entry is freed, with one ADVICE_EXPIRED each in increasing
order of index (R63). -/
def sweepAdvices (t : Nat) (s : State) : State :=
  let gone := s.advices.entries.filter (·.expiredAt t)
  let s := { s with advices := { s.advices with entries := s.advices.entries.filter fun e => !e.expiredAt t } }
  gone.foldl (fun s e => notify (.adviceExpired e.tag e.index) s) s

/-- Whether the text of an account reference is well formed: 1 to 16 characters, codes 0x20 to 0x7E (R54). -/
def referenceOk (l : List Byte) : Bool :=
  1 ≤ l.length && l.length ≤ 16 && l.all fun c => 0x20 ≤ c.toNat && c.toNat ≤ 0x7E

/-- Whether no denomination code is named twice (R54). -/
def distinctCodes (l : List (Nat × Nat)) : Bool := decide (l.map (·.1)).Nodup

/-- Check 2 of ADVISE: the content is well formed (R54). -/
def Advice.contentOk (a : Advice) : Bool :=
  1 ≤ a.tag && a.tag ≤ 999999999 && referenceOk a.reference && a.bagType ≤ 3 && a.serviceClass ≤ 3 &&
    1 ≤ a.lines.length && a.lines.length ≤ 8 &&
    (a.lines.all fun l => l.1 ≤ 15 && 1 ≤ l.2 && l.2 ≤ 9999) && distinctCodes a.lines

/-- Check 3 of ADVISE: every line's denomination is enabled (R53). -/
def Advice.denominationsEnabled (j : JudgeTables) (a : Advice) : Bool :=
  a.lines.all fun l => ((j.denominations[l.1]?).map (·.enabled)).getD false

/-- Check 5 of ADVISE: the truncated valid-until time is later than the clock, by at most 604,800 s; it fails while the
clock is UNSET (R53, R54). -/
def Advice.windowOk (clock : Option Nat) (a : Advice) : Bool :=
  match clock with
  | none => false
  | some t => t < a.validUntil / 60 * 60 && a.validUntil / 60 * 60 ≤ t + 604800

/-- The first check of R53 that fails. -/
def adviseRefusal (s : State) (a : Advice) : Option Refuse :=
  if adviceCapacity ≤ s.advices.entries.length then some .tableFull
  else if Advice.contentOk a = false then some .badFormat
  else if Advice.denominationsEnabled s.judge a = false then some .denomDisabled
  else if 20000000 < expectedMass s.judge a then some .massRange
  else if Advice.windowOk s.clock a = false then some .badWindow
  else if (s.advices.pendingOf a.tag).isSome then some .duplicateTag
  else none

end Sys2Proof.Machine
end

