-- ==== Sys2Proof/Machine/Log.lean ====
section
/-! DEFINITION. Machine/Log.lean: the custody log's operations (chapter 5): the free count (R91), reservations (R93),
the low-water flag (R95), the making of a record (R86). -/

namespace Sys2Proof.Machine

/-- The most records the log holds (R91). -/
def logCapacity : Nat := 1024

/-- The free count: 1,024 less the records less the reservation count (R91). -/
def CustodyLog.free (l : CustodyLog) : Nat := logCapacity - l.records.length - l.reservations

/-- The free count of the log. -/
def State.logFree (s : State) : Nat := s.log.free

/-- The low-water flag is judged where the free count stands at or below the threshold: LOG_LOW is sent and the flag
set, if it was clear (R95, R96, R102). -/
def lowWaterFall (s : State) : State :=
  if s.logFree ≤ s.log.lowWater ∧ s.log.lowFlag = false then
    notify (.logLow s.logFree s.log.lowWater) { s with log := { s.log with lowFlag := true } }
  else s

/-- The low-water flag is cleared where the free count stands above the threshold (R95, R96, R99, R102). -/
def lowWaterRise (s : State) : State :=
  if s.log.lowWater < s.logFree then { s with log := { s.log with lowFlag := false } } else s

/-- The flag judged in both directions, as LOG_SET and the end of a supply restart do (R96, R102). -/
def judgeLowWater (s : State) : State := lowWaterFall (lowWaterRise s)

/-- Head `h` asks for a reservation: `none` where the free count is 0 (R93). -/
def takeReservation (h : HeadId) (s : State) : Option State :=
  if s.logFree = 0 then none
  else
    let s := s.setHead h { s.head h with reservation := true }
    some (lowWaterFall { s with log := { s.log with reservations := s.log.reservations + 1 } })

/-- Head `h` gives its reservation back, if it holds one (R93). -/
def giveBack (h : HeadId) (s : State) : State :=
  if (s.head h).reservation then
    let s := s.setHead h { s.head h with reservation := false }
    lowWaterRise { s with log := { s.log with reservations := s.log.reservations - 1 } }
  else s

/-- Head `h` spends its reservation on a record: it takes the next sequence number and joins the tail of the log, the
next sequence number advances past every number held, and the head holds it as its cradle record (R86, R92). -/
def createRecord (h : HeadId) (make : Nat → Record) (s : State) : State :=
  let seq := s.log.nextSeq
  let records := s.log.records ++ [make seq]
  let log := { s.log with
    records := records
    nextSeq := nextSeqAfter (records.map (·.seq)) seq
    reservations := if (s.head h).reservation then s.log.reservations - 1 else s.log.reservations }
  let s := { s with log := log }
  s.setHead h { s.head h with reservation := false, cradleRecord := some seq, landed := none }

end Sys2Proof.Machine
end

