-- ==== Sys2Proof/Machine/Weigh.lean ====
section
/-! DEFINITION. Machine/Weigh.lean: the cradle channels' own operations (chapter 2), and the stopping of a calibration
step (R186), which a head entering a state brings about. -/

namespace Sys2Proof.Machine

/-- The sample interval in force: the latched one during a weighing (R28). -/
def Channel.interval (c : Channel) : Nat :=
  match c.state with
  | .weighing w => w.interval
  | _ => c.settings.sampleInterval

/-- The acquisition time in force (R28). -/
def Channel.acquisition (c : Channel) : Nat :=
  match c.state with
  | .weighing w => w.acquisition
  | _ => c.settings.acquisitionTime

/-- The oversampling exponent in force (R28). -/
def Channel.exponent (c : Channel) : Nat :=
  match c.state with
  | .weighing w => w.exponent
  | _ => c.settings.exponent

/-- Whether the channel is WARMING. -/
def Channel.isWarming (c : Channel) : Bool :=
  match c.state with
  | .warming _ => true
  | _ => false

/-- The channel of head `h` changes. -/
def updateChannel (h : HeadId) (f : Channel → Channel) (s : State) : State := s.setChannel h (f (s.channel h))

/-- A conversion starts: the pace timer is restarted, the acquisition time runs, no trigger waits (R33). -/
def Channel.startConversion (c : Channel) (cradleActive : Bool) : Channel :=
  { c with
    conversion := some ⟨false, !cradleActive⟩
    acquireTimer := some c.acquisition
    paceTimer := some c.interval
    waiting := false }

/-- A trigger starts a conversion, or waits while the acquisition time since the previous start runs (R33). -/
def Channel.trigger (c : Channel) (cradleActive : Bool) : Channel :=
  if c.acquireTimer.isSome then { c with waiting := true } else c.startConversion cradleActive

/-- CRADLE_SENSE has become active: no reading in progress can be marked clear (R34). -/
def Channel.cradleSeen (c : Channel) : Channel :=
  { c with
    conversion := c.conversion.map fun v => { v with clear := false }
    gathered := if c.gathered.count = 0 then c.gathered else { c.gathered with clear := false } }

/-- The converter is powered down: timers stopped, partial and latest readings discarded (R31, R32). -/
def Channel.powerDown (c : Channel) : Channel :=
  { Channel.fresh c.zero c.span c.settings with refFault := c.refFault, zeroDrift := c.zeroDrift }

/-- Whether a calibration step is in progress on the channel of head `h`. -/
def State.stepOn (s : State) (h : HeadId) : Bool := s.service.step.any fun st => st.head == h

/-- The idle timer runs exactly while the channel is IDLE, its head CLOSED and no calibration step in progress on it; it
starts from the full idle time when the three first hold together (R32). -/
def refreshIdle (h : HeadId) (s : State) : State :=
  updateChannel h (fun c =>
    if c.state = .idle ∧ (s.head h).state = .closed ∧ s.stepOn h = false then
      { c with idleTimer := some (c.idleTimer.getD c.settings.idleTime) }
    else { c with idleTimer := none }) s

/-- The return to IDLE after a weighing (R40). -/
def Channel.returnToIdle (c : Channel) : Channel :=
  match c.state with
  | .weighing w =>
    { c with
      state := .idle
      delayTimer := none
      settleTimer := none
      zeroTimer := some c.settings.zeroInterval
      gathered := if c.settings.exponent = w.exponent then c.gathered else .empty }
  | _ => c

/-- A weighing is abandoned: its record is dropped with no outcome and the channel returns to IDLE; in any other state
nothing changes (R41). -/
def abandonWeighing (h : HeadId) (s : State) : State :=
  refreshIdle h (updateChannel h Channel.returnToIdle s)

/-- The calibration step in progress is stopped with outcome ABORTED (R186): its weighing is abandoned, or the warm-up
it alone wanted is ended by R31. -/
def stopStep (s : State) : State :=
  match s.service.step with
  | none => s
  | some st =>
    let h := st.head
    let s := if st.phase = .weighing then abandonWeighing h s else s
    let s := notify (.calDone h st.kind.name .aborted) { s with service := { s.service with step := none } }
    let s := if st.phase = .warming ∧ (s.head h).state = .closed ∧ (s.channel h).isWarming = true then
        updateChannel h Channel.powerDown s
      else s
    refreshIdle h s

/-- A channel that is OFF is powered: the warm-up timer runs and the first conversion starts at once (R29, R33). -/
def Channel.powerUp (c : Channel) (cradleActive : Bool) : Channel :=
  { c with state := .warming .running, warmUpTimer := some c.settings.warmUpTime }.startConversion cradleActive

/-- The channel of head `h` is asked to warm up (R29): nothing new while WARMING or IDLE; a calibration weighing is
abandoned and its step told so. -/
def askWarm (h : HeadId) (s : State) : State :=
  match (s.channel h).state with
  | .off => updateChannel h (·.powerUp (s.cradle h)) s
  | .warming _ | .idle => s
  | .weighing w =>
    if w.requester = .service then
      let s := abandonWeighing h s
      if s.stepOn h then stopStep s else s
    else s

/-- The head of a WARMING channel has entered CLOSED and no calibration step is in progress on it: the warm-up is
ended (R31). -/
def endUnwantedWarmUp (h : HeadId) (s : State) : State :=
  if (s.channel h).isWarming = true ∧ s.stepOn h = false then updateChannel h Channel.powerDown s else s

/-- A zero evaluation or a warm-up capture failed: zero drift is set, with ZERO_DRIFT only where it was clear (R30,
R42). `mass` is absent for a saturated reading. -/
def zeroFailed (h : HeadId) (mass : Option Int) (s : State) : State :=
  if (s.channel h).zeroDrift then s
  else notify (.zeroDrift h mass) (updateChannel h (fun c => { c with zeroDrift := true }) s)

/-- The zero is evaluated at an expiry of the zero-interval timer (R42). -/
def evaluateZero (h : HeadId) (s : State) : State :=
  let c := s.channel h
  match c.latest with
  | none => s
  | some r =>
    if s.cradle h || c.refFault || !r.clear then s
    else if r.saturated = false ∧ r.unclamped.natAbs ≤ c.settings.zeroWindow then
      updateChannel h (fun c => { c with zero := r.average, zeroDrift := false }) s
    else zeroFailed h (if r.saturated then none else some r.unclamped) s

end Sys2Proof.Machine
end

