-- ==== Sys2Proof/Machine/Heads.lean ====
section
/-! DEFINITION. Machine/Heads.lean: the drop head controllers (chapter 1), the judgement a head asks for (chapter 4), the
weighing a head or a calibration step asks for (R36 to R41), and the end of a calibration step (R185 to R189). The
operations stand in the order in which they use one another. -/

namespace Sys2Proof.Machine

/-- Whether a head has still to make its restart decision (R25). -/
def Head.starting (hd : Head) : Bool :=
  match hd.decision with
  | .awaited _ => true
  | .made => false

/-- Whether the state is CLOSED or FAULT: the two in which a head's calibration step goes on (R186). -/
def HeadState.atRest : HeadState → Bool
  | .closed | .fault _ => true
  | _ => false

/-- A head takes a new state: its outputs follow (R2), a calibration step on its channel is stopped where the state is
neither CLOSED nor FAULT (R186), and the idle timer is looked at (R32). -/
def moveHead (h : HeadId) (f : Head → Head) (s : State) : State :=
  let s := updateHead h f s
  let s := if s.stepOn h && !(s.head h).state.atRest then stopStep s else s
  refreshIdle h s

/-! ### Closing and faults -/

/-- The head enters CLOSED with notice HEAD_CLOSED; close pending and its cause are then cleared (R19), and a warm-up no
longer wanted is ended (R31). -/
def closeHead (h : HeadId) (cause : ClosedCause) (s : State) : State :=
  notify (.headClosed h cause) s
    |> moveHead h (fun hd => { hd with state := .closed, closePending := none })
    |> endUnwantedWarmUp h

/-- A head in READY with close pending and its flap shut gives back its reservation and closes (R20). -/
def closeReady (h : HeadId) (cause : CloseCause) (s : State) : State :=
  closeHead h (.cause cause) (giveBack h s)

/-- Close pending reaches head `h` (R19): nothing in CLOSED; otherwise the flag is set and an earlier cause is kept; a
READY head acts by R20, a WARMING head closes at once by R21, every other keeps the flag. -/
def receiveClose (h : HeadId) (c : CloseCause) (s : State) : State :=
  if (s.head h).state = .closed then s
  else
    let cause := (s.head h).closePending.getD c
    let s := updateHead h (fun hd => { hd with closePending := some cause }) s
    match (s.head h).state with
    | .ready => if s.active (intakeShutLine h) then closeReady h cause s else s
    | .warming => closeHead h (.cause cause) s
    | _ => s

/-- A cause that reaches all heads (R19), in the order A, B, C (notes/assumptions/12). -/
def closeAll (c : CloseCause) (s : State) : State := HeadId.all.foldl (fun s h => receiveClose h c s) s

/-- Log full: every head that is in READY receives close pending with cause LOG_FULL (R94). -/
def logFullSignal (s : State) : State :=
  HeadId.all.foldl (fun s h => if (s.head h).state = .ready then receiveClose h .logFull s else s) s

/-- A granted reservation has been made use of: where it brought the free count to 0, log full is signalled (R94). -/
def signalIfFull (s : State) : State := if s.logFree = 0 then logFullSignal s else s

/-- Head `h` enters FAULT with the entry actions of R23; the examination items start afresh (notes/assumptions/18). -/
def enterFault (h : HeadId) (cause : HeadFaultCause) (s : State) : State :=
  let examining := (s.head h).state = .examine
  let s := moveHead h (fun hd => { hd with
    state := .fault cause
    intakeTimer := none
    descentTimer := none
    windowTimer := none
    gateTimer := none
    tags := []
    windowDone := false
    weighing := none
    landed := none }) s
  let s := if examining then abandonWeighing h s else s
  notify (.headFault h cause) s
    |> reportAlarm .headFault
    |> updateHeadStats h (fun t => { t with faults := countUp t.faults })

/-! ### Discharge and staging -/

/-- The end of discharge (R17). -/
def endDischarge (h : HeadId) (s : State) : State :=
  let s := updateHead h (fun hd => { hd with gateTimer := none, beamCount := 0 }) s
  match (s.head h).closePending with
  | some c => closeHead h (.cause c) s
  | none =>
    if (s.channel h).state = .off ∨ (s.channel h).isWarming = true then
      moveHead h (fun hd => { hd with state := .warming }) (askWarm h s)
    else
      match takeReservation h s with
      | some s => signalIfFull (moveHead h (fun hd => { hd with state := .ready }) s)
      | none => closeHead h (.cause .logFull) s

/-- The cradle has cleared in DISCHARGE: the cradle record joins the tail of the staging queue and GATE_OPEN is
de-energised; with GATE_SHUT active discharge ends at once (R16). -/
def cradleCleared (h : HeadId) (s : State) : State :=
  match (s.head h).cradleRecord with
  | none => s
  | some seq =>
    let s := updateHead h (fun hd => { hd with staging := hd.staging ++ [seq], cradleRecord := none }) s
    if s.active (gateShutLine h) then endDischarge h s else s

/-- The gate opens (R15): GATE_OPEN energised, the gate timer started; an inactive CRADLE_SENSE counts as cleared at
once. -/
def openGate (h : HeadId) (s : State) : State :=
  let s := moveHead h (fun hd => { hd with state := .discharge, gateTimer := some hd.latched.gate }) s
  if s.cradle h then s else cradleCleared h s

/-- A judged bag on the cradle: the gate opens if staging has room, otherwise the head enters HOLD (R15). -/
def enterDischarge (h : HeadId) (s : State) : State :=
  if (s.head h).staging.length < 2 then openGate h s
  else moveHead h (fun hd => { hd with state := .hold }) s

/-- Entry to HOLD after a supply restart or HEAD_CLEAR_FAULT: the settings are latched first, and the head discharges at
once if staging has room (R18). -/
def enterHold (h : HeadId) (s : State) : State :=
  let s := moveHead h (fun hd => { hd with state := .hold, latched := .ofSettings hd.settings }) s
  if (s.head h).staging.length < 2 then openGate h s else s

/-- An entry has left the staging queue: a head in HOLD enters DISCHARGE (R18). -/
def leaveHold (h : HeadId) (s : State) : State :=
  if (s.head h).state = .hold ∧ (s.head h).staging.length < 2 then openGate h s else s

/-! ### Judgement -/

/-- The lookup of a judgement: none is made for a bag with no tag or a conflict (R71). -/
def lookupFor (t : AdviceTable) : TagOutcome → Lookup
  | .tag n => t.lookup n
  | _ => .none

/-- The tolerance entry of a service class (R67). -/
def JudgeTables.toleranceEntry (j : JudgeTables) (cls : Nat) : Tolerance := (j.tolerances[cls]?).getD ⟨0, 0⟩

/-- The tolerance of a judgement, worked out for a PENDING answer (R72). -/
def toleranceFor (j : JudgeTables) : Lookup → Option Nat
  | .pending _ e c => some (toleranceOf e (j.toleranceEntry c))
  | _ => none

/-- The record a judgement makes, less its sequence number (R76). -/
def judgedRecord (h : HeadId) (hd : Head) (w : WeighOutcome) (l : Lookup) (tol : Option Nat) (seq : Nat) : Record where
  seq := seq
  head := h
  tag := match tagOutcome hd.tags with
    | .tag n => some n
    | _ => none
  advice := match l with
    | .pending i _ _ => some i
    | _ => none
  verdict := verdictOf hd.beamCount (tagOutcome hd.tags) w l (tol.getD 0)
  late := false
  overflow := false
  restarted := hd.restarted
  cause := causeOf (tagOutcome hd.tags) w
  measured := match w with
    | .settled m _ => some m
    | .unsettled _ => none
  expected := match l with
    | .pending _ e _ => some e
    | _ => none
  tolerance := tol
  landed := hd.landed.getD 0
  bin := none
  state := .judged
  storedTime := none
  releaseTime := none
  officers := none

/-- The judgement of head `h` with the weighing outcome `w` (R70): lookup, tolerance, verdict, record, lodging, notice and
count, after which the head enters DISCHARGE. -/
def judge (h : HeadId) (w : WeighOutcome) (s : State) : State :=
  let hd := s.head h
  let l := lookupFor s.advices (tagOutcome hd.tags)
  let seq := s.log.nextSeq
  let r := judgedRecord h hd w l (toleranceFor s.judge l) seq
  let s := createRecord h (judgedRecord h hd w l (toleranceFor s.judge l)) s
  let s := match l with
    | .pending i _ _ => { s with advices := s.advices.lodge i r.verdict seq }
    | _ => s
  notify (.depositJudged seq h r.tag r.verdict r.cause r.measured) s
    |> updateHeadStats h (·.countVerdict r.verdict)
    |> enterDischarge h

/-- A weighing outcome is handed to the head: in EXAMINE it is held, and the bag is judged if the tag window is done
(R12). -/
def headOutcome (h : HeadId) (w : WeighOutcome) (s : State) : State :=
  if (s.head h).state = .examine then
    let s := updateHead h (fun hd => { hd with weighing := some w }) s
    if (s.head h).windowDone then judge h w s else s
  else s

/-! ### Weighings -/

/-- The end of a calibration step: its outcome, and the channel as the outcome leaves it (R187, R188, R189). `average` is
the settling reading's average code. -/
def calResult (kind : CalKind) (w : WeighOutcome) (average : Int) (c : Channel) : CalOutcome × Channel :=
  match w with
  | .unsettled cause => (.unsettled cause, c)
  | .settled m _ =>
    match kind with
    | .zero =>
      if (c.latest.map (·.clear)).getD false then
        (.zeroDone c.zero average, { c with zero := average, zeroDrift := false })
      else (.cradleOccupied c.zero average, c)
    | .span reference =>
      let d := average - c.zero
      if d < 2000 then (.spanRange d c.span none, c)
      else
        let candidate := candidateSpan reference d.toNat
        if candidate < 1 ∨ 16777215 < candidate then (.spanRange d c.span (some candidate), c)
        else (.spanDone d c.span candidate, { c with span := candidate })
    | .verify reference tol =>
      let d := (m : Int) - reference
      (if d.natAbs ≤ tol then .pass m d else .fail m d, c)

/-- A weighing outcome is handed to the service controller: the step in progress on the channel ends with CAL_DONE
(R185). -/
def endStep (h : HeadId) (w : WeighOutcome) (average : Int) (s : State) : State :=
  match s.service.step with
  | none => s
  | some st =>
    if st.head = h then
      let (outcome, c) := calResult st.kind w average (s.channel h)
      let s := s.setChannel h c
      notify (.calDone h st.kind.name outcome) { s with service := { s.service with step := none } }
        |> refreshIdle h
    else s

/-- A weighing in progress completes: the channel returns to IDLE (R40) and the outcome goes to the requester (R38,
R39). -/
def finishWeighing (h : HeadId) (w : WeighOutcome) (average : Int) (s : State) : State :=
  match (s.channel h).state with
  | .weighing r =>
    let s := abandonWeighing h s
    match r.requester with
    | .head => headOutcome h w s
    | .service => endStep h w average s
  | _ => s

/-- The weighing record of a channel's settings (R36). A settle delay of 0 counts as having run. -/
def WeighRecord.start (v : WeighSettings) (q : Requester) : WeighRecord where
  requester := q
  interval := v.sampleInterval
  acquisition := v.acquisitionTime
  exponent := v.exponent
  band := v.settleBand
  count := v.settleCount
  stable := 0
  previous := none
  delayRun := v.settleDelay == 0
  anyReading := false
  settleDelay := v.settleDelay
  settleTimeout := v.settleTimeout

/-- An IDLE channel takes a weighing (R36). A conversion still in progress is no part of the first reading, which begins
with the LANDING conversion, so its result will be dropped (notes/assumptions/14). -/
def Channel.startWeighing (c : Channel) (q : Requester) (cradleActive : Bool) : Channel :=
  let c := { c with
    state := .weighing (.start c.settings q)
    zeroTimer := none
    delayTimer := if c.settings.settleDelay = 0 then none else some c.settings.settleDelay
    settleTimer := some c.settings.settleTimeout
    gathered := .empty
    conversion := c.conversion.map fun (v : Conversion) => { v with dropped := true } }
  c.trigger cradleActive

/-- The channel of head `h` is asked for a weighing: taken in IDLE; with the reference fault set it completes at once
(R36). -/
def startWeighing (h : HeadId) (q : Requester) (s : State) : State :=
  if (s.channel h).state = .idle then
    let s := refreshIdle h (updateChannel h (·.startWeighing q (s.cradle h)) s)
    if (s.channel h).refFault then finishWeighing h (.unsettled .refFault) 0 s else s
  else s

/-! ### Examination and recovery -/

/-- Entry to EXAMINE (R10). -/
def enterExamine (h : HeadId) (s : State) : State :=
  let landed := s.clock
  moveHead h (fun hd => { hd with
    state := .examine
    landed := landed
    intakeTimer := none
    descentTimer := none
    windowTimer := some hd.latched.ident }) s
    |> startWeighing h .head

/-- Entry to RECOVER (R26); the examination items start afresh (notes/assumptions/18). -/
def enterRecover (h : HeadId) (s : State) : State :=
  let s := moveHead h (fun hd => { hd with
    state := .recover
    latched := .ofSettings hd.settings
    beamCount := 1
    restarted := true
    earlyLanding := false
    tags := []
    windowDone := false
    weighing := none
    landed := none }) s
  match (s.channel h).state with
  | .idle => enterExamine h s
  | .off | .warming _ => askWarm h s
  | .weighing _ => enterExamine h (askWarm h s)

/-- The channel tells its head that it has entered IDLE after a warm-up: R6 in WARMING, R26 in RECOVER. -/
def headChannelIdle (h : HeadId) (s : State) : State :=
  match (s.head h).state with
  | .warming =>
    if s.cradle h then enterFault h .unexpectedCradle s
    else
      match takeReservation h s with
      | some s => signalIfFull (moveHead h (fun hd => { hd with state := .ready }) s)
      | none => closeHead h (.cause .logFull) s
  | .recover => enterExamine h s
  | _ => s

/-- The channel tells the service controller that it has entered IDLE: a step in its warming phase asks for its weighing
(R185). -/
def stepChannelIdle (h : HeadId) (s : State) : State :=
  match s.service.step with
  | some st =>
    if st.head = h ∧ st.phase = .warming then
      startWeighing h .service
        { s with service := { s.service with step := some { st with phase := .weighing } } }
    else s
  | none => s

/-! ### Readings -/

/-- The comparison of a completed reading with the previous counted one (R37). -/
def WeighRecord.compare (w : WeighRecord) (p r : Reading) : Nat :=
  if p.overrange = false ∧ r.overrange = false ∧ withinBand w.band p.mass r.mass = true then w.stable + 1 else 0

/-- A reading completes in WEIGHING (R37, R38). -/
def countReading (h : HeadId) (w : WeighRecord) (r : Reading) (s : State) : State :=
  let w := { w with anyReading := true }
  if w.delayRun = false then updateChannel h (fun c => { c with state := .weighing w }) s
  else
    match w.previous with
    | none => updateChannel h (fun c => { c with state := .weighing { w with previous := some r } }) s
    | some p =>
      let n := w.compare p r
      let s := updateChannel h (fun c => { c with state := .weighing { w with previous := some r, stable := n } }) s
      if w.count ≤ n then finishWeighing h (.settled r.mass (r.flag == .negative)) r.average s else s

/-- The first reading completed with the warm-up phase DONE ends the warm-up: it may capture the zero (R30). -/
def endWarmUp (h : HeadId) (average : Int) (saturated clear : Bool) (s : State) : State :=
  let c := s.channel h
  let s :=
    if c.refFault || !clear then s
    else if saturated then zeroFailed h none s
    else updateChannel h (fun c => { c with zero := average, zeroDrift := false }) s
  updateChannel h (fun c => { c with
      latest := some (makeReading average c.zero c.span saturated clear false)
      gathered := .empty
      state := .idle
      warmUpTimer := none
      zeroTimer := some c.settings.zeroInterval }) s
    |> refreshIdle h
    |> headChannelIdle h
    |> stepChannelIdle h

/-- The partial reading holds 2^k codes: the reading completes and becomes the latest reading (R34). -/
def completeReading (h : HeadId) (s : State) : State :=
  let c := s.channel h
  let g := c.gathered
  let average := averageCode c.exponent g.sum
  match c.state with
  | .warming .done => endWarmUp h average g.saturated g.clear s
  | .weighing w =>
    let r := makeReading average c.zero c.span g.saturated g.clear false
    countReading h w r (updateChannel h (fun c => { c with latest := some r, gathered := .empty }) s)
  | .warming .running | .idle | .off =>
    let r := makeReading average c.zero c.span g.saturated g.clear (c.state == .warming .running)
    updateChannel h (fun c => { c with latest := some r, gathered := .empty }) s

/-- A conversion's result joins the partial reading (R34). -/
def PartialReading.add (g : PartialReading) (code : Int) (clear : Bool) : PartialReading :=
  ⟨g.count + 1, g.sum + code, g.saturated || isSaturated code, g.clear && clear⟩

/-- A conversion completes with its code (R34). -/
def addConversion (h : HeadId) (code : Int) (s : State) : State :=
  match (s.channel h).conversion with
  | none => s
  | some v =>
    if v.dropped then updateChannel h (fun c => { c with conversion := none }) s
    else
      let s := updateChannel h (fun c => { c with
        conversion := none
        gathered := c.gathered.add code v.clear }) s
      if 2 ^ (s.channel h).exponent ≤ (s.channel h).gathered.count then completeReading h s else s

/-- The settle timer expires: OVERRANGE if the last reading to complete since the start is flagged SATURATED or HIGH,
otherwise TIMEOUT (R39). -/
def settleExpired (h : HeadId) (s : State) : State :=
  match (s.channel h).state with
  | .weighing w =>
    let high := w.anyReading && ((s.channel h).latest.map Reading.overrange).getD false
    finishWeighing h (.unsettled (if high then .overrange else .timeout)) 0 s
  | _ => s

/-! ### Line events at a head (chapter 1) -/

/-- The start of a deposit (R7). -/
def startDeposit (h : HeadId) (s : State) : State :=
  moveHead h (fun hd => { hd with
    state := .intake
    latched := .ofSettings hd.settings
    beamCount := 1
    earlyLanding := false
    tags := []
    windowDone := false
    weighing := none
    restarted := false
    landed := none
    intakeTimer := some hd.settings.intakeTimeout }) s
    |> updateHeadStats h (fun t => { t with admitted := countUp t.admitted })

/-- One more beam break, staying at 255 (R8, R9). -/
def countBeam (h : HeadId) (s : State) : State :=
  updateHead h (fun hd => { hd with beamCount := if hd.beamCount < 255 then hd.beamCount + 1 else hd.beamCount }) s

/-- INTAKE_SHUT activates (R8, R20). -/
def intakeShut (h : HeadId) (s : State) : State :=
  match (s.head h).state with
  | .ready =>
    match (s.head h).closePending with
    | some c => closeReady h c s
    | none => s
  | .intake =>
    if (s.head h).earlyLanding then enterExamine h s
    else moveHead h (fun hd => { hd with
      state := .descent
      intakeTimer := none
      descentTimer := some hd.latched.descent }) s
  | _ => s

/-- CHUTE_BEAM activates (R7, R8, R9). -/
def chuteBeam (h : HeadId) (s : State) : State :=
  match (s.head h).state with
  | .ready => startDeposit h s
  | .intake | .descent => countBeam h s
  | _ => s

/-- CRADLE_SENSE activates (R8, R9, R16, R22). A head that awaits its restart decision stays CLOSED (R25, R164,
notes/assumptions/19). -/
def cradleActivated (h : HeadId) (s : State) : State :=
  match (s.head h).state with
  | .closed => if (s.head h).starting then s else enterFault h .unexpectedCradle s
  | .warming | .ready => enterFault h .unexpectedCradle s
  | .intake => updateHead h (fun hd => { hd with earlyLanding := true }) s
  | .descent => enterExamine h s
  | .discharge => if (s.head h).cradleRecord.isNone then enterFault h .unexpectedCradle s else s
  | .examine | .hold | .fault _ | .recover => s

/-- CRADLE_SENSE deactivates (R8, R13, R16, R18, R26). -/
def cradleDeactivated (h : HeadId) (s : State) : State :=
  match (s.head h).state with
  | .intake => updateHead h (fun hd => { hd with earlyLanding := false }) s
  | .examine => enterFault h .cradleLost (giveBack h s)
  | .discharge => cradleCleared h s
  | .hold => enterFault h .cradleLost s
  | .recover => enterFault h .cradleLost (giveBack h s)
  | .closed | .warming | .ready | .descent | .fault _ => s

/-- GATE_SHUT activates: it ends a discharge whose cradle has cleared (R16). -/
def gateShut (h : HeadId) (s : State) : State :=
  if (s.head h).state = .discharge ∧ (s.head h).cradleRecord = none then endDischarge h s else s

/-- An edge of line `role` (0 INTAKE_SHUT, 1 CHUTE_BEAM, 2 CRADLE_SENSE, 3 GATE_SHUT) reaches its head (R4, R165). -/
def headEdge (h : HeadId) (role : Nat) (activation : Bool) (s : State) : State :=
  match role, activation with
  | 0, true => intakeShut h s
  | 1, true => chuteBeam h s
  | 2, true => cradleActivated h s
  | 2, false => cradleDeactivated h s
  | 3, true => gateShut h s
  | _, _ => s

/-- A readback mismatch on FLAP_RELEASE or GATE_OPEN of the head: every state but FAULT enters FAULT(OUTPUT_FAULT) (R22,
R26). A head that awaits its restart decision stays CLOSED (R25, R164, notes/assumptions/19). -/
def outputMismatch (h : HeadId) (s : State) : State :=
  match (s.head h).state with
  | .fault _ => s
  | .closed => if (s.head h).starting then s else enterFault h .outputFault s
  | .warming | .ready | .intake | .descent | .examine | .discharge | .hold | .recover => enterFault h .outputFault s

end Sys2Proof.Machine
end

