-- ==== Sys2Proof/Machine/Rack.lean ====
section
/-! DEFINITION. Machine/Rack.lean: the bin table's operations (chapter 6): the zone of a record (R105), its allocation
mass (R109), the choice of a bin (R110, R111), the fit check (R112), the allocation (R113, R114), retrieval and emptying
(R116, R117). -/

namespace Sys2Proof.Machine

/-- A record goes to a standard bin only with verdict ACCEPTED and the late flag clear (R110). -/
def Record.plain (r : Record) : Bool := r.verdict == .accepted && !r.late

/-- The allocation mass of a record (R109). -/
def Record.allocationMass (r : Record) : Nat := r.measured.getD 20000000

/-- The service class of a record through its advice; 0 without one (R76, R105). -/
def recordClass (t : AdviceTable) (r : Record) : Nat :=
  match r.advice with
  | some i => ((t.entry i).map (·.serviceClass)).getD 0
  | none => 0

/-- The zone of a record: its class looked up in the zone map (R105). -/
def State.zoneOf (s : State) (r : Record) : Nat := (s.rack.zoneMap[recordClass s.advices r]?).getD 0

/-- Whether a bin has room for a mass (R111). -/
def Bin.fits (b : Bin) (mass : Nat) : Bool := b.lock == .locked && decide (b.count < 8) && decide (b.mass + mass ≤ b.limit)

/-- Whether a bin is a first candidate of an ACCEPTED record of a zone (R110). -/
def Bin.standardOf (b : Bin) (zone : Nat) : Bool := b.cls == .standard && b.zone == zone

/-- Whether a bin is a quarantine bin (R110). -/
def Bin.isQuarantine (b : Bin) : Bool := b.cls == .quarantine

/-- The lowest-numbered bin of a kind that fits (R111). -/
def BinTable.lowest (t : BinTable) (kind : Bin → Bool) (mass : Nat) : Option Nat :=
  t.bins.findIdx? fun b => kind b && b.fits mass

/-- The answer of a fit check (R112). -/
inductive Fit where
  | first (bin : Nat)
  | overflow (bin : Nat)
  | nowhere
  deriving DecidableEq, Repr

/-- The answer for a record of a zone, by R110 and R111. -/
def BinTable.fit (t : BinTable) (zone : Nat) (r : Record) : Fit :=
  let quarantine := t.lowest Bin.isQuarantine r.allocationMass
  if r.plain then
    match t.lowest (·.standardOf zone) r.allocationMass, quarantine with
    | some b, _ => .first b
    | none, some b => .overflow b
    | none, none => .nowhere
  else
    match quarantine with
    | some b => .first b
    | none => .nowhere

/-- The fit of a record as the rack stands. -/
def State.fitOf (s : State) (r : Record) : Fit := s.rack.fit (s.zoneOf r) r

/-- A fit check that answers fits nowhere sets the rack-full flag with RACK_FULL, if the flag was clear (R112). -/
def rackFullCheck (h : HeadId) (r : Record) (s : State) : State :=
  if s.rack.rackFull then s
  else notify (.rackFull h r.seq r.allocationMass r.plain) { s with rack := { s.rack with rackFull := true } }

/-- The zone-full flag of a zone (R114). -/
def State.zoneFull (s : State) (zone : Nat) : Bool := (s.rack.zoneFull[zone]?).getD false

/-- The zone-full flag of a zone takes a value. -/
def setZoneFull (zone : Nat) (v : Bool) (s : State) : State :=
  { s with rack := { s.rack with zoneFull := s.rack.zoneFull.set zone v } }

/-- The chosen bin is charged with a record (R113 step 1). -/
def chargeBin (bin mass : Nat) (s : State) : State :=
  s.updateBin bin fun b => { b with count := b.count + 1, mass := b.mass + mass }

/-- The allocation of a record to the bin a fit check chose (R113, R114). -/
def allocate (r : Record) (bin : Nat) (overflowed : Bool) (s : State) : State :=
  let zone := s.zoneOf r
  let s := chargeBin bin r.allocationMass s
  let s := { s with rack := { s.rack with rackFull := false } }
  if overflowed then
    if s.zoneFull zone then s else notify (.zoneFull zone r.seq bin) (setZoneFull zone true s)
  else if r.plain then setZoneFull zone false s
  else s

/-- A retrieval: the bin is relieved of a record (R116). -/
def retrieve (bin mass : Nat) (s : State) : State :=
  s.updateBin bin fun b => { b with count := b.count - 1, mass := b.mass - mass }

/-- A bin is emptied (R117). -/
def emptyBin (bin : Nat) (s : State) : State := s.updateBin bin fun b => { b with count := 0, mass := 0 }

/-- Release control writes the lock state of a bin (R118). -/
def setLock (bin : Nat) (l : LockState) (s : State) : State := s.updateBin bin fun b => { b with lock := l }

/-- Whether a bin is UNLOCKING or UNLOCKED. -/
def LockState.isOpen : LockState → Bool
  | .unlocking | .unlocked _ => true
  | .locked | .reserved => false

/-- How many bins are UNLOCKING or UNLOCKED (R148). -/
def BinTable.openBins (t : BinTable) : Nat := t.bins.countP fun b => b.lock.isOpen

end Sys2Proof.Machine
end

