-- ==== Sys2Proof/Machine/Lift.lean ====
section
/-! DEFINITION. Machine/Lift.lean: the lift and arbiter (chapter 7): arbitration (R122 to R125), the grant (R126), the end
of a transfer (R127, R128), late and unmatched reports (R129, R133), and the runs of an arbitration that a step brings
about (R123). -/

namespace Sys2Proof.Machine

/-- The heads in ALTERNATE order, beginning with the head after the last-granted head (R124). -/
def alternateOrder : HeadId → List HeadId
  | .a => [.b, .c, .a]
  | .b => [.c, .a, .b]
  | .c => [.a, .b, .c]

/-- The record at the front of a head's staging queue. -/
def State.front (s : State) (h : HeadId) : Option Record :=
  match (s.head h).staging with
  | [] => none
  | seq :: _ => s.record seq

/-- Head `h` is considered: with a bag waiting its front record is fit-checked; the answer is the bin and whether it is
an overflow (R122, R112). -/
def consider (h : HeadId) (s : State) : Option (Record × Nat × Bool) × State :=
  match s.front h with
  | none => (none, s)
  | some r =>
    match s.fitOf r with
    | .first b => (some (r, b, false), s)
    | .overflow b => (some (r, b, true), s)
    | .nowhere => (none, rackFullCheck h r s)

/-- The first eligible head of a list, with its record and bin; heads after it are not fit-checked (R122). -/
def firstEligible : List HeadId → State → Option (HeadId × Record × Nat × Bool) × State
  | [], s => (none, s)
  | h :: rest, s =>
    match consider h s with
    | (some (r, b, o), s) => (some (h, r, b, o), s)
    | (none, s) => firstEligible rest s

/-- An order is given to the rack drive link; it is sent after those before it (R132). -/
def giveOrder (o : DriveOrder) (s : State) : State := { s with lift := { s.lift with orders := s.lift.orders ++ [o] } }

/-- The grant to head `h` of its front record `r`, whose bin the fit check chose (R126). -/
def grant (h : HeadId) (r : Record) (bin : Nat) (overflowed : Bool) (runCount : Nat) (s : State) : State :=
  let s := allocate r bin overflowed s
  let s := leaveHold h (s.setHead h { s.head h with staging := (s.head h).staging.tail })
  let s := s.updateRecord r.seq fun r =>
    { r with bin := some bin, overflow := r.overflow || overflowed, state := .inTransfer }
  let s := giveOrder (.move h bin) s
  let s := { s with lift := { s.lift with
    state := .moving ⟨r.seq, h, bin⟩ s.now
    lastHead := h
    runCount := runCount
    transferTimer := some s.lift.transferTime
    moveOutstanding := some bin } }
  updateStats (fun t => { t with transfers := countUp t.transfers }) s

/-- What an arbitration chose is granted, with the run count it sets; nothing when no head is eligible (R123). -/
def grantChosen (runCount : Nat) : Option (HeadId × Record × Nat × Bool) × State → State
  | (some (h, r, b, o), s) => grant h r b o runCount s
  | (none, s) => s

/-- An arbitration (R123): it runs only while the lift is IDLE, in ALTERNATE (R124) or RUN (R125) order. -/
def arbitrate (s : State) : State :=
  match s.lift.state with
  | .idle =>
    let last := s.lift.lastHead
    match s.lift.mode with
    | .alternate => grantChosen 1 (firstEligible (alternateOrder last) s)
    | .run =>
      if s.lift.runCount < s.lift.runLimit then
        match firstEligible [last] s with
        | (some choice, s) => grantChosen (s.lift.runCount + 1) (some choice, s)
        | (none, s) => grantChosen 1 (firstEligible ((alternateOrder last).filter (· != last)) s)
      else grantChosen 1 (firstEligible (alternateOrder last) s)
  | .moving _ _ | .fault _ _ => s

/-- Whether a staging queue went from empty to non-empty between two states (R123). -/
def stagingFilled (before after : State) : Bool :=
  HeadId.all.any fun h => (before.head h).staging.isEmpty && !(after.head h).staging.isEmpty

/-- The arbitration that a head's work runs by filling its staging queue (R123), after that work (notes/assumptions/11). -/
def arbitrateIfFilled (before after : State) : State :=
  if stagingFilled before after then arbitrate after else after

/-- The work of one head, followed by the arbitration it calls for. Where one step has several heads work in turn, each
work is wrapped for itself, so that the first head to fill its queue is the one granted (R137). -/
def withArbitration (f : State → State) (s : State) : State := arbitrateIfFilled s (f s)

/-- The cause of a lift fault from what its notice carries (R128). -/
def LiftFaultDetail.cause : LiftFaultDetail → LiftFaultCause
  | .wrongBin _ => .wrongBin
  | .drive _ => .drive
  | .timeout => .timeout
  | .restart => .restart

/-- The entry actions of a lift fault: the record becomes TRANSFER_FAULT, LIFT_FAULT is sent, the alarm cause reported
and the fault counted (R128). -/
def enterLiftFault (detail : LiftFaultDetail) (f : InFlight) (s : State) : State :=
  let s := { s with lift := { s.lift with state := .fault detail.cause f, transferTimer := none } }
  let s := s.updateRecord f.seq fun r => { r with state := .transferFault }
  notify (.liftFault detail f.seq f.head f.bin) s
    |> reportAlarm .liftFault
    |> updateStats (fun t => { t with liftFaults := countUp t.liftFaults })

/-- No MOVE is outstanding any more (R132). -/
def moveAnswered (s : State) : State := { s with lift := { s.lift with moveOutstanding := none } }

/-- A transfer ends well: the record is STORED at the clock, DEPOSIT_STORED is sent with its mark, and the lift is IDLE
(R127, R131). -/
def storeInFlight (f : InFlight) (mark : StoredMark) (s : State) : State :=
  let now := s.now
  let s := s.updateRecord f.seq fun r => { r with state := .stored, storedTime := some now }
  notify (.depositStored f.seq f.head f.bin now mark) s

/-- The lift enters IDLE with nothing in flight and no MOVE outstanding (R127, R131). -/
def liftIdle (s : State) : State :=
  { s with lift := { s.lift with state := .idle, transferTimer := none, moveOutstanding := none } }

/-- A report that answers the outstanding MOVE reaches the lift (R127, R128, R129): a DELIVERED of a bin, or a
MOVE_FAULT with a code. With no MOVE outstanding, or the lift IDLE, it is unmatched (R133). -/
def moveReport (rep : LateReport) (s : State) : State :=
  if s.lift.moveOutstanding.isNone then driveError s
  else
    match s.lift.state with
    | .idle => driveError s
    | .moving f _ =>
      match rep with
      | .delivered bin =>
        if bin = f.bin then arbitrate (liftIdle (storeInFlight f .drive s))
        else enterLiftFault (.wrongBin bin) f (moveAnswered s)
      | .moveFault code => enterLiftFault (.drive code) f (moveAnswered s)
    | .fault _ f => notify (.driveLateReport rep f.seq f.bin) (moveAnswered s)

end Sys2Proof.Machine
end

