-- ==== Sys2Proof/Machine/Release.lean ====
section
/-! DEFINITION. Machine/Release.lean: release control's operations (chapter 8): the opening of heads (R5), changes of mode
(R138 to R142), the schedule (R144), officers (R147), the ending of reservations (R151), unlock records (R154 to R157), and
the end of a service state (R182), which leaving DAY brings about. -/

namespace Sys2Proof.Machine

/-! ### Opening heads (R5) -/

/-- Whether the state is FAULT. -/
def HeadState.isFault : HeadState → Bool
  | .fault _ => true
  | _ => false

/-- The first refusal of R5 that applies to a head. -/
def openRefusal (s : State) (h : HeadId) : Option Refuse :=
  if (s.channel h).refFault then some .refFault
  else if s.scanner.tempHigh then some .tempHigh
  else if s.active tamperLine then some .tamper
  else if (s.head h).state.isFault then some .headFault
  else if (s.head h).state = .closed ∧ s.logFree = 0 then some .logFull
  else if (s.head h).starting then some .headStarting
  else none

/-- The effect of an opening on a head that passes; the flag says whether its reservation brought the free count to 0
(R5, R94). -/
def openHead (h : HeadId) (s : State) : Bool × State :=
  if (s.head h).state = .closed then
    let s := updateHead h (fun hd => { hd with closePending := none }) s
    match (s.channel h).state with
    | .off | .warming _ => (false, moveHead h (fun hd => { hd with state := .warming }) (askWarm h s))
    | .idle | .weighing _ =>
      match takeReservation h (askWarm h s) with
      | some s => (decide (s.logFree = 0), moveHead h (fun hd => { hd with state := .ready }) s)
      | none => (false, s)
  else (false, updateHead h (fun hd => { hd with closePending := none }) s)

/-- The heads of a list decided in order; with `auto`, a head that fails sends HEAD_CLOSED with the refusal code. The flag
says whether log full is to be signalled (R5). -/
def decideOpenings (auto : Bool) : List HeadId → Bool → State → List (HeadId × Option Refuse) × Bool × State
  | [], full, s => ([], full, s)
  | h :: rest, full, s =>
    match openRefusal s h with
    | some code =>
      let s := if auto then notify (.headClosed h (.refusal code)) s else s
      let (out, full, s) := decideOpenings auto rest full s
      ((h, some code) :: out, full, s)
    | none =>
      let (f, s) := openHead h s
      let (out, full, s) := decideOpenings auto rest (full || f) s
      ((h, none) :: out, full, s)

/-- The listed heads are opened; log full is signalled once every one has been decided (R5). -/
def openHeads (auto : Bool) (hs : List HeadId) (s : State) : List (HeadId × Option Refuse) × State :=
  let (out, full, s) := decideOpenings auto hs false s
  (out, if full then logFullSignal s else s)

/-! ### The end of a service state (R182) -/

/-- Every output is driven at its owner's level and its check timer started with 50 ms (R182). -/
def OutputLine.giveBack (o : OutputLine) : OutputLine := { o with driven := o.owner, check := some 50 }

/-- A service state held is ended; with none nothing happens (R182). -/
def endServiceState (s : State) : State :=
  if s.service.state = .none then s
  else { s with
    service := { s.service with state := .none }
    outputs := s.outputs.map OutputLine.giveBack }

/-! ### Modes -/

/-- The mode changes, with MODE_CHANGED (R138). -/
def changeMode (m : Mode) (source : ModeSource) (s : State) : State :=
  notify (.modeChanged m.name s.mode source) { s with release := { s.release with mode := m } }

/-- A head that does not stand in the way of DAY: CLOSED, or in FAULT with CRADLE_SENSE inactive and no cradle record
(R142). -/
def headDrained (s : State) (h : HeadId) : Bool :=
  (s.head h).state == .closed ||
    ((s.head h).state.isFault && !s.cradle h && (s.head h).cradleRecord.isNone)

/-- The drain condition (R142). -/
def drainCondition (s : State) : Bool :=
  HeadId.all.all (fun h => headDrained s h && (s.head h).staging.isEmpty) && s.lift.state == .idle

/-- Release control evaluates the drain condition: in DAY_PENDING, and when it holds, the mode becomes DAY (R142). -/
def evaluateDrain (s : State) : State :=
  match s.release.mode with
  | .dayPending source => if drainCondition s then changeMode .day source s else s
  | .night | .day => s

/-- Whether an established CRADLE_SENSE line took an edge between two states. -/
def cradleEdge (before after : State) (h : HeadId) : Bool :=
  match (before.input (cradleLine h)).debounced, (after.input (cradleLine h)).debounced with
  | some x, some y => x != y
  | _, _ => false

/-- Whether a step did one of the things after which R142 has the drain condition evaluated again. -/
def drainTriggered (before after : State) : Bool :=
  HeadId.all.any (fun h =>
    (before.head h).state != (after.head h).state || cradleEdge before after h ||
      (!(before.head h).staging.isEmpty && (after.head h).staging.isEmpty)) ||
    (before.lift.state != .idle && after.lift.state == .idle)

/-- The evaluation that follows a step (R142, notes/assumptions/10). -/
def settleDrain (before after : State) : State := if drainTriggered before after then evaluateDrain after else after

/-- A step of the part in which at most one head fills its staging queue: its own work, the arbitration it calls for, and the
drain evaluation that follows. -/
def settled (f : State → State) (s : State) : State := settleDrain s (withArbitration f s)

/-- A step in which heads work one after another: the arbitration that each one's work calls for comes before the next one's
(R137), and the drain evaluation follows the last. -/
def settledInTurn (fs : List (State → State)) (s : State) : State :=
  settleDrain s (fs.foldl (fun s f => withArbitration f s) s)

/-- A reservation of a bin is ended with RESERVATION_ENDED, and its bin returns to LOCKED (R151). -/
def endReservation (v : Reservation) (reason : EndReason) (s : State) : State :=
  let s := { s with release :=
    { s.release with reservations := s.release.reservations.filter fun x => x.bin != v.bin } }
  notify (.reservationEnded v.bin v.officer reason) (setLock v.bin .locked s)

/-- The live reservation of a bin. -/
def Release.reservationOf (c : Release) (bin : Nat) : Option Reservation := c.reservations.find? fun v => v.bin == bin

/-- The two checks of a MODE_SET NIGHT outside NIGHT (R139, R140). -/
def nightRefusal (s : State) : Option Refuse :=
  if 0 < s.rack.openBins then some .binsOpen
  else if s.clock = none then some .clockUnset
  else none

/-- A pending window becomes the active one (R139, R140, R146). -/
def activateWindow (s : State) : State :=
  match s.release.pending with
  | some w => { s with release := { s.release with active := w, pending := none } }
  | none => s

/-- Every live reservation is cancelled, oldest first (R139); the room made is looked at (R119). -/
def cancelReservations (s : State) : State :=
  if s.release.reservations.isEmpty then s
  else arbitrate (s.release.reservations.foldl (fun s v => endReservation v .cancelled s) s)

/-- The heads whose auto-open setting is set, in the order A, B, C (R139). -/
def autoOpenHeads (s : State) : List HeadId := HeadId.all.filter fun h => (s.head h).settings.autoOpen

/-- MODE_SET NIGHT (R139, R140): the refusal, or the outcomes of the auto-open heads with the state. -/
def setNight (source : ModeSource) (s : State) : Except Refuse (List (HeadId × Option Refuse) × State) :=
  match s.release.mode with
  | .night => .ok ([], s)
  | .dayPending _ =>
    match nightRefusal s with
    | some code => .error code
    | none => .ok ([], changeMode .night source (activateWindow s))
  | .day =>
    match nightRefusal s with
    | some code => .error code
    | none =>
      let s := cancelReservations s |> activateWindow |> changeMode .night source |> endServiceState
      .ok (openHeads true (autoOpenHeads s) s)

/-- MODE_SET DAY (R141). -/
def setDay (source : ModeSource) (s : State) : State :=
  match s.release.mode with
  | .night => evaluateDrain (closeAll .mode (changeMode (.dayPending source) source s))
  | .dayPending _ | .day => s

/-- The schedule is compared with the minute of day of a clock value (R144). -/
def evaluateSchedule (t : Nat) (s : State) : State :=
  if s.release.schedule.enabled = false then s
  else if minuteOfDay t = s.release.schedule.nightStart then
    match setNight .schedule s with
    | .ok (_, s) => s
    | .error code => notify (.scheduleMissed .night code) s
  else if minuteOfDay t = s.release.schedule.dayMinute then setDay .schedule s
  else s

/-- A minute boundary, or the evaluation of a CLOCK_SET: the advice table sweeps and release control compares its
schedule (R174, notes/assumptions/22). -/
def minuteBoundary (t : Nat) (s : State) : State := evaluateSchedule t (sweepAdvices t s)

/-! ### Officers -/

/-- The slot content of an officer number. -/
def Release.officer (c : Release) (number : Nat) : Option Officer :=
  (c.officers.filterMap id).find? fun o => o.number == number

/-- Whether an officer is known: some slot holds the number with the enabled flag set (R147). -/
def Release.knows (c : Release) (number : Nat) : Bool := (c.officers.filterMap id).any fun o => o.number == number && o.enabled

/-- Whether an officer has the role SUPERVISOR in the officer table (R150). -/
def Release.isSupervisor (c : Release) (number : Nat) : Bool :=
  (c.officer number).any fun o => o.role == .supervisor

/-! ### Unlock records -/

/-- The unlock record of a bin (R154). -/
def Release.unlockOf (c : Release) (bin : Nat) : Option UnlockRecord := c.unlocks.find? fun u => u.bin == bin

/-- The unlock record of a bin is discarded, and the bin leaves the unlock list (R155, R157). -/
def dropUnlock (bin : Nat) (s : State) : State :=
  { s with release := { s.release with unlocks := s.release.unlocks.filter fun u => u.bin != bin } }

/-- The bin leaves the unlock list: its UNLOCK order is no longer outstanding (R132). -/
def unlockAnswered (bin : Nat) (s : State) : State :=
  { s with lift := { s.lift with unlockList := s.lift.unlockList.filter fun b => b != bin } }

/-- The unlock record of a bin changes. -/
def updateUnlock (bin : Nat) (f : UnlockRecord → UnlockRecord) (s : State) : State :=
  { s with release := { s.release with unlocks := s.release.unlocks.map fun u => if u.bin = bin then f u else u } }

/-- The unlock of a bin fails: it leaves the unlock list, is LOCKED again, its record is discarded and UNLOCK_FAILED is
sent (R155). -/
def failUnlock (u : UnlockRecord) (cause : UnlockFailCause) (s : State) : State :=
  notify (.unlockFailed u.bin u.requesting u.confirming cause)
    (setLock u.bin .locked (dropUnlock u.bin (unlockAnswered u.bin s)))

/-- The open-since time of a bin; present while it is UNLOCKED. -/
def State.openSince (s : State) (bin : Nat) : Option Nat :=
  match s.bin bin with
  | some b =>
    match b.lock with
    | .unlocked since => some since
    | .locked | .reserved | .unlocking => none
  | none => none

/-- The open-long timer of an UNLOCKED bin expires (R156). -/
def openLong (u : UnlockRecord) (since : Nat) (s : State) : State :=
  notify (.binOpenLong u.bin since u.requesting u.confirming)
      (updateUnlock u.bin (fun u => { u with openLong := true, timer := none }) s)
    |> reportAlarm .binOpenLong

end Sys2Proof.Machine
end

