-- ==== Sys2Proof/Machine/ChannelEvents.lean ====
section
/-! DEFINITION. Machine/ChannelEvents.lean: the meanings of the events of a cradle channel (R29 to R42). The expiry of a
timer that does not run has no effect (notes/assumptions/3). -/

namespace Sys2Proof.Machine

/-- The warm-up timer expires: the warm-up phase becomes DONE (R30). -/
def Channel.warmUpExpired (c : Channel) : Channel :=
  if c.state = .warming .running ∧ c.warmUpTimer.isSome = true then
    { c with state := .warming .done, warmUpTimer := none }
  else c

/-- WARM_UP_TIMER_EXPIRY (R30). -/
def execWarmUpTimerExpiry (h : HeadId) (s : State) : Host.Outcome State Fault Refusal :=
  done (updateChannel h Channel.warmUpExpired s)

/-- The pace timer expires: a PACE trigger (R33). -/
def Channel.paceExpired (cradleActive : Bool) (c : Channel) : Channel :=
  if c.paceTimer.isSome then { c with paceTimer := none }.trigger cradleActive else c

/-- PACE_TIMER_EXPIRY (R33). -/
def execPaceTimerExpiry (h : HeadId) (s : State) : Host.Outcome State Fault Refusal :=
  done (updateChannel h (Channel.paceExpired (s.cradle h)) s)

/-- The acquisition time since the last start has run: a waiting trigger starts its conversion (R33). -/
def Channel.acquisitionElapsed (cradleActive : Bool) (c : Channel) : Channel :=
  if c.acquireTimer.isNone then c
  else if c.waiting then { c with acquireTimer := none }.startConversion cradleActive
  else { c with acquireTimer := none }

/-- ACQUISITION_TIME_ELAPSED (R33). -/
def execAcquisitionTimeElapsed (h : HeadId) (s : State) : Host.Outcome State Fault Refusal :=
  done (updateChannel h (Channel.acquisitionElapsed (s.cradle h)) s)

/-- CONVERSION_COMPLETE (R34). -/
def execConversionComplete (h : HeadId) (code : ConverterCode) (s : State) : Host.Outcome State Fault Refusal :=
  done (settled (addConversion h code.toInt) s)

/-- The settle-delay timer expires (R37). -/
def Channel.settleDelayExpired (c : Channel) : Channel :=
  match c.state with
  | .weighing w =>
    if c.delayTimer.isSome then { c with state := .weighing { w with delayRun := true }, delayTimer := none } else c
  | .off | .warming _ | .idle => c

/-- SETTLE_DELAY_EXPIRY (R37). -/
def execSettleDelayExpiry (h : HeadId) (s : State) : Host.Outcome State Fault Refusal :=
  done (updateChannel h Channel.settleDelayExpired s)

/-- The settle timer expires (R39). -/
def settleTimerExpired (h : HeadId) (s : State) : State :=
  if (s.channel h).settleTimer.isSome then settleExpired h s else s

/-- SETTLE_TIMER_EXPIRY (R39). -/
def execSettleTimerExpiry (h : HeadId) (s : State) : Host.Outcome State Fault Refusal :=
  done (settled (settleTimerExpired h) s)

/-- The idle timer expires: the channel enters OFF (R32). -/
def Channel.idleExpired (c : Channel) : Channel := if c.idleTimer.isSome then c.powerDown else c

/-- IDLE_TIMER_EXPIRY (R32). -/
def execIdleTimerExpiry (h : HeadId) (s : State) : Host.Outcome State Fault Refusal :=
  done (updateChannel h Channel.idleExpired s)

/-- The zero-interval timer expires in IDLE: the zero is evaluated and the timer restarted (R42). -/
def zeroIntervalExpired (h : HeadId) (s : State) : State :=
  if (s.channel h).state = .idle ∧ (s.channel h).zeroTimer.isSome = true then
    evaluateZero h s |> updateChannel h (fun c => { c with zeroTimer := some c.settings.zeroInterval })
  else s

/-- ZERO_INTERVAL_EXPIRY (R42). -/
def execZeroIntervalExpiry (h : HeadId) (s : State) : Host.Outcome State Fault Refusal :=
  done (zeroIntervalExpired h s)

end Sys2Proof.Machine
end

