-- ==== Sys2Proof/Machine/DriveReports.lean ====
section
/-! DEFINITION. Machine/DriveReports.lean: the meanings of the five reports of the rack drive, of an unknown one, of the
transfer timer's expiry and of an order's last byte (R127 to R129, R132, R133, R154, R155, R157, R158). -/

namespace Sys2Proof.Machine

/-- DELIVERED; a report naming a bin above 59 is unmatched (R127, R133). -/
def execDelivered (bin : Nat) (s : State) : Host.Outcome State Fault Refusal :=
  done (if 59 < bin then driveError s else settled (moveReport (.delivered bin)) s)

/-- MOVE_FAULT (R128). -/
def execMoveFault (code : Byte) (s : State) : Host.Outcome State Fault Refusal :=
  done (settled (moveReport (.moveFault code)) s)

/-- A bin is reported opened: it becomes UNLOCKED since now and its open-long timer starts (R154). -/
def binIsOpen (bin : Nat) (s : State) : State :=
  let limit := s.release.settings.openLimit * 60
  unlockAnswered bin s
    |> setLock bin (.unlocked s.now)
    |> updateUnlock bin (fun u => { u with timer := some limit, openLong := false })

/-- BIN_OPENED: matched while the bin is in the unlock list (R133, R154). -/
def execBinOpened (bin : Nat) (s : State) : Host.Outcome State Fault Refusal :=
  done (if bin ∈ s.lift.unlockList then binIsOpen bin s else driveError s)

/-- An unlock fails, and the room its bin makes by returning to LOCKED is signalled (R155, R119). -/
def unlockFails (bin : Nat) (cause : UnlockFailCause) (s : State) : State :=
  match s.release.unlockOf bin with
  | some u => arbitrate (failUnlock u cause s)
  | none => unlockAnswered bin s

/-- UNLOCK_FAULT: matched while the bin is in the unlock list (R133, R155). -/
def execUnlockFault (bin : Nat) (s : State) : Host.Outcome State Fault Refusal :=
  done (if bin ∈ s.lift.unlockList then settled (unlockFails bin .drive) s else driveError s)

/-- A record of a bin shut with its floor empty: RELEASED, if it is STORED in that bin (R90). -/
def Record.releasedFrom (bin now : Nat) (pair : Nat × Nat) (r : Record) : Record :=
  if r.bin = some bin ∧ r.state = .stored then
    { r with state := .released, releaseTime := some now, officers := some pair }
  else r

/-- How many records a shut of the bin with its floor empty releases (R90). -/
def State.storedIn (s : State) (bin : Nat) : Nat := s.log.records.countP fun r => r.bin == some bin && r.state == .stored

/-- The records of a bin are released (R90), the bin is emptied (R117), and BIN_RELEASED is sent (R157). -/
def releaseRecords (u : UnlockRecord) (s : State) : State :=
  let now := s.now
  let n := s.storedIn u.bin
  let s := { s with log := { s.log with
    records := s.log.records.map (Record.releasedFrom u.bin now (u.requesting, u.confirming)) } }
  notify (.binReleased u.bin n now u.requesting u.confirming) (emptyBin u.bin s)

/-- An UNLOCKED bin is shut: LOCKED again, its unlock record spent or discarded; then the room is signalled (R157, R158,
R119). -/
def binIsShut (u : UnlockRecord) (floorEmpty : Bool) (s : State) : State :=
  let s := setLock u.bin .locked (dropUnlock u.bin s)
  arbitrate
    (if floorEmpty then releaseRecords u s
    else notify (.binNotEmpty u.bin ((s.bin u.bin).map (·.count) |>.getD 0) u.requesting u.confirming) s)

/-- BIN_SHUT: matched while the bin is UNLOCKED (R133, R157, R158). -/
def execBinShut (bin : Nat) (floorEmpty : Bool) (s : State) : Host.Outcome State Fault Refusal :=
  done (match s.openSince bin, s.release.unlockOf bin with
    | some _, some u => settled (binIsShut u floorEmpty) s
    | some _, none | none, _ => driveError s)

/-- UNKNOWN_DRIVE_REPORT: unmatched (R133). -/
def execUnknownDriveReport (s : State) : Host.Outcome State Fault Refusal := done (driveError s)

/-- The transfer timer expires in MOVING; the MOVE stays outstanding (R128). -/
def transferExpired (s : State) : State :=
  match s.lift.state with
  | .moving f _ => if s.lift.transferTimer.isSome then enterLiftFault .timeout f s else s
  | .idle | .fault _ _ => s

/-- TRANSFER_TIMER_EXPIRY (R128). -/
def execTransferTimerExpiry (s : State) : Host.Outcome State Fault Refusal := done (transferExpired s)

/-- RACK_DRIVE_ORDER_SENT: the order in hand has left whole, and the next one is sent (R132). -/
def execRackDriveOrderSent (s : State) : Host.Outcome State Fault Refusal :=
  done { s with lift := { s.lift with orders := s.lift.orders.tail } }

end Sys2Proof.Machine
end

