-- ==== Sys2Proof/Machine/HeadTimers.lean ====
section
/-! DEFINITION. Machine/HeadTimers.lean: the meanings of the expiries of a head's four timers (R8, R9, R11, R16). The
expiry of a timer that does not run has no effect (notes/assumptions/3). -/

namespace Sys2Proof.Machine

/-- The intake timer expires in INTAKE (R8). -/
def intakeExpired (h : HeadId) (s : State) : State :=
  if (s.head h).state = .intake ∧ (s.head h).intakeTimer.isSome = true then enterFault h .flapStuck s else s

/-- INTAKE_TIMER_EXPIRY (R8). -/
def execIntakeTimerExpiry (h : HeadId) (s : State) : Host.Outcome State Fault Refusal :=
  done (settled (intakeExpired h) s)

/-- The descent timer expires in DESCENT (R9). -/
def descentExpired (h : HeadId) (s : State) : State :=
  if (s.head h).state = .descent ∧ (s.head h).descentTimer.isSome = true then enterFault h .chuteJam s else s

/-- DESCENT_TIMER_EXPIRY (R9). -/
def execDescentTimerExpiry (h : HeadId) (s : State) : Host.Outcome State Fault Refusal :=
  done (settled (descentExpired h) s)

/-- The window timer expires in EXAMINE: the reader goes off, the tag window is done, and the bag is judged if its
weighing is already complete (R11, R12). -/
def windowExpired (h : HeadId) (s : State) : State :=
  if (s.head h).state = .examine ∧ (s.head h).windowTimer.isSome = true then
    let s := updateHead h (fun hd => { hd with windowTimer := none, windowDone := true }) s
    match (s.head h).weighing with
    | some w => judge h w s
    | none => s
  else s

/-- WINDOW_TIMER_EXPIRY (R11). -/
def execWindowTimerExpiry (h : HeadId) (s : State) : Host.Outcome State Fault Refusal :=
  done (settled (windowExpired h) s)

/-- The gate timer expires in DISCHARGE before both steps are done (R16). -/
def gateExpired (h : HeadId) (s : State) : State :=
  if (s.head h).state = .discharge ∧ (s.head h).gateTimer.isSome = true then enterFault h .gateJam s else s

/-- GATE_TIMER_EXPIRY (R16). -/
def execGateTimerExpiry (h : HeadId) (s : State) : Host.Outcome State Fault Refusal :=
  done (settled (gateExpired h) s)

end Sys2Proof.Machine
end

