-- ==== Sys2Proof/Machine/Lines.lean ====
section
/-! DEFINITION. Machine/Lines.lean: the input lines (section 9.1): raw changes and debouncing (R163), first establishment
(R164), edges signalled to their owners (R165) and recorded (R166), tamper (R169); and the restart decision that a head
makes once its four lines are established (R25), with the end of the supply restart actions. -/

namespace Sys2Proof.Machine

/-- The head that owns an input line, for lines 0 to 11 (R162). -/
def ownerHead (n : Nat) : Option HeadId := if n < 12 then headOfCode (n / 4) else none

/-- The role of a head's line: 0 INTAKE_SHUT, 1 CHUTE_BEAM, 2 CRADLE_SENSE, 3 GATE_SHUT (R162). -/
def lineRole (n : Nat) : Nat := n % 4

/-- The line with a raw level, whatever its polarity (R162). -/
def InputLine.withRaw (l : InputLine) (active : Bool) : InputLine :=
  { l with high := active == (l.polarity == .activeHigh) }

/-! ### Tamper -/

/-- A TAMPER activation, or a TAMPER line established active (R169). -/
def tamperActivated (s : State) : State := closeAll .tamper (reportAlarm .tamper s)

/-! ### The restart decision (R25) -/

/-- Whether the four lines of a head are established. -/
def State.linesEstablished (s : State) (h : HeadId) : Bool :=
  [intakeShutLine h, chuteBeamLine h, cradleLine h, gateShutLine h].all fun n => (s.input n).debounced.isSome

/-- The case of R25 that a head takes, from the first established level of its CRADLE_SENSE line. A head decided CLOSED
ends a warm-up that nothing wants (R31) and sends no notice (R25). A reservation taken here signals no log full, even where
it takes the last place while another head is READY (R102, notes/assumptions/39). -/
def restartCase (h : HeadId) (cradle : Bool) (s : State) : State :=
  if (s.head h).cradleRecord.isSome then
    enterHold h (updateHead h (fun hd => { hd with closePending := some .restart }) s)
  else if cradle = false then
    endUnwantedWarmUp h (moveHead h (fun hd => { hd with state := .closed, closePending := none }) s)
  else if s.mode = .day then enterFault h .unexpectedCradle s
  else
    match takeReservation h s with
    | some s => enterRecover h (updateHead h (fun hd => { hd with closePending := some .restart }) s)
    | none => enterFault h .unexpectedCradle s

/-- The end of the supply restart actions: the log judges its low-water flag, the lift arbitrates if it is IDLE, release
control evaluates the drain condition (R25, R102, R134, R161). -/
def restartEnd (s : State) : State := evaluateDrain (arbitrate (judgeLowWater s))

/-- A head that awaits its decision and whose four lines are established makes it; the last head to do so ends the
supply restart actions (R25). -/
def decideIfReady (h : HeadId) (s : State) : State :=
  match (s.head h).decision with
  | .made => s
  | .awaited first =>
    if s.linesEstablished h then
      let s := restartCase h (first.getD false) (updateHead h (fun hd => { hd with decision := .made }) s)
      if HeadId.all.any fun h => (s.head h).starting then s else restartEnd s
    else s

/-! ### First levels (R164) -/

/-- A head takes the first level of one of its lines: after a supply restart it keeps that of CRADLE_SENSE for its
decision; after a cold start an active CRADLE_SENSE is an activation in CLOSED (R4, R164). DESIGN CHOICE
(notes/assumptions/38): where the head has left CLOSED by then, the activation acts by the state in which the head
stands. -/
def headFirstLevel (h : HeadId) (role : Nat) (active : Bool) (s : State) : State :=
  match (s.head h).decision with
  | .made => if role = 2 ∧ active = true then cradleActivated h s else s
  | .awaited _ =>
    if role = 2 then updateHead h (fun hd => { hd with decision := .awaited (some active) }) s else s

/-- A weigh channel whose CRADLE_SENSE line has become active can mark no reading in progress clear (R34). -/
def channelSeesCradle (h : HeadId) (role : Nat) (active : Bool) (s : State) : State :=
  if role = 2 ∧ active = true then updateChannel h Channel.cradleSeen s else s

/-- The first level of a line is handed to its owner (R164). -/
def signalFirstLevel (n : Nat) (active : Bool) (s : State) : State :=
  match ownerHead n with
  | some h => headFirstLevel h (lineRole n) active (channelSeesCradle h (lineRole n) active s)
  | none => if n = tamperLine ∧ active = true then tamperActivated s else s

/-- The debounced level of a line is established at its raw level (R164); a head whose last line it was then makes its
restart decision. -/
def establish (n : Nat) (s : State) : State :=
  let l := s.input n
  let s := s.setInput n { l with debounced := some l.raw, timer := none }
  let s := signalFirstLevel n l.raw s
  match ownerHead n with
  | some h => decideIfReady h s
  | none => s

/-! ### Edges (R163, R165, R166) -/

/-- An edge of an established line is signalled to the line's owner (R165). -/
def signalEdge (n : Nat) (activation : Bool) (s : State) : State :=
  match ownerHead n with
  | some h => headEdge h (lineRole n) activation (channelSeesCradle h (lineRole n) activation s)
  | none => if n = tamperLine ∧ activation = true then tamperActivated s else s

/-- Whether the report edges of a line record an edge (R166). -/
def recordsEdge : ReportEdges → Bool → Bool
  | .none, _ => false
  | .activate, a => a
  | .deactivate, a => !a
  | .both, _ => true

/-- An edge is recorded for the host: the latched event flag, and LINE_EVENT where notify is set (R166). -/
def recordEdge (n : Nat) (activation : Bool) (s : State) : State :=
  let l := s.input n
  if recordsEdge l.report activation then
    let s := s.setInput n { l with event := true }
    if l.notify then notify (.lineEvent n activation s.clock) s else s
  else s

/-- The debounced level of an established line takes its raw level: an activation or a deactivation (R163). -/
def takeEdge (n : Nat) (s : State) : State :=
  let l := s.input n
  recordEdge n l.raw (signalEdge n l.raw (s.setInput n { l with debounced := some l.raw, timer := none }))

/-- The raw level of a line has changed, at the wiring or by a change of polarity (R163, R164, R168). -/
def rawChanged (n : Nat) (s : State) : State :=
  let l := s.input n
  match l.debounced with
  | none => if l.debounce = 0 then establish n s else s.setInput n { l with timer := some l.debounce }
  | some d =>
    if l.raw = d then s.setInput n { l with timer := none }
    else if l.debounce = 0 then takeEdge n s
    else s.setInput n { l with timer := some l.debounce }

/-- The debounce timer of a line expires (R163, R164). -/
def debounceExpired (n : Nat) (s : State) : State :=
  let l := s.input n
  if l.timer.isNone then s
  else
    match l.debounced with
    | none => establish n s
    | some d => if l.raw = d then s.setInput n { l with timer := none } else takeEdge n s

end Sys2Proof.Machine
end

