-- ==== Sys2Proof/Machine/Restart.lean ====
section
/-! DEFINITION. Machine/Restart.lean: what each block takes at a supply restart and on RESTART (R25, R27, R45, R102, R104,
R134, R161, R162, R164, R170, R178, R179, R204), and the cold start of COLD_INITIALISE (R193). -/

namespace Sys2Proof.Machine

/-! ### Link interface -/

/-- The full timeout of the link watch: the count times the unit, in seconds; a count of 0 leaves the timer stopped
(R201). -/
def Link.timeout (l : Link) : Timer :=
  if l.count = 0 then none
  else some (l.count * (match l.unit with
    | .second => 1
    | .minute => 60))

/-- The link interface at a supply restart: ports empty, link UP, watch timer restarted, then RESTARTED (R204). A frame
abandoned in a receiver adds nothing to the frame error counts (notes/assumptions/17). -/
def restartLink (cause : RestartCause) (s : State) : State :=
  notify (.restarted cause)
    { s with link := { s.link with branch := .fresh, service := .fresh, lost := false, timer := s.link.timeout } }

/-! ### Service controller, outputs and alarm -/

/-- The service controller at a supply restart: the statistics are kept (R179). -/
def restartService (s : State) : State := { s with service := { Service.cold with stats := s.service.stats } }

/-- An output line at a supply restart: de-energised, its fault flag clear, its check timer started (R170). The owner
level of the GP outputs is kept, that of every other output is de-energised. -/
def OutputLine.restarted (keep : Bool) (o : OutputLine) : OutputLine :=
  { o with owner := keep && o.owner, driven := false, fault := false, check := some 50 }

/-- The output lines at a supply restart; the host's GP levels are then handed as kept (R170, R171). -/
def restartOutputs (s : State) : State :=
  let s := { s with outputs := s.outputs.mapIdx fun i o => o.restarted (i == gpOut1 || i == gpOut2) }
  s |> handOutput gpOut1 (s.output gpOut1).owner
    |> handOutput gpOut2 (s.output gpOut2).owner

/-- The alarm at a supply restart: the settings are kept (R178). -/
def restartAlarm (s : State) : State :=
  { s with alarm := { s.alarm with latched := allCauses false, pulseTimer := none } }

/-! ### Heads, channels, scanner and log -/

/-- A channel at a supply restart (R27). -/
def Channel.restarted (c : Channel) : Channel := .fresh c.zero c.span c.settings

/-- A head with everything replaced but what the battery well keeps: cradle record, staging queue and settings (R25). It
awaits its decision. -/
def Head.replaced (hd : Head) : Head :=
  { Head.cold with
    cradleRecord := hd.cradleRecord
    staging := hd.staging
    settings := hd.settings
    decision := .awaited none }

/-- The heads, the weigh unit and the log's reservation count at a supply restart (R25, R27, R45, R102). -/
def restartHeads (s : State) : State :=
  { s with
    heads := s.heads.map Head.replaced
    channels := s.channels.map Channel.restarted
    scanner := .fresh s.scanner.settings
    log := { s.log with reservations := 0 } }

/-! ### Lift -/

/-- The lift at a supply restart (R134); orders not yet wholly sent are lost (notes/assumptions/16). -/
def restartLift (s : State) : State :=
  let s := { s with lift := { s.lift with transferTimer := none, unlockList := [], orders := [] } }
  match s.lift.state with
  | .idle => s
  | .moving f _ => enterLiftFault .restart f s
  | .fault _ _ => reportAlarm .liftFault s

/-! ### Release control -/

/-- The seconds left of a bin's open limit at a supply restart: 0 where no time is left (R161). -/
def openTimeLeft (limit : Nat) (now since : Nat) : Nat := limit * 60 - (now - since)

/-- An unlock record at a supply restart: the unlock of an UNLOCKING bin fails; an UNLOCKED bin's mark is reported again,
or its open-long timer started with the time that remains, expiring at once where none does (R155, R161). -/
def restartUnlock (s : State) (u : UnlockRecord) : State :=
  match s.openSince u.bin with
  | none => failUnlock u .restart s
  | some since =>
    if u.openLong then reportAlarm .binOpenLong (updateUnlock u.bin (fun u => { u with timer := none }) s)
    else
      match openTimeLeft s.release.settings.openLimit s.now since with
      | 0 => openLong u since s
      | left + 1 => updateUnlock u.bin (fun u => { u with timer := some (left + 1) }) s

/-- Release control at a supply restart: reservations are cleared without notice, their bins LOCKED; the unlock records are
taken with the oldest confirm first, which orders their notices (DESIGN CHOICE, notes/assumptions/23); the room made where a
bin returned to LOCKED is signalled (R161, R119). -/
def restartRelease (s : State) : State :=
  let relocked := s.rack.bins.any fun b => b.lock == .reserved || b.lock == .unlocking
  let s := s.release.reservations.foldl (fun s v => setLock v.bin .locked s) s
  let s := { s with release := { s.release with reservations := [] } }
  let s := s.release.unlocks.foldl restartUnlock s
  if relocked then arbitrate s else s

/-! ### Input lines -/

/-- An input line at a supply restart: not established, its debounce timer started (R162, R164). -/
def InputLine.restarted (l : InputLine) : InputLine :=
  { l with debounced := none, timer := some l.debounce, event := false }

/-- Which head is asked first, second and third, where heads decide at the same moment (R25). -/
def headOrderOf (n : Nat) : List HeadId :=
  match n % 6 with
  | 0 => [.a, .b, .c]
  | 1 => [.a, .c, .b]
  | 2 => [.b, .a, .c]
  | 3 => [.b, .c, .a]
  | 4 => [.c, .a, .b]
  | _ => [.c, .b, .a]

/-- A line with a debounce time of 0 is established at once and its first level handed on (R164). -/
def establishAtOnce (s : State) (n : Nat) : State :=
  let l := s.input n
  if l.debounce = 0 then signalFirstLevel n l.raw (s.setInput n { l with debounced := some l.raw, timer := none })
  else s

/-- The input lines at a supply restart; lines with a debounce time of 0 are established at once, and the heads that
this lets decide do so in a free order, each followed by the arbitration it calls for (R25, R137, R164). DESIGN CHOICE
(notes/assumptions/42): all lines are established, and TAMPER signalled, before the first head decides. -/
def restartLines (s : State) : State :=
  let s := { s with inputs := s.inputs.map InputLine.restarted }
  let s := (List.range 16).foldl establishAtOnce s
  let order := headOrderOf (Config.headOrder s.free)
  settledInTurn (order.map decideIfReady) s.drawn

/-! ### The two resets -/

/-- The part takes its supply-restart values, RESTARTED first among the notices (R204; the order of the blocks:
notes/assumptions/23). -/
def supplyRestart (cause : RestartCause) (s : State) : State :=
  restartLink cause s |> restartService |> restartAlarm |> restartOutputs |> restartHeads |> restartLift |> restartRelease
    |> restartLines

/-- The electrical levels of the input lines as they stand. -/
def State.levels (s : State) : BitVec 16 :=
  BitVec.ofNat 16 (s.inputs.foldr (fun l n => 2 * n + (if l.high then 1 else 0)) 0)

/-- The electrical levels of the input lines replaced, as a return of supply finds them (R162). -/
def State.withLevels (s : State) (levels : BitVec 16) : State :=
  { s with inputs := s.inputs.mapIdx fun i l => { l with high := levels.getLsbD i } }

/-- The clock after an outage: it goes on counting on the battery well, up to its maximum (R173). -/
def clockAfter (outage : Nat) (clock : Option Nat) : Option Nat := clock.map fun t => min (t + outage) wordMax

end Sys2Proof.Machine
end

