-- ==== Sys2Proof/Machine/Operands.lean ====
section
/-! DEFINITION. Machine/Operands.lean: how a request reaches the block that owns it: its arrival at a port (R196, R197),
the checks made before the owning block's own rule (R198), and the checks of operands that several requests share. -/

namespace Sys2Proof.Machine

/-! ### Arrival and reply -/

/-- The watch timer is restarted with the full timeout (R201). -/
def restartWatch (s : State) : State := { s with link := { s.link with timer := s.link.timeout } }

/-- A valid frame on the branch link is reported to the link watch (R196, R201). -/
def watchFrame (s : State) : State :=
  if s.link.lost then restartWatch (notify .linkRestored { s with link := { s.link with lost := false } })
  else restartWatch s

/-- How many requests a receive queue holds (R197). -/
def receiveCapacity : Nat := 4

/-- The reply to the request in hand of a port is ready (R198). -/
def answer (p : PortId) (out : State × Reply) : State := out.1.setPort p { out.1.port p with reply := some out.2 }

/-- A valid frame of a port is reported to the watch if it came on the branch link (R196). -/
def frameSeen (p : PortId) (s : State) : State :=
  match p with
  | .branch => watchFrame s
  | .service => s

/-- A request arrives whole at its port: it is reported to the watch, then joins the receive queue or, with the queue
full, is discarded with the overflow flag set; at the front it is taken at once (R196, R197, R198;
notes/assumptions/1). -/
def arrive (r : Req) (c : Instr) (take : State → State × Reply) (s : State) : State :=
  let s := frameSeen r.port s
  let p := s.port r.port
  if receiveCapacity ≤ p.requests.length then s.setPort r.port { p with receiveOver := true }
  else
    let s := s.setPort r.port { p with requests := p.requests ++ [c] }
    if p.requests.isEmpty then answer r.port (take s) else s

/-! ### Checks before the owning block's rule -/

/-- Checks 2 and 3 of R198: a request kept to the service port is refused WRONG_PORT on the branch link; a payload that
does not have the request's form is refused BAD_FORMAT. -/
def guarded (serviceOnly : Bool) (r : Req) (own : State → State × Reply) (s : State) : State × Reply :=
  if serviceOnly && r.port == .branch then (s, .refused .wrongPort)
  else if r.formOk = false then (s, .refused .badFormat)
  else own s

/-- The owning block's rule refuses: no state changes (R198). -/
def refuse (code : Refuse) (s : State) : State × Reply := (s, .refused code)

/-- The owning block's rule takes the request. -/
def accept (body : ReplyBody) (s : State) : State × Reply := (s, .ok body)

/-- A request that only reads: the reply shows the state as it stands. -/
def report (body : State → ReplyBody) (s : State) : State × Reply := (s, .ok (body s))

/-- A request whose refusal is worked out from the state first. -/
def checked (refusal : Option Refuse) (own : State → State × Reply) (s : State) : State × Reply :=
  match refusal with
  | some code => refuse code s
  | none => own s

/-- A taken request followed by the arbitration and the drain evaluation its changes call for (R123, R142); its reply was
built before them (R198). -/
def settledReply (own : State → State × Reply) (s : State) : State × Reply :=
  let out := own s
  (settleDrain s (arbitrateIfFilled s out.1), out.2)

/-! ### Operand checks -/

/-- Whether a value lies in an inclusive range. -/
def inRange (lo hi n : Nat) : Bool := lo ≤ n && n ≤ hi

/-- The heads of a list of head codes: one to three distinct heads, each known; otherwise `none` (R5, R19). -/
def headList (codes : List Nat) : Option (List HeadId) :=
  if 1 ≤ codes.length ∧ codes.length ≤ 3 ∧ codes.Nodup then codes.mapM headOfCode else none

/-- The input lines of a list: 1 to 16 distinct numbers up to 15 (R167). -/
def lineListOk (l : List Nat) : Bool := inRange 1 16 l.length && decide l.Nodup && l.all fun n => n ≤ 15

/-- The ranges of the head settings (R3). -/
def headSettingsOk (v : HeadSettings) : Bool :=
  inRange 5 120 v.intakeTimeout && inRange 500 5000 v.descentTimeout && inRange 100 2000 v.identWindow &&
    inRange 1 10 v.gateTimeout

/-- The ranges of the channel settings (R28). -/
def weighSettingsOk (v : WeighSettings) : Bool :=
  inRange 1 60 v.warmUpTime && inRange 1 120 v.idleTime && inRange 2 100 v.sampleInterval &&
    inRange 1 50 v.acquisitionTime && v.exponent ≤ 5 && v.settleDelay ≤ 1000 && v.settleBand ≤ 50000 &&
    inRange 2 15 v.settleCount && inRange 500 10000 v.settleTimeout && inRange 1 60 v.zeroInterval &&
    v.zeroWindow ≤ 500000

/-- The ranges of the scanner settings, the low reference limit below the high one (R46). -/
def scanSettingsOk (v : ScanSettings) : Bool :=
  inRange 100 2000 v.scanPeriod && inRange 5 200 v.auxSettle && inRange 3000 5000 v.refLow &&
    inRange 5000 6000 v.refHigh && decide (v.refLow < v.refHigh) && decide (300 ≤ v.tempLimit) &&
    decide (v.tempLimit ≤ 850)

/-- Whether a number is a tag number (R4, R58). -/
def tagOk (tag : Nat) : Bool := inRange 1 999999999 tag

/-- Whether a number is a minute of day (R143, R146). -/
def minuteOk (m : Nat) : Bool := m ≤ 1439

/-- The range of a reference mass (R184). -/
def referenceMassOk (m : Nat) : Bool := inRange 100000 25000000 m

end Sys2Proof.Machine
end

