-- ==== Sys2Proof/Machine/LineEvents.lean ====
section
/-! DEFINITION. Machine/LineEvents.lean: the meanings of the input line events (R163, R164) and of the tag readers'
reports (R4, R11). -/

namespace Sys2Proof.Machine

/-- A line's raw level becomes the one given; a level that is no change does nothing (R163). -/
def rawLevelChange (n : Nat) (active : Bool) (s : State) : State :=
  if (s.input n).raw = active then s else rawChanged n (s.setInput n ((s.input n).withRaw active))

/-- RAW_LEVEL_CHANGE (R163, R164). -/
def execRawLevelChange (line : Fin 16) (active : Bool) (s : State) : Host.Outcome State Fault Refusal :=
  done (settled (rawLevelChange line active) s)

/-- DEBOUNCE_TIMER_EXPIRY (R163, R164). -/
def execDebounceTimerExpiry (line : Fin 16) (s : State) : Host.Outcome State Fault Refusal :=
  done (settled (debounceExpired line) s)

/-- A tag number joins a tag list: a repeated number, and a number beyond the second, change nothing (R11). -/
def addTag (n : Nat) (tags : List Nat) : List Nat := if n ∈ tags ∨ 2 ≤ tags.length then tags else tags ++ [n]

/-- A tag report at a head: it counts while the window timer runs, if its number is a tag number (R4, R11). -/
def tagReported (h : HeadId) (number : Nat) (s : State) : State :=
  if (s.head h).windowTimer.isSome ∧ tagOk number = true then
    s.setHead h { s.head h with tags := addTag number (s.head h).tags }
  else s

/-- TAG_REPORT (R4, R11). -/
def execTagReport (h : HeadId) (number : Nat) (s : State) : Host.Outcome State Fault Refusal :=
  done (tagReported h number s)

/-- READ_FAILURE_REPORT: it changes nothing (R11). -/
def execReadFailureReport (_h : HeadId) (s : State) : Host.Outcome State Fault Refusal := done s

end Sys2Proof.Machine
end

