-- ==== Sys2Proof/Machine/OutputEvents.lean ====
section
/-! DEFINITION. Machine/OutputEvents.lean: the meanings of the readback check (R172), of the alarm's pulse timer (R177) and
of the clock second (R173, R174). -/

namespace Sys2Proof.Machine

/-- The head whose FLAP_RELEASE or GATE_OPEN an output is (R170, R172). -/
def latchOwner (n : Nat) : Option HeadId := if n < 12 ∧ n % 4 < 2 then headOfCode (n / 4) else none

/-- A check that found a mismatch: the flag with its notice where it was clear, and the line's head told of a FLAP_RELEASE
or GATE_OPEN (R172). -/
def checkMismatch (n : Nat) (s : State) : State :=
  let o := s.output n
  let s :=
    if o.fault then s
    else notify (.outputFault n o.driven o.readback) (s.setOutput n { o with fault := true })
  match latchOwner n with
  | some h => outputMismatch h s
  | none => s

/-- The check timer of an output expires; its readback sense reports a level (R172). -/
def checkExpired (n : Nat) (readback : Bool) (s : State) : State :=
  let o := { s.output n with readback := readback }
  if o.check.isNone then s
  else
    let o := { o with check := none }
    if o.readback = o.driven then s.setOutput n { o with fault := false }
    else checkMismatch n (s.setOutput n o)

/-- CHECK_TIMER_EXPIRY (R172). -/
def execCheckTimerExpiry (output : Fin 15) (readback : Bool) (s : State) : Host.Outcome State Fault Refusal :=
  done (settled (checkExpired output readback) s)

/-- The pulse timer expires: the ALARM owner level is de-energised (R177). -/
def pulseExpired (s : State) : State :=
  if s.alarm.pulseTimer.isSome then handOutput alarmOutput false { s with alarm := { s.alarm with pulseTimer := none } }
  else s

/-- PULSE_TIMER_EXPIRY (R177). -/
def execPulseTimerExpiry (s : State) : Host.Outcome State Fault Refusal := done (pulseExpired s)

/-- The clock counts a second; a whole multiple of 60 reached is a minute boundary (R173, R174). -/
def clockTick (s : State) : State :=
  match s.clock with
  | none => s
  | some t =>
    if t < wordMax then
      let s := { s with clock := some (t + 1) }
      if (t + 1) % 60 = 0 then minuteBoundary (t + 1) s else s
    else s

/-- CLOCK_SECOND (R173). -/
def execClockSecond (s : State) : Host.Outcome State Fault Refusal := done (settled clockTick s)

end Sys2Proof.Machine
end

