-- ==== Sys2Proof/Decode.lean ====
section
/-! DEFINITION. Decode.lean: the serial frame (R194, R195, R205): its check, its bytes, and the request command a valid
frame's kind and payload stand for (R198, section 11.7). The opcode table gives none of its rows any bits, so
`decodeTableWord` spells no command (notes/assumptions/35). -/

namespace Sys2Proof

/-- The command that a word spells by the table's bits: the table gives no row any (notes/assumptions/35). -/
def decodeTableWord (_nbits _w : Nat) : Option Instr := none

/-! ### The check (R194) -/

/-- One bit of a CRC-16 with polynomial 0x1021, without reflection (R194). -/
def crcBit (c : Check) : Check := if c.getMsbD 0 then (c <<< 1) ^^^ 0x1021#16 else c <<< 1

/-- One byte of the check: it enters at the high end, then eight bit steps (R194). -/
def crcByte (c : Check) (b : Byte) : Check :=
  crcBit (crcBit (crcBit (crcBit (crcBit (crcBit (crcBit (crcBit (c ^^^ (b.setWidth 16 <<< 8)))))))))

/-- The check of a sequence of bytes: initial value 0xFFFF, no final inversion (R194). -/
def crc16 (l : List Byte) : Check := l.foldl crcByte 0xFFFF#16

/-- The two check bytes, the high one first (R194). -/
def checkBytes (c : Check) : List Byte := [(c >>> 8).setWidth 8, c.setWidth 8]

/-! ### The frame (R194, R205) -/

/-- The start byte (R194). -/
def startByte : Byte := 0xA5

/-- The largest payload length (R194). -/
def payloadMax : Nat := 240

/-- The bytes between the start byte and the check: length, kind, request number, payload (R194). -/
def frameBody (kind number : Byte) (payload : List Byte) : List Byte :=
  BitVec.ofNat 8 payload.length :: kind :: number :: payload

/-- The bytes of a frame after its start byte. -/
def frameTail (kind number : Byte) (payload : List Byte) : List Byte :=
  frameBody kind number payload ++ checkBytes (crc16 (frameBody kind number payload))

/-- A whole frame (R205). -/
def frameBytes (kind number : Byte) (payload : List Byte) : List Byte := startByte :: frameTail kind number payload

/-! ### Payload fields -/

/-- The values of a payload's fields, in the order in which the request's rule names them. -/
abbrev PayloadFields := List Int

/-- The `i`th field of a payload as a signed number. -/
def PayloadFields.int (f : PayloadFields) (i : Nat) : Int := (f[i]?).getD 0

/-- The `i`th field of a payload as a natural number. -/
def PayloadFields.nat (f : PayloadFields) (i : Nat) : Nat := (f.int i).toNat

/-- The `i`th field of a payload as a flag or the level of one output. DESIGN CHOICE (notes/assumptions/41): 0 is clear or
de-energised, every other value set or energised. -/
def PayloadFields.flag (f : PayloadFields) (i : Nat) : Bool := f.int i != 0

/-- The `i`th field of a payload as one of the values a rule lists, coded from 0 in its order; `none` for any other
(DESIGN CHOICE, notes/assumptions/2). -/
def PayloadFields.pick {α : Type} (f : PayloadFields) (choices : List α) (i : Nat) : Option α := choices[f.nat i]?

/-- The first `n` fields of a payload: the items of its list. -/
def PayloadFields.items (f : PayloadFields) (n : Nat) : List Nat := (List.range n).map f.nat

/-- Check 3 of R198 for a request of fixed size: the payload has exactly that size. -/
def fixedSizeOk (kind : Byte) (payload : List Byte) : Bool := payload.length == Config.fixedSize kind

/-- Check 3 of R198 for a request that carries a list: the payload is its fixed part and as many items as it says. -/
def listSizeOk (kind : Byte) (payload : List Byte) : Bool :=
  payload.length == Config.fixedSize kind + Config.itemCount kind payload * Config.itemSize kind

/-- The little-endian value of a slice of a payload (R194). -/
def payloadWord (payload : List Byte) (offset size : Nat) : Nat :=
  ((payload.drop offset).take size).foldr (fun b n => b.toNat + 256 * n) 0

/-- The integer that a payload of one integer alone carries (R194). -/
def wholeWord (payload : List Byte) : Nat := payloadWord payload 0 payload.length

/-- The size in bytes of a time (R205). -/
def timeSize : Nat := 4

/-- The fixed part of an ADVISE payload, in bytes (R198). -/
def adviseFixed : Nat := 28

/-- One declaration line of an ADVISE payload: code 1 byte, count 2 (R198). -/
def adviseLine (payload : List Byte) (i : Nat) : Nat × Nat :=
  (payloadWord payload (adviseFixed + 3 * i) 1, payloadWord payload (adviseFixed + 3 * i + 1) 2)

/-- The first `n` bytes of a text field, padded with bytes of 0x00 where it is shorter (R205). -/
def textOf (n : Nat) (field : List Byte) : List Byte := field.take n ++ List.replicate (n - field.length) 0

/-- The content of an ADVISE payload: tag 4, bag type 1, service class 1, valid until 4, reference length 1, reference 16,
line count 1, then the lines (R198). The reference is as long as its length byte says, so that one of 0 or above 16 meets
check 2 of R54. -/
def adviseOf (payload : List Byte) : Advice where
  tag := payloadWord payload 0 4
  bagType := payloadWord payload 4 1
  serviceClass := payloadWord payload 5 1
  validUntil := payloadWord payload 6 4
  reference := textOf (payloadWord payload 10 1) ((payload.drop 11).take 16)
  lines := (List.range (payloadWord payload 27 1)).map (adviseLine payload)

/-- Whether the length of an ADVISE payload is the fixed part plus its lines (R198). -/
def adviseLengthOk (payload : List Byte) : Bool := payload.length == adviseFixed + 3 * payloadWord payload 27 1

/-- The head settings of a payload, from field 1 on (R3). -/
def headSettingsOf (f : PayloadFields) : HeadSettings := ⟨f.nat 1, f.nat 2, f.nat 3, f.nat 4, f.flag 5⟩

/-- The channel settings of a payload, from field 1 on (R28). -/
def weighSettingsOf (f : PayloadFields) : WeighSettings :=
  ⟨f.nat 1, f.nat 2, f.nat 3, f.nat 4, f.nat 5, f.nat 6, f.nat 7, f.nat 8, f.nat 9, f.nat 10, f.nat 11⟩

/-- The scanner settings of a payload (R46). -/
def scanSettingsOf (f : PayloadFields) : ScanSettings := ⟨f.nat 0, f.nat 1, f.nat 2, f.nat 3, f.int 4⟩

/-- The alarm settings of a payload: mode, width, polarity, then the seven enables (R177). -/
def alarmRequestOf (f : PayloadFields) : AlarmRequest where
  mode := f.pick [.level, .pulse] 0
  width := f.nat 1
  polarity := f.pick [.activeHigh, .activeLow] 2
  enables := ⟨f.flag 3, f.flag 4, f.flag 5, f.flag 6, f.flag 7, f.flag 8, f.flag 9⟩

/-- The 15 levels of a PATTERN_SET payload. DESIGN CHOICE (notes/assumptions/41): 0 is de-energised and 1 energised,
against the order in which R181 names them; any other value is neither. -/
def patternLevels (f : PayloadFields) : List (Option Bool) := (List.range 15).map fun i => f.pick [false, true] i

/-- The settings groups in the order of R203. -/
def settingsGroups : List SettingsGroup :=
  [.head, .weigh, .scan, .tables, .log, .lift, .release, .lines, .alarm, .link]

/-! ### The catalogue of requests (section 11.7) -/

/-- A request whose payload has not its form: it is refused BAD_FORMAT (R198). -/
def Req.malformed (r : Req) : Req := { r with formOk := false }

/-- The request a frame of kind 0x01 to 0x3F stands for. A request without fields has an empty payload; ADVISE has the
layout of R198, CLOCK_SET is one time (R174, R205); a request of one number or one head alone is that integer, in a size that
is free (notes/assumptions/2); the fields of every other request come from `Config.payloadFields` (notes/assumptions/2), its size from
`Config.fixedSize` and, for a list, `Config.itemCount` and `Config.itemSize`. A mode of
MODE_SET other than NIGHT and DAY is refused BAD_FORMAT (R139). DESIGN CHOICE (notes/assumptions/27): a kind of DENOM_SET, a
polarity of LINE_SET or a selector of ADVICE_QUERY that is none of the values its rule lists is refused in the same way, as
a payload that has not the request's form. DESIGN CHOICE (notes/assumptions/43): SETTINGS_READ has one size for all groups and
a head that a group does not need is not looked at; ADVICE_QUERY has one size for both selectors. -/
def requestOfFrame (p : PortId) (kind number : Byte) (payload : List Byte) : Instr :=
  let f : PayloadFields := Config.payloadFields kind payload
  let r : Req := ⟨p, number, fixedSizeOk kind payload⟩
  let bare : Req := ⟨p, number, payload.isEmpty⟩
  let listed : Req := ⟨p, number, listSizeOk kind payload⟩
  let items := f.items (Config.itemCount kind payload)
  match kind.toNat with
  | 0x01 => .status bare
  | 0x02 => .identify bare
  | 0x03 => .settingsRead r (f.pick settingsGroups 0) (f.nat 1)
  | 0x04 => .linkSet r (f.nat 0) (f.pick [.second, .minute] 1) (f.pick [.keepOpen, .close] 2)
  | 0x05 => .headOpen listed items
  | 0x06 => .headClose listed items
  | 0x07 => .headSet r (f.nat 0) (headSettingsOf f)
  | 0x08 => .headClearFault r (wholeWord payload)
  | 0x09 => .weighSet r (f.nat 0) (weighSettingsOf f)
  | 0x0A => .weightRead r (wholeWord payload)
  | 0x0B => .scanSet r (scanSettingsOf f)
  | 0x0C => .auxRead bare
  | 0x0D => .advise ⟨p, number, adviseLengthOk payload⟩ (adviseOf payload)
  | 0x0E => .withdraw r (wholeWord payload)
  | 0x0F =>
    match f.pick [AdviceSelector.byIndex (f.nat 1), .byTag (f.nat 1)] 0 with
    | some q => .adviceQuery r q
    | none => .adviceQuery r.malformed (.byIndex 0)
  | 0x10 =>
    match f.pick [DenomKind.note, .coin] 1 with
    | some k => .denomSet r (f.nat 0) k (f.nat 2) (f.flag 3)
    | none => .denomSet r.malformed (f.nat 0) .note (f.nat 2) (f.flag 3)
  | 0x11 => .bagTypeSet r (f.nat 0) (f.nat 1)
  | 0x12 => .toleranceSet r (f.nat 0) (f.nat 1) (f.nat 2)
  | 0x13 => .logRead r (f.nat 0) (f.nat 1)
  | 0x14 => .logInfo bare
  | 0x15 => .logPurge bare
  | 0x16 => .logSet r (wholeWord payload)
  | 0x17 => .binSet r (f.nat 0) (f.pick [.standard, .quarantine, .disabled] 1) (f.nat 2) (f.nat 3)
  | 0x18 => .binRead r (f.nat 0) (f.nat 1)
  | 0x19 => .zoneMapSet r [f.nat 0, f.nat 1, f.nat 2, f.nat 3]
  | 0x1A => .liftSet r (f.pick [.alternate, .run] 0) (f.nat 1) (f.nat 2)
  | 0x1B => .liftRead bare
  | 0x1C => .liftResolve r (f.pick [.delivered, .retrieved] 0)
  | 0x1D =>
    match f.nat 0 with
    | 0 => .modeSetNight r
    | 1 => .modeSetDay r
    | _ => .modeSetNight r.malformed
  | 0x1E => .scheduleSet r (f.nat 0) (f.nat 1) (f.flag 2)
  | 0x1F => .setReleaseWindow r (f.nat 0) (f.nat 1)
  | 0x20 => .officerSet r (f.nat 0) (f.nat 1) (f.pick [.teller, .supervisor] 2) (f.flag 3)
  | 0x21 => .releaseSet r (f.nat 0) (f.nat 1) (f.nat 2)
  | 0x22 => .releaseRequest r (f.nat 0) (f.nat 1)
  | 0x23 => .releaseConfirm r (f.nat 0) (f.nat 1)
  | 0x24 => .releaseCancel r (f.nat 0) (f.nat 1)
  | 0x25 => .releaseRead bare
  | 0x26 => .lineStatus bare
  | 0x27 => .lineAck listed items
  | 0x28 =>
    match f.pick [Polarity.activeHigh, .activeLow] 1 with
    | some q => .lineSet r (f.nat 0) q (f.nat 2)
    | none => .lineSet r.malformed (f.nat 0) .activeHigh (f.nat 2)
  | 0x29 => .lineReportSet r (f.nat 0) (f.pick [.none, .activate, .deactivate, .both] 1) (f.flag 2)
  | 0x2A => .outputSet r (f.nat 0) (f.flag 1)
  | 0x2B => .clockRead bare
  | 0x2C => .clockSet ⟨p, number, payload.length == timeSize⟩ (BitVec.ofNat 32 (payloadWord payload 0 timeSize))
  | 0x2D => .alarmAck bare
  | 0x2E => .alarmSet r (alarmRequestOf f)
  | 0x2F => .serviceEnter r (f.pick [.hold, .pattern, .limp] 0)
  | 0x30 => .serviceExit bare
  | 0x31 => .patternSet r (patternLevels f)
  | 0x32 => .snapshot bare
  | 0x33 => .calZero r (wholeWord payload)
  | 0x34 => .calSpan r (f.nat 0) (f.nat 1)
  | 0x35 => .calVerify r (f.nat 0) (f.nat 1) (f.nat 2)
  | 0x36 => .statsRead bare
  | 0x37 => .statsClear bare
  | 0x38 => .restart bare
  | 0x39 => .coldInitialise bare
  | k => .unlistedRequestKind bare (Fin.ofNat 6 (k - 0x3A))

/-- Whether a kind is a request's, 0x01 to 0x3F (R194, R196). -/
def isRequestKind (kind : Byte) : Bool := 1 ≤ kind.toNat && kind.toNat ≤ 0x3F

end Sys2Proof
end

