-- ==== Sys2Proof/Machine/Images.lean ====
section
/-! DEFINITION. Machine/Images.lean: the byte layouts the manual gives: little-endian integers, the record image of
LOG_READ (R206), the advice image of ADVICE_QUERY (R207), and the codes of verdicts, causes, states and refusals
(R205, R206, section 11.6). -/

namespace Sys2Proof.Machine

/-- An integer in little-endian order, in the number of bytes given (R194). -/
def littleEndian : Nat → Nat → List Byte
  | 0, _ => []
  | n + 1, v => BitVec.ofNat 8 v :: littleEndian n (v / 256)

/-- The integer that bytes in little-endian order stand for (R194). -/
def ofLittleEndian : List Byte → Nat
  | [] => 0
  | b :: rest => b.toNat + 256 * ofLittleEndian rest

/-- A text padded to its size with bytes of 0x00 (R205). -/
def padded (size : Nat) (l : List Byte) : List Byte := l ++ List.replicate (size - l.length) 0

/-- The code of a verdict (R206). -/
def verdictCode : Verdict → Nat
  | .multiple => 0
  | .unread => 1
  | .unsettled => 2
  | .unadvised => 3
  | .duplicate => 4
  | .shortMass => 5
  | .overMass => 6
  | .accepted => 7

/-- The code of a record's cause (R206). -/
def causeCode : RecordCause → Nat
  | .none => 0
  | .noTag => 1
  | .tagConflict => 2
  | .timeout => 3
  | .overrange => 4
  | .refFault => 5

/-- The code of a record's state (R206). -/
def recordStateCode : RecordState → Nat
  | .judged => 0
  | .inTransfer => 1
  | .stored => 2
  | .transferFault => 3
  | .withdrawn => 4
  | .released => 5

/-- The flags byte of a record image: bit 0 late, bit 1 overflow, bit 2 restarted (R206). -/
def recordFlags (r : Record) : Nat :=
  (if r.late then 1 else 0) + (if r.overflow then 2 else 0) + (if r.restarted then 4 else 0)

/-- The 44-byte image of a custody record (R206). -/
def recordImage (r : Record) : List Byte :=
  littleEndian 4 r.seq ++ littleEndian 4 (r.tag.getD 0) ++ littleEndian 2 (r.advice.getD 0xFFFF) ++
    littleEndian 1 (headIndex r.head) ++ littleEndian 1 (verdictCode r.verdict) ++ littleEndian 1 (recordFlags r) ++
    littleEndian 1 (causeCode r.cause) ++ littleEndian 1 (recordStateCode r.state) ++
    littleEndian 1 (r.bin.getD 0xFF) ++ littleEndian 4 (r.measured.getD 0xFFFFFFFF) ++
    littleEndian 4 (r.expected.getD 0) ++ littleEndian 4 (r.tolerance.getD 0) ++ littleEndian 4 r.landed ++
    littleEndian 4 (r.storedTime.getD 0) ++ littleEndian 4 (r.releaseTime.getD 0) ++
    littleEndian 2 ((r.officers.map (·.1)).getD 0) ++ littleEndian 2 ((r.officers.map (·.2)).getD 0)

/-- The code of an advice entry's state (R207). -/
def adviceStateCode : AdviceState → Nat
  | .pending => 0
  | .lodged _ => 1
  | .lodgedException _ => 2

/-- The custody sequence of an entry, 0 for a PENDING one (R207). -/
def adviceSequence : AdviceState → Nat
  | .pending => 0
  | .lodged seq | .lodgedException seq => seq

/-- The kind of a denomination as the table stands: 0 NOTE, 1 COIN (R207). -/
def denomKindCode (j : JudgeTables) (code : Nat) : Nat :=
  if (j.denominations[code]?).any (·.kind == .coin) then 1 else 0

/-- One line slot of an advice image: code, kind, count (R207). -/
def lineSlot (j : JudgeTables) (l : Nat × Nat) : List Byte :=
  littleEndian 1 l.1 ++ littleEndian 1 (denomKindCode j l.1) ++ littleEndian 2 l.2

/-- The 71-byte image of an advice entry (R207). -/
def adviceImage (j : JudgeTables) (e : AdviceEntry) : List Byte :=
  littleEndian 2 e.index ++ littleEndian 1 (adviceStateCode e.state) ++ littleEndian 1 e.bagType ++
    littleEndian 1 e.serviceClass ++ littleEndian 1 e.reference.length ++ littleEndian 1 e.lines.length ++
    littleEndian 4 e.tag ++ littleEndian 4 e.expected ++ littleEndian 4 e.validUntil ++
    littleEndian 4 (adviceSequence e.state) ++ padded 16 e.reference ++ padded 32 (e.lines.flatMap (lineSlot j))

/-- The result byte of a refusal (section 11.6). -/
def refuseCode : Refuse → Nat
  | .badFormat => 1
  | .paramRange => 2
  | .wrongPort => 3
  | .wrongMode => 4
  | .clockUnset => 5
  | .tableFull => 6
  | .duplicateTag => 7
  | .denomDisabled => 8
  | .massRange => 9
  | .badWindow => 10
  | .notFound => 11
  | .adviceLodged => 12
  | .logFull => 13
  | .refFault => 14
  | .tempHigh => 15
  | .tamper => 16
  | .headFault => 17
  | .cradleOccupied => 18
  | .channelOff => 19
  | .headNotClosed => 20
  | .timeLocked => 21
  | .officerUnknown => 22
  | .officerBusy => 23
  | .binEmpty => 24
  | .binBusy => 25
  | .binInUse => 27
  | .reservationsFull => 28
  | .notReserved => 29
  | .sameOfficer => 30
  | .supervisorRequired => 31
  | .hatchBusy => 32
  | .binsOpen => 33
  | .inService => 34
  | .doorShut => 35
  | .liftNotFault => 36
  | .custodyOpen => 37
  | .headStarting => 38

/-- The result byte of a reply: 0 for OK (section 11.6). -/
def resultCode : Reply → Nat
  | .ok _ => 0
  | .refused code => refuseCode code

end Sys2Proof.Machine
end

