-- ==== Sys2Proof/Machine/AdviceRequests.lean ====
section
/-! DEFINITION. Machine/AdviceRequests.lean: the meanings of ADVISE with its late match, WITHDRAW, ADVICE_QUERY, DENOM_SET,
BAG_TYPE_SET and TOLERANCE_SET (R53 to R59, R65 to R67, R80, R81). -/

namespace Sys2Proof.Machine

/-! ### ADVISE -/

/-- A record late-matched by a new advice: its verdict and advice fields alone change (R81). -/
def Record.lateMatched (r : Record) (v : Verdict) (index expected tolerance : Nat) : Record :=
  { r with verdict := v, late := true, advice := some index, expected := some expected, tolerance := some tolerance }

/-- Whether a record is the front entry of a staging queue (R123). -/
def State.isFront (s : State) (seq : Nat) : Bool := HeadId.all.any fun h => (s.head h).staging.head? == some seq

/-- The recomputed verdict of a late match, by the mass tests alone (R80). -/
def lateVerdict (j : JudgeTables) (a : Advice) (expected : Nat) (r : Record) : Verdict :=
  massVerdict (r.measured.getD 0) expected (toleranceOf expected (j.toleranceEntry a.serviceClass))

/-- The advice late-matches a record: entered as lodged, its index at the tail of the lodging order (R56, R80, R81);
a front record of a staging queue then runs an arbitration (R123). -/
def lateMatch (a : Advice) (r : Record) (s : State) : State × Reply :=
  let index := s.advices.freeIndex
  let expected := expectedMass s.judge a
  let tolerance := toleranceOf expected (s.judge.toleranceEntry a.serviceClass)
  let v := lateVerdict s.judge a expected r
  let s := s.updateRecord r.seq fun r => r.lateMatched v index expected tolerance
  let s := { s with advices :=
    ⟨insertEntry (entryOf a index expected (lodgedState v r.seq)) s.advices.entries, s.advices.order ++ [index]⟩ }
  accept (.lateMatch index expected r.seq v) (if s.isFront r.seq then arbitrate s else s)

/-- The advice is entered PENDING at the lowest free index (R55). -/
def enterPending (a : Advice) (s : State) : State × Reply :=
  let index := s.advices.freeIndex
  let expected := expectedMass s.judge a
  accept (.entered index expected)
    { s with advices := { s.advices with
      entries := insertEntry (entryOf a index expected .pending) s.advices.entries } }

/-- An advice that has passed its checks: the oldest record it can late-match, or else a new PENDING entry (R56). -/
def enterAdvice (a : Advice) (s : State) : State × Reply :=
  match s.log.records.find? (·.lateMatchable a.tag) with
  | some r => lateMatch a r s
  | none => enterPending a s

/-- ADVISE is taken: the six checks of R53, then R55 or R56. -/
def takeAdvise (r : Req) (a : Advice) : State → State × Reply :=
  guarded false r (settledReply fun s => checked (adviseRefusal s a) (enterAdvice a) s)

/-- ADVISE (R53). -/
def execAdvise (r : Req) (a : Advice) (s : State) : Host.Outcome State Fault Refusal :=
  done (arrive r (.advise r a) (takeAdvise r a) s)

/-! ### WITHDRAW and ADVICE_QUERY -/

/-- WITHDRAW is taken (R58). -/
def takeWithdraw (r : Req) (tag : Nat) : State → State × Reply :=
  guarded false r fun s =>
    if tagOk tag = false then refuse .badFormat s
    else
      match s.advices.pendingOf tag with
      | some e => accept (.freed e.index) { s with advices := s.advices.freeEntry e.index }
      | none => if s.advices.lodgedHas tag then refuse .adviceLodged s else refuse .notFound s

/-- WITHDRAW (R58). -/
def execWithdraw (r : Req) (tag : Nat) (s : State) : Host.Outcome State Fault Refusal :=
  done (arrive r (.withdraw r tag) (takeWithdraw r tag) s)

/-- The lodged entry with a tag nearest the tail of the lodging order (R59). -/
def AdviceTable.lastLodged (t : AdviceTable) (tag : Nat) : Option AdviceEntry :=
  (t.order.reverse.filterMap t.entry).find? fun e => e.tag == tag

/-- The entry that ADVICE_QUERY returns, or its refusal (R59). -/
def AdviceTable.query (t : AdviceTable) : AdviceSelector → Except Refuse AdviceEntry
  | .byIndex i =>
    if 399 < i then .error .paramRange
    else match t.entry i with
      | some e => .ok e
      | none => .error .notFound
  | .byTag tag =>
    if tagOk tag = false then .error .badFormat
    else match t.pendingOf tag, t.lastLodged tag with
      | some e, _ => .ok e
      | none, some e => .ok e
      | none, none => .error .notFound

/-- ADVICE_QUERY is taken (R59, R207). -/
def takeAdviceQuery (r : Req) (sel : AdviceSelector) : State → State × Reply :=
  guarded false r fun s =>
    match s.advices.query sel with
    | .ok e => accept (.adviceImage (adviceImage s.judge e)) s
    | .error code => refuse code s

/-- ADVICE_QUERY (R59). -/
def execAdviceQuery (r : Req) (sel : AdviceSelector) (s : State) : Host.Outcome State Fault Refusal :=
  done (arrive r (.adviceQuery r sel) (takeAdviceQuery r sel) s)

/-! ### The declaration tables -/

/-- DENOM_SET is taken (R65). -/
def takeDenomSet (r : Req) (code : Nat) (kind : DenomKind) (mass : Nat) (enabled : Bool) : State → State × Reply :=
  guarded false r fun s =>
    if 15 < code ∨ inRange 1 20000 mass = false then refuse .paramRange s
    else accept .done
      { s with judge := { s.judge with denominations := s.judge.denominations.set code ⟨kind, mass, enabled⟩ } }

/-- DENOM_SET (R65). -/
def execDenomSet (r : Req) (code : Nat) (kind : DenomKind) (mass : Nat) (enabled : Bool) (s : State) :
    Host.Outcome State Fault Refusal :=
  done (arrive r (.denomSet r code kind mass enabled) (takeDenomSet r code kind mass enabled) s)

/-- BAG_TYPE_SET is taken (R66). -/
def takeBagTypeSet (r : Req) (bagType tare : Nat) : State → State × Reply :=
  guarded false r fun s =>
    if 3 < bagType ∨ 2000000 < tare then refuse .paramRange s
    else accept .done { s with judge := { s.judge with tares := s.judge.tares.set bagType tare } }

/-- BAG_TYPE_SET (R66). -/
def execBagTypeSet (r : Req) (bagType tare : Nat) (s : State) : Host.Outcome State Fault Refusal :=
  done (arrive r (.bagTypeSet r bagType tare) (takeBagTypeSet r bagType tare) s)

/-- TOLERANCE_SET is taken (R67). -/
def takeToleranceSet (r : Req) (cls floor perMille : Nat) : State → State × Reply :=
  guarded false r fun s =>
    if 3 < cls ∨ 200000 < floor ∨ 100 < perMille then refuse .paramRange s
    else accept .done { s with judge := { s.judge with tolerances := s.judge.tolerances.set cls ⟨floor, perMille⟩ } }

/-- TOLERANCE_SET (R67). -/
def execToleranceSet (r : Req) (cls floor perMille : Nat) (s : State) : Host.Outcome State Fault Refusal :=
  done (arrive r (.toleranceSet r cls floor perMille) (takeToleranceSet r cls floor perMille) s)

end Sys2Proof.Machine
end

