-- ==== Sys2Proof/Machine/BinRequests.lean ====
section
/-! DEFINITION. Machine/BinRequests.lean: the meanings of BIN_SET, BIN_READ and ZONE_MAP_SET (R106, R107, R108). -/

namespace Sys2Proof.Machine

/-- The refusal of a BIN_SET, by the three checks of R107. -/
def binSetRefusal (s : State) (bin : Nat) (cls : Option BinClass) (zone limit : Nat) : Option Refuse :=
  match s.bin bin, cls with
  | some b, some c =>
    if 3 < zone ∨ inRange 1000000 60000000 limit = false then some .paramRange
    else if b.count ≠ 0 ∨ b.lock ≠ .locked then some .binInUse
    else if c = .standard ∧ b.cls ≠ .standard ∧ (s.log.records.any fun r => r.bin == some bin) = true then
      some .binInUse
    else none
  | _, _ => some .paramRange

/-- BIN_SET is taken: the bin is configured, and a change of room signalled (R107, R119). -/
def takeBinSet (r : Req) (bin : Nat) (cls : Option BinClass) (zone limit : Nat) : State → State × Reply :=
  guarded false r (settledReply fun s =>
    checked (binSetRefusal s bin cls zone limit)
      (fun s => accept .done (arbitrate (s.updateBin bin fun b =>
        { b with cls := cls.getD b.cls, zone := zone, limit := limit }))) s)

/-- BIN_SET (R107). -/
def execBinSet (r : Req) (bin : Nat) (cls : Option BinClass) (zone limit : Nat) (s : State) :
    Host.Outcome State Fault Refusal :=
  done (arrive r (.binSet r bin cls zone limit) (takeBinSet r bin cls zone limit) s)

/-- The entries of the bin table from a bin upwards, with their numbers (R108). -/
def BinTable.entriesFrom (t : BinTable) (first count : Nat) : List (Nat × Bin) :=
  ((t.bins.mapIdx fun i b => (i, b)).drop first).take count

/-- BIN_READ is taken (R108). -/
def takeBinRead (r : Req) (first count : Nat) : State → State × Reply :=
  guarded false r fun s =>
    if 59 < first ∨ inRange 1 12 count = false then refuse .paramRange s
    else accept (.bins (s.rack.entriesFrom first count) s.rack.zoneFull s.rack.rackFull) s

/-- BIN_READ (R108). -/
def execBinRead (r : Req) (first count : Nat) (s : State) : Host.Outcome State Fault Refusal :=
  done (arrive r (.binRead r first count) (takeBinRead r first count) s)

/-- ZONE_MAP_SET is taken: the map takes the new values, and a change of room is signalled (R106, R119). -/
def takeZoneMapSet (r : Req) (zones : List Nat) : State → State × Reply :=
  guarded false r (settledReply fun s =>
    if zones.length ≠ 4 then refuse .badFormat s
    else if (zones.any fun z => 3 < z) = true then refuse .paramRange s
    else accept .done (arbitrate { s with rack := { s.rack with zoneMap := zones } }))

/-- ZONE_MAP_SET (R106). -/
def execZoneMapSet (r : Req) (zones : List Nat) (s : State) : Host.Outcome State Fault Refusal :=
  done (arrive r (.zoneMapSet r zones) (takeZoneMapSet r zones) s)

end Sys2Proof.Machine
end

