-- ==== Sys2Proof/Machine/HeadRequests.lean ====
section
/-! DEFINITION. Machine/HeadRequests.lean: the meanings of HEAD_OPEN, HEAD_CLOSE, HEAD_SET and HEAD_CLEAR_FAULT (R3, R5,
R19, R24). -/

namespace Sys2Proof.Machine

/-- HEAD_OPEN is taken: the list, the two checks for the whole device, then each head in turn (R5). -/
def takeHeadOpen (r : Req) (heads : List Nat) : State → State × Reply :=
  guarded false r (settledReply fun s =>
    match headList heads with
    | none => refuse .badFormat s
    | some hs =>
      if s.mode ≠ .night then refuse .wrongMode s
      else if s.clock = none then refuse .clockUnset s
      else
        let out := openHeads false hs s
        accept (.headOutcomes out.1) out.2)

/-- HEAD_OPEN (R5). -/
def execHeadOpen (r : Req) (heads : List Nat) (s : State) : Host.Outcome State Fault Refusal :=
  done (arrive r (.headOpen r heads) (takeHeadOpen r heads) s)

/-- HEAD_CLOSE is taken: close pending with cause REQUESTED reaches the named heads (R19). DESIGN CHOICE
(notes/assumptions/12): in the order listed. -/
def takeHeadClose (r : Req) (heads : List Nat) : State → State × Reply :=
  guarded false r (settledReply fun s =>
    match headList heads with
    | none => refuse .badFormat s
    | some hs => accept .done (hs.foldl (fun s h => receiveClose h .requested s) s))

/-- HEAD_CLOSE (R19). -/
def execHeadClose (r : Req) (heads : List Nat) (s : State) : Host.Outcome State Fault Refusal :=
  done (arrive r (.headClose r heads) (takeHeadClose r heads) s)

/-- HEAD_SET is taken (R3; a head that is not listed: notes/assumptions/20). -/
def takeHeadSet (r : Req) (head : Nat) (v : HeadSettings) : State → State × Reply :=
  guarded false r fun s =>
    match headOfCode head with
    | none => refuse Config.unknownHead s
    | some h =>
      if headSettingsOk v then accept .done (s.setHead h { s.head h with settings := v })
      else refuse .paramRange s

/-- HEAD_SET (R3). -/
def execHeadSet (r : Req) (head : Nat) (v : HeadSettings) (s : State) : Host.Outcome State Fault Refusal :=
  done (arrive r (.headSet r head v) (takeHeadSet r head v) s)

/-- A head in FAULT goes on by the first matching case of R24; the error is the refusal. -/
def clearFault (h : HeadId) (s : State) : Except Refuse State :=
  let pend (s : State) : State :=
    updateHead h (fun hd => { hd with closePending := some (hd.closePending.getD .requested) }) s
  if (s.head h).cradleRecord.isSome then .ok (enterHold h (pend s))
  else if s.cradle h then
    if s.mode = .day then .error .wrongMode
    else if (s.head h).reservation then .ok (enterRecover h (pend s))
    else
      match takeReservation h s with
      | some s => .ok (signalIfFull (enterRecover h (pend s)))
      | none => .error .logFull
  else .ok (closeHead h .faultCleared (giveBack h s))

/-- HEAD_CLEAR_FAULT is taken: a head that is not in FAULT is left alone; the reply gives the head state
(R24, notes/assumptions/32). -/
def takeHeadClearFault (r : Req) (head : Nat) : State → State × Reply :=
  guarded true r (settledReply fun s =>
    match headOfCode head with
    | none => refuse Config.unknownHead s
    | some h =>
      if (s.head h).state.isFault then
        match clearFault h s with
        | .ok s => accept (.headState (s.head h).state) s
        | .error code => refuse code s
      else accept (.headState (s.head h).state) s)

/-- HEAD_CLEAR_FAULT (R24). -/
def execHeadClearFault (r : Req) (head : Nat) (s : State) : Host.Outcome State Fault Refusal :=
  done (arrive r (.headClearFault r head) (takeHeadClearFault r head) s)

end Sys2Proof.Machine
end

