-- ==== Sys2Proof/Machine/LiftRequests.lean ====
section
/-! DEFINITION. Machine/LiftRequests.lean: the meanings of LIFT_SET, LIFT_READ and LIFT_RESOLVE (R121, R131, R135). -/

namespace Sys2Proof.Machine

/-- LIFT_SET is taken (R121; the order of its two refusals is that of the rule's text, notes/assumptions/21). -/
def takeLiftSet (r : Req) (mode : Option ArbMode) (runLimit transferTime : Nat) : State → State × Reply :=
  guarded false r fun s =>
    match mode with
    | none => refuse .badFormat s
    | some m =>
      if inRange 1 8 runLimit && inRange 5 120 transferTime then
        accept .done { s with lift := { s.lift with mode := m, runLimit := runLimit, transferTime := transferTime } }
      else refuse .paramRange s

/-- LIFT_SET (R121). -/
def execLiftSet (r : Req) (mode : Option ArbMode) (runLimit transferTime : Nat) (s : State) :
    Host.Outcome State Fault Refusal :=
  done (arrive r (.liftSet r mode runLimit transferTime) (takeLiftSet r mode runLimit transferTime) s)

/-- The reply of LIFT_READ (R135). DESIGN CHOICE (notes/assumptions/36): the unlock list is shown oldest order first. -/
def liftReport (s : State) : LiftReport where
  state := s.lift.state
  lastHead := s.lift.lastHead
  runCount := s.lift.runCount
  mode := s.lift.mode
  runLimit := s.lift.runLimit
  transferTime := s.lift.transferTime
  moveOutstanding := s.lift.moveOutstanding
  unlockList := s.lift.unlockList
  driveErrors := s.service.stats.driveErrors

/-- LIFT_READ is taken (R135). -/
def takeLiftRead (r : Req) : State → State × Reply := guarded false r (report fun s => .lift (liftReport s))

/-- LIFT_READ (R135). -/
def execLiftRead (r : Req) (s : State) : Host.Outcome State Fault Refusal :=
  done (arrive r (.liftRead r) (takeLiftRead r) s)

/-- The in-flight record of a faulted lift is retrieved: the record WITHDRAWN, its bin relieved of it (R89, R116, R131). -/
def retrieveInFlight (f : InFlight) (s : State) : State :=
  let mass := ((s.record f.seq).map (·.allocationMass)).getD 0
  retrieve f.bin mass (s.updateRecord f.seq fun r => { r with state := .withdrawn })

/-- The fault is resolved with an outcome; the lift enters IDLE and arbitrates (R131). -/
def resolveLift (f : InFlight) (outcome : ResolveOutcome) (s : State) : State × Reply :=
  match outcome with
  | .delivered =>
    accept (.resolved f.seq .stored) (arbitrate (liftIdle (storeInFlight f .resolved s)))
  | .retrieved => accept (.resolved f.seq .withdrawn) (arbitrate (liftIdle (retrieveInFlight f s)))

/-- LIFT_RESOLVE is taken (R131). -/
def takeLiftResolve (r : Req) (outcome : Option ResolveOutcome) : State → State × Reply :=
  guarded true r (settledReply fun s =>
    match outcome with
    | none => refuse .badFormat s
    | some o =>
      match s.lift.state with
      | .fault _ f => resolveLift f o s
      | .idle | .moving _ _ => refuse .liftNotFault s)

/-- LIFT_RESOLVE (R131). -/
def execLiftResolve (r : Req) (outcome : Option ResolveOutcome) (s : State) : Host.Outcome State Fault Refusal :=
  done (arrive r (.liftResolve r outcome) (takeLiftResolve r outcome) s)

end Sys2Proof.Machine
end

