-- ==== Sys2Proof/Machine/LinkRequests.lean ====
section
/-! DEFINITION. Machine/LinkRequests.lean: the meanings of the requests of chapter 11: a kind the catalogue does not list,
STATUS, IDENTIFY, SETTINGS_READ and LINK_SET. `takeX` is what taking request X does and replies; `execX` is its arrival at
its port. -/

namespace Sys2Proof.Machine

/-- A kind of 0x3A to 0x3F is refused BAD_FORMAT on either port (R198 check 1). -/
def takeUnlistedRequestKind (s : State) : State × Reply := refuse .badFormat s

/-- UNLISTED_REQUEST_KIND (R198). -/
def execUnlistedRequestKind (r : Req) (offset : Fin 6) (s : State) : Host.Outcome State Fault Refusal :=
  done (arrive r (.unlistedRequestKind r offset) takeUnlistedRequestKind s)

/-- What STATUS reports of a head (R202). -/
def Head.report (hd : Head) : HeadReport := ⟨hd.state, hd.closePending⟩

/-- The reply of STATUS (R202). -/
def statusOf (s : State) : StatusReport where
  mode := s.mode
  clockSet := s.clock.isSome
  heads := s.heads.map Head.report
  lift := s.lift.state
  free := s.logFree
  occupied := s.advices.entries.length
  pendingAdvices := s.advices.entries.countP AdviceEntry.isPending
  lodgedAdvices := s.advices.entries.countP fun e => !e.isPending
  refFaults := s.channels.map (·.refFault)
  tempHigh := s.scanner.tempHigh
  linkLost := s.link.lost
  latched := s.alarm.latched
  service := s.service.state
  branchReceive := s.link.branch.receiveOver
  branchNotice := s.link.branch.noticeOver
  serviceReceive := s.link.service.receiveOver
  serviceNotice := s.link.service.noticeOver

/-- STATUS is taken: it reports, then clears the two overflow flags of its own port (R202). -/
def takeStatus (r : Req) : State → State × Reply :=
  guarded false r fun s =>
    (s.setPort r.port { s.port r.port with receiveOver := false, noticeOver := false }, .ok (.status (statusOf s)))

/-- STATUS (R202). -/
def execStatus (r : Req) (s : State) : Host.Outcome State Fault Refusal := done (arrive r (.status r) (takeStatus r) s)

/-- IDENTIFY is taken (R203). -/
def takeIdentify (r : Req) : State → State × Reply :=
  guarded false r (accept (.identity "ND-360" Config.revision Config.serial))

/-- IDENTIFY (R203). -/
def execIdentify (r : Req) (s : State) : Host.Outcome State Fault Refusal :=
  done (arrive r (.identify r) (takeIdentify r) s)

/-- The settings of a line, as SETTINGS_READ gives them (R203). -/
def InputLine.settings (l : InputLine) : LineSettings := ⟨l.polarity, l.debounce, l.report, l.notify⟩

/-- The current values of a settings group; `none` for a head that is not listed (R203). -/
def settingsOf (s : State) (head : Nat) : SettingsGroup → Option SettingsReport
  | .head => (headOfCode head).map fun h => .head (s.head h).settings
  | .weigh => (headOfCode head).map fun h => .weigh (s.channel h).settings
  | .scan => some (.scan s.scanner.settings)
  | .tables => some (.tables s.judge s.rack.zoneMap)
  | .log => some (.log s.log.lowWater)
  | .lift => some (.lift s.lift.mode s.lift.runLimit s.lift.transferTime)
  | .release =>
    some (.release s.release.schedule s.release.active s.release.pending s.release.settings s.release.officers)
  | .lines => some (.lines (s.inputs.map InputLine.settings))
  | .alarm => some (.alarm s.alarm.mode s.alarm.width s.alarm.polarity s.alarm.enables)
  | .link => some (.link s.link.count s.link.unit s.link.policy)

/-- SETTINGS_READ is taken: a group or head outside those listed is refused PARAM_RANGE (R203). -/
def takeSettingsRead (r : Req) (group : Option SettingsGroup) (head : Nat) : State → State × Reply :=
  guarded false r fun s =>
    match group.bind (settingsOf s head) with
    | some v => accept (.settings v) s
    | none => refuse .paramRange s

/-- SETTINGS_READ (R203). -/
def execSettingsRead (r : Req) (group : Option SettingsGroup) (head : Nat) (s : State) :
    Host.Outcome State Fault Refusal :=
  done (arrive r (.settingsRead r group head) (takeSettingsRead r group head) s)

/-- LINK_SET is taken: the watch settings are stored and the timer restarted with the new timeout (R201; the order of the
two refusals: notes/assumptions/21). -/
def takeLinkSet (r : Req) (count : Nat) (unit : Option WatchUnit) (policy : Option LinkPolicy) :
    State → State × Reply :=
  guarded false r fun s =>
    if 255 < count then refuse .paramRange s
    else
      match unit, policy with
      | some u, some p =>
        accept .done (restartWatch { s with link := { s.link with count := count, unit := u, policy := p } })
      | _, _ => refuse .badFormat s

/-- LINK_SET (R201). -/
def execLinkSet (r : Req) (count : Nat) (unit : Option WatchUnit) (policy : Option LinkPolicy) (s : State) :
    Host.Outcome State Fault Refusal :=
  done (arrive r (.linkSet r count unit policy) (takeLinkSet r count unit policy) s)

end Sys2Proof.Machine
end

