-- ==== Sys2Proof/Machine/ReleaseRequests.lean ====
section
/-! DEFINITION. Machine/ReleaseRequests.lean: the meanings of MODE_SET, SCHEDULE_SET, SET_RELEASE_WINDOW, OFFICER_SET,
RELEASE_SET and the four release requests (R139 to R152, R159). -/

namespace Sys2Proof.Machine

/-! ### Modes, schedule and window -/

/-- MODE_SET NIGHT is taken: the mode, and an outcome for each auto-open head (R139, R140). -/
def takeModeSetNight (r : Req) : State → State × Reply :=
  guarded false r (settledReply fun s =>
    match setNight .request s with
    | .ok (outcomes, s) => accept (.mode .night outcomes) s
    | .error code => refuse code s)

/-- MODE_SET_NIGHT (R139, R140). -/
def execModeSetNight (r : Req) (s : State) : Host.Outcome State Fault Refusal :=
  done (arrive r (.modeSetNight r) (takeModeSetNight r) s)

/-- The mode that the reply of MODE_SET DAY gives: DAY_PENDING where it is entered, otherwise the current mode (R141). -/
def dayReply : ModeName → ModeName
  | .night => .dayPending
  | .dayPending => .dayPending
  | .day => .day

/-- MODE_SET DAY is taken (R141). -/
def takeModeSetDay (r : Req) : State → State × Reply :=
  guarded false r (settledReply fun s => accept (.mode (dayReply s.mode) []) (setDay .request s))

/-- MODE_SET_DAY (R141). -/
def execModeSetDay (r : Req) (s : State) : Host.Outcome State Fault Refusal :=
  done (arrive r (.modeSetDay r) (takeModeSetDay r) s)

/-- SCHEDULE_SET is taken (R143). -/
def takeScheduleSet (r : Req) (nightStart dayMinute : Nat) (enabled : Bool) : State → State × Reply :=
  guarded false r fun s =>
    if minuteOk nightStart = false ∨ minuteOk dayMinute = false ∨ nightStart = dayMinute then refuse .paramRange s
    else accept .done { s with release := { s.release with schedule := ⟨nightStart, dayMinute, enabled⟩ } }

/-- SCHEDULE_SET (R143). -/
def execScheduleSet (r : Req) (nightStart dayMinute : Nat) (enabled : Bool) (s : State) :
    Host.Outcome State Fault Refusal :=
  done (arrive r (.scheduleSet r nightStart dayMinute enabled) (takeScheduleSet r nightStart dayMinute enabled) s)

/-- SET_RELEASE_WINDOW is taken: the pair becomes the pending window (R146). -/
def takeSetReleaseWindow (r : Req) (openMinute closeMinute : Nat) : State → State × Reply :=
  guarded false r fun s =>
    if minuteOk openMinute = false ∨ minuteOk closeMinute = false ∨ openMinute = closeMinute then refuse .paramRange s
    else accept .done { s with release := { s.release with pending := some ⟨openMinute, closeMinute⟩ } }

/-- SET_RELEASE_WINDOW (R146). -/
def execSetReleaseWindow (r : Req) (openMinute closeMinute : Nat) (s : State) : Host.Outcome State Fault Refusal :=
  done (arrive r (.setReleaseWindow r openMinute closeMinute) (takeSetReleaseWindow r openMinute closeMinute) s)

/-! ### Officers and settings -/

/-- The new content of an officer slot; number 0 empties it, whatever the role (R147, notes/assumptions/33). `none` is a
role that is neither TELLER nor SUPERVISOR. -/
def officerContent (number : Nat) (role : Option Role) (enabled : Bool) : Option (Option Officer) :=
  if number = 0 then some none
  else role.map fun p => some ⟨number, p, enabled⟩

/-- Whether a slot other than the one given holds an officer number (R147). -/
def Release.heldElsewhere (c : Release) (slot number : Nat) : Bool :=
  (c.officers.set slot none).any fun o => o.any fun o => o.number == number

/-- The reservation of the officer a slot held before it changes (R147). -/
def Release.disturbed (c : Release) (old new : Option Officer) : Option Reservation :=
  match old with
  | some o => if some o = new then none else c.reservations.find? fun v => v.officer == o.number
  | none => none

/-- A slot takes new content; a live reservation of the officer it held is cancelled, and the room signalled (R147,
R119). -/
def writeOfficer (slot : Nat) (new : Option Officer) (s : State) : State :=
  let hit := s.release.disturbed ((s.release.officers[slot]?).getD none) new
  let s := { s with release := { s.release with officers := s.release.officers.set slot new } }
  match hit with
  | some v => arbitrate (endReservation v .cancelled s)
  | none => s

/-- OFFICER_SET is taken (R147). -/
def takeOfficerSet (r : Req) (slot number : Nat) (role : Option Role) (enabled : Bool) : State → State × Reply :=
  guarded false r (settledReply fun s =>
    if 15 < slot ∨ 9999 < number then refuse .paramRange s
    else
      match officerContent number role enabled with
      | none => refuse .paramRange s
      | some new =>
        if number ≠ 0 ∧ s.release.heldElsewhere slot number = true then refuse .paramRange s
        else accept .done (writeOfficer slot new s))

/-- OFFICER_SET (R147). -/
def execOfficerSet (r : Req) (slot number : Nat) (role : Option Role) (enabled : Bool) (s : State) :
    Host.Outcome State Fault Refusal :=
  done (arrive r (.officerSet r slot number role enabled) (takeOfficerSet r slot number role enabled) s)

/-- RELEASE_SET is taken (R148). -/
def takeReleaseSet (r : Req) (confirmTime unlockTime openLimit : Nat) : State → State × Reply :=
  guarded false r fun s =>
    if inRange 10 300 confirmTime && inRange 2 30 unlockTime && inRange 1 60 openLimit then
      accept .done { s with release := { s.release with settings := ⟨confirmTime, unlockTime, openLimit⟩ } }
    else refuse .paramRange s

/-- RELEASE_SET (R148). -/
def execReleaseSet (r : Req) (confirmTime unlockTime openLimit : Nat) (s : State) : Host.Outcome State Fault Refusal :=
  done (arrive r (.releaseSet r confirmTime unlockTime openLimit) (takeReleaseSet r confirmTime unlockTime openLimit) s)

/-! ### Dual control -/

/-- Whether the device clock lies inside the active window (R145). -/
def State.insideActive (s : State) : Bool := insideWindow s.release.active s.clock

/-- The refusal of a RELEASE_REQUEST, by the eight checks of R149 in their order. -/
def requestRefusal (s : State) (bin officer : Nat) : Option Refuse :=
  if s.mode ≠ .day then some .wrongMode
  else if s.insideActive = false then some .timeLocked
  else if s.release.knows officer = false then some .officerUnknown
  else
    match s.bin bin with
    | none => some .paramRange
    | some b =>
      if b.count = 0 then some .binEmpty
      else if b.lock ≠ .locked then some .binBusy
      else if (s.release.reservations.any fun v => v.officer == officer) = true then some .officerBusy
      else if 4 ≤ s.release.reservations.length then some .reservationsFull
      else none

/-- A bin is reserved by an officer (R149). -/
def reserve (bin officer : Nat) (s : State) : State :=
  let v : Reservation := ⟨bin, officer, s.now, s.release.settings.confirmTime⟩
  setLock bin .reserved { s with release := { s.release with reservations := s.release.reservations ++ [v] } }

/-- RELEASE_REQUEST is taken (R149). -/
def takeReleaseRequest (r : Req) (bin officer : Nat) : State → State × Reply :=
  guarded false r fun s =>
    checked (requestRefusal s bin officer)
      (fun s => accept (.reserved bin s.release.settings.confirmTime) (reserve bin officer s)) s

/-- RELEASE_REQUEST (R149). -/
def execReleaseRequest (r : Req) (bin officer : Nat) (s : State) : Host.Outcome State Fault Refusal :=
  done (arrive r (.releaseRequest r bin officer) (takeReleaseRequest r bin officer) s)

/-- Whether a confirm of a bin needs a supervisor it does not have (R150 check 6). -/
def lacksSupervisor (s : State) (v : Reservation) (officer : Nat) : Bool :=
  (s.bin v.bin).any (·.cls == .quarantine) &&
    !s.release.isSupervisor v.officer && !s.release.isSupervisor officer

/-- A confirm that passes: the reservation is spent, the bin becomes UNLOCKING with its unlock record, and the UNLOCK order
is given (R150, R132). DESIGN CHOICE (notes/assumptions/36): unlock records and unlock list are kept oldest first. -/
def confirm (v : Reservation) (officer : Nat) (s : State) : State :=
  let u : UnlockRecord := ⟨v.bin, v.officer, officer, some s.release.settings.unlockTime, false⟩
  let s := { s with release := { s.release with
    reservations := s.release.reservations.filter fun x => x.bin != v.bin
    unlocks := s.release.unlocks ++ [u] } }
  let s := setLock v.bin .unlocking s
  giveOrder (.unlock v.bin) { s with lift := { s.lift with unlockList := s.lift.unlockList ++ [v.bin] } }

/-- RELEASE_CONFIRM is taken: the seven checks of R150 in their order, two of which cancel the reservation. -/
def takeReleaseConfirm (r : Req) (bin officer : Nat) : State → State × Reply :=
  guarded false r (settledReply fun s =>
    if s.mode ≠ .day then refuse .wrongMode s
    else
      match s.release.reservationOf bin with
      | none => refuse .notReserved s
      | some v =>
        if s.insideActive = false then refuse .timeLocked (arbitrate (endReservation v .cancelled s))
        else if officer = v.officer then refuse .sameOfficer (arbitrate (endReservation v .cancelled s))
        else if s.release.knows officer = false then refuse .officerUnknown s
        else if lacksSupervisor s v officer then refuse .supervisorRequired s
        else if 2 ≤ s.rack.openBins then refuse .hatchBusy s
        else accept (.bin bin) (confirm v officer s))

/-- RELEASE_CONFIRM (R150). -/
def execReleaseConfirm (r : Req) (bin officer : Nat) (s : State) : Host.Outcome State Fault Refusal :=
  done (arrive r (.releaseConfirm r bin officer) (takeReleaseConfirm r bin officer) s)

/-- RELEASE_CANCEL is taken (R152). -/
def takeReleaseCancel (r : Req) (bin officer : Nat) : State → State × Reply :=
  guarded false r (settledReply fun s =>
    match s.release.reservationOf bin with
    | none => refuse .notReserved s
    | some v =>
      if s.release.knows officer = false then refuse .officerUnknown s
      else accept (.bin bin) (arbitrate (endReservation v .cancelled s)))

/-- RELEASE_CANCEL (R152). -/
def execReleaseCancel (r : Req) (bin officer : Nat) (s : State) : Host.Outcome State Fault Refusal :=
  done (arrive r (.releaseCancel r bin officer) (takeReleaseCancel r bin officer) s)

/-! ### RELEASE_READ -/

/-- The seconds left on a running timer: the `k`th free value from the current index on, at most the time the timer was
started with (R159, notes/assumptions/7). -/
def secondsLeft (s : State) (k duration : Nat) : Nat := min (Config.secondsLeft (s.free + k)) duration

/-- A reservation as RELEASE_READ gives it (R159). -/
def reservationReport (s : State) (k : Nat) (v : Reservation) : ReservationReport :=
  ⟨v.bin, v.officer, v.made, secondsLeft s k v.timer⟩

/-- An unlock record as RELEASE_READ gives it (R159). -/
def unlockReport (s : State) (k : Nat) (u : UnlockRecord) : UnlockReport :=
  ⟨u.bin, ((s.bin u.bin).map (·.lock)).getD .locked, u.requesting, u.confirming, u.timer.map (secondsLeft s k),
    u.openLong⟩

/-- The reply of RELEASE_READ (R159). -/
def releaseReport (s : State) : ReleaseReport where
  mode := s.mode
  schedule := s.release.schedule
  active := s.release.active
  pending := s.release.pending
  inside := s.insideActive
  settings := s.release.settings
  reservations := s.release.reservations.mapIdx (reservationReport s)
  unlocks := s.release.unlocks.mapIdx fun k => unlockReport s (s.release.reservations.length + k)

/-- RELEASE_READ is taken: it draws one free value for each timer it may show (R159). -/
def takeReleaseRead (r : Req) : State → State × Reply :=
  guarded false r fun s =>
    accept (.release (releaseReport s))
      { s with free := s.free + s.release.reservations.length + s.release.unlocks.length }

/-- RELEASE_READ (R159). -/
def execReleaseRead (r : Req) (s : State) : Host.Outcome State Fault Refusal :=
  done (arrive r (.releaseRead r) (takeReleaseRead r) s)

end Sys2Proof.Machine
end

