-- ==== Sys2Proof/Machine/LineRequests.lean ====
section
/-! DEFINITION. Machine/LineRequests.lean: the meanings of LINE_STATUS, LINE_ACK, LINE_SET, LINE_REPORT_SET, OUTPUT_SET,
CLOCK_READ, CLOCK_SET, ALARM_ACK and ALARM_SET (R167, R168, R171, R173, R174, R176, R177). -/

namespace Sys2Proof.Machine

/-! ### Lines -/

/-- The 15 readback senses are read as they stand: a free value (R167, R170, R183, notes/assumptions/6). -/
def senseReadbacks (s : State) : State :=
  let levels := Config.readbacks s.free
  let s : State := { s with outputs := s.outputs.mapIdx fun i o => { o with readback := levels.getLsbD i } }
  s.drawn

/-- An output line as LINE_STATUS returns it (R167). -/
def OutputLine.report (o : OutputLine) : OutputReport := ⟨o.driven, o.readback, o.fault⟩

/-- The reply of LINE_STATUS (R167). -/
def lineReport (s : State) : ReplyBody :=
  .lines (s.inputs.map fun l => (l.debounced, l.event)) (s.outputs.map OutputLine.report)

/-- LINE_STATUS is taken (R167). -/
def takeLineStatus (r : Req) : State → State × Reply := guarded false r fun s => report lineReport (senseReadbacks s)

/-- LINE_STATUS (R167). -/
def execLineStatus (r : Req) (s : State) : Host.Outcome State Fault Refusal :=
  done (arrive r (.lineStatus r) (takeLineStatus r) s)

/-- The latched event flag of each listed line is cleared (R167). -/
def acknowledge (lines : List Nat) (s : State) : State :=
  { s with inputs := s.inputs.mapIdx fun i l => if i ∈ lines then { l with event := false } else l }

/-- LINE_ACK is taken (R167). -/
def takeLineAck (r : Req) (lines : List Nat) : State → State × Reply :=
  guarded false r fun s => if lineListOk lines then accept .done (acknowledge lines s) else refuse .badFormat s

/-- LINE_ACK (R167). -/
def execLineAck (r : Req) (lines : List Nat) (s : State) : Host.Outcome State Fault Refusal :=
  done (arrive r (.lineAck r lines) (takeLineAck r lines) s)

/-- Whether a line belongs to a head that is not CLOSED (R168). -/
def State.lineOfOpenHead (s : State) (n : Nat) : Bool :=
  (ownerHead n).any fun h => (s.head h).state != .closed

/-- New settings of a line: a change of polarity inverts its raw level at once (R168). -/
def setLine (n : Nat) (polarity : Polarity) (debounce : Nat) (s : State) : State :=
  let l := s.input n
  let s := s.setInput n { l with polarity := polarity, debounce := debounce }
  if polarity = l.polarity then s else rawChanged n s

/-- LINE_SET is taken (R168). -/
def takeLineSet (r : Req) (line : Nat) (polarity : Polarity) (debounce : Nat) : State → State × Reply :=
  guarded true r (settledReply fun s =>
    if 15 < line ∨ 255 < debounce then refuse .paramRange s
    else if polarity ≠ (s.input line).polarity ∧ s.lineOfOpenHead line = true then refuse .headNotClosed s
    else accept .done (setLine line polarity debounce s))

/-- LINE_SET (R168). -/
def execLineSet (r : Req) (line : Nat) (polarity : Polarity) (debounce : Nat) (s : State) :
    Host.Outcome State Fault Refusal :=
  done (arrive r (.lineSet r line polarity debounce) (takeLineSet r line polarity debounce) s)

/-- LINE_REPORT_SET is taken: the latched event flag is not changed (R168). -/
def takeLineReportSet (r : Req) (line : Nat) (edges : Option ReportEdges) (notify : Bool) : State → State × Reply :=
  guarded false r fun s =>
    if 15 < line then refuse .paramRange s
    else
      match edges with
      | none => refuse .badFormat s
      | some e => accept .done (s.setInput line { s.input line with report := e, notify := notify })

/-- LINE_REPORT_SET (R168). -/
def execLineReportSet (r : Req) (line : Nat) (edges : Option ReportEdges) (notify : Bool) (s : State) :
    Host.Outcome State Fault Refusal :=
  done (arrive r (.lineReportSet r line edges notify) (takeLineReportSet r line edges notify) s)

/-- OUTPUT_SET is taken, for the two GP outputs alone (R171). -/
def takeOutputSet (r : Req) (output : Nat) (level : Bool) : State → State × Reply :=
  guarded false r fun s =>
    if output = gpOut1 ∨ output = gpOut2 then accept .done (handOutput output level s) else refuse .paramRange s

/-- OUTPUT_SET (R171). -/
def execOutputSet (r : Req) (output : Nat) (level : Bool) (s : State) : Host.Outcome State Fault Refusal :=
  done (arrive r (.outputSet r output level) (takeOutputSet r output level) s)

/-! ### Clock -/

/-- CLOCK_READ is taken (R173). DESIGN CHOICE (notes/assumptions/45): while the clock is UNSET the minute of day is absent. -/
def takeClockRead (r : Req) : State → State × Reply :=
  guarded false r (report fun s => .clock s.clock (s.clock.map minuteOfDay))

/-- CLOCK_READ (R173). -/
def execClockRead (r : Req) (s : State) : Host.Outcome State Fault Refusal :=
  done (arrive r (.clockRead r) (takeClockRead r) s)

/-- CLOCK_SET is taken: on the branch link only while the clock is UNSET; one evaluation is signalled at the new value
(R174). -/
def takeClockSet (r : Req) (value : BitVec 32) (s : State) : State × Reply :=
  guarded s.clock.isSome r (settledReply fun s =>
    accept .done (minuteBoundary value.toNat { s with clock := some value.toNat })) s

/-- CLOCK_SET (R174). -/
def execClockSet (r : Req) (value : BitVec 32) (s : State) : Host.Outcome State Fault Refusal :=
  done (arrive r (.clockSet r value) (takeClockSet r value) s)

/-! ### Alarm -/

/-- Whether the condition of the cause BIN_OPEN_LONG holds: an UNLOCKED bin has its open-long mark set (R175). -/
def State.someOpenLong (s : State) : Bool := s.release.unlocks.any fun u => u.openLong && (s.openSince u.bin).isSome

/-- The conditions of the seven causes as they stand (R175). -/
def conditions (s : State) : AlarmFlags where
  linkLost := s.link.lost
  tamper := s.active tamperLine
  headFault := HeadId.all.any fun h => (s.head h).state.isFault
  liftFault := match s.lift.state with
    | .fault _ _ => true
    | .idle | .moving _ _ => false
  binOpenLong := s.someOpenLong
  tempHigh := s.scanner.tempHigh
  refFault := HeadId.all.any fun h => (s.channel h).refFault

/-- The latched causes whose condition no longer holds are cleared, and a LEVEL line follows (R176, R177). -/
def acknowledgeAlarm (s : State) : State :=
  alarmLevel { s with alarm := { s.alarm with latched := bothCauses s.alarm.latched (conditions s) } }

/-- ALARM_ACK is taken (R176). -/
def takeAlarmAck (r : Req) : State → State × Reply :=
  guarded false r fun s =>
    let t := acknowledgeAlarm s
    accept (.latched t.alarm.latched) t

/-- ALARM_ACK (R176). -/
def execAlarmAck (r : Req) (s : State) : Host.Outcome State Fault Refusal :=
  done (arrive r (.alarmAck r) (takeAlarmAck r) s)

/-- The four pulse widths, in ms (R177). -/
def pulseWidths : List Nat := [100, 500, 2000, 10000]

/-- New alarm settings: a change of mode stops the pulse timer; entering PULSE de-energises the line, LEVEL follows its
rule at once (R177). The electrical level follows a new polarity at once, with no change of the driven level
(`State.outputHigh`). -/
def setAlarm (mode : AlarmMode) (width : Nat) (polarity : Polarity) (enables : AlarmFlags) (s : State) : State :=
  let pulse := if mode = s.alarm.mode then s.alarm.pulseTimer else none
  let entersPulse := s.alarm.mode = .level ∧ mode = .pulse
  let s := { s with alarm := { s.alarm with
    mode := mode, width := width, polarity := polarity, enables := enables, pulseTimer := pulse } }
  if entersPulse then handOutput alarmOutput false s else alarmLevel s

/-- ALARM_SET is taken (R177). -/
def takeAlarmSet (r : Req) (v : AlarmRequest) : State → State × Reply :=
  guarded false r fun s =>
    if v.width ∉ pulseWidths then refuse .paramRange s
    else
      match v.mode, v.polarity with
      | some m, some p => accept .done (setAlarm m v.width p v.enables s)
      | _, _ => refuse .badFormat s

/-- ALARM_SET (R177). -/
def execAlarmSet (r : Req) (v : AlarmRequest) (s : State) : Host.Outcome State Fault Refusal :=
  done (arrive r (.alarmSet r v) (takeAlarmSet r v) s)

end Sys2Proof.Machine
end

