-- ==== Sys2Proof/Machine/LogRequests.lean ====
section
/-! DEFINITION. Machine/LogRequests.lean: the meanings of LOG_READ, LOG_INFO, LOG_PURGE and LOG_SET (R96 to R99). -/

namespace Sys2Proof.Machine

/-- The records from the one of a sequence number on, in log order; all of them where the log does not hold that number
(R97). -/
def CustodyLog.since (l : CustodyLog) (fromSeq : Nat) : List Record :=
  if l.records.any fun r => r.seq == fromSeq then l.records.dropWhile fun r => r.seq != fromSeq else l.records

/-- The sequence of the record that follows the ones returned, or 0 (R97). -/
def continuationOf : List Record → Nat
  | [] => 0
  | r :: _ => r.seq

/-- LOG_READ is taken (R97, R206). -/
def takeLogRead (r : Req) (fromSeq count : Nat) : State → State × Reply :=
  guarded false r fun s =>
    if 16777215 < fromSeq ∨ inRange 1 5 count = false then refuse .paramRange s
    else
      let l := s.log.since fromSeq
      accept (.records ((l.take count).map recordImage) (continuationOf (l.drop count))) s

/-- LOG_READ (R97). -/
def execLogRead (r : Req) (fromSeq count : Nat) (s : State) : Host.Outcome State Fault Refusal :=
  done (arrive r (.logRead r fromSeq count) (takeLogRead r fromSeq count) s)

/-- The number of records in a state (R98). -/
def CustodyLog.inState (l : CustodyLog) (st : RecordState) : Nat := l.records.countP fun r => r.state == st

/-- The reply of LOG_INFO (R98). -/
def CustodyLog.report (l : CustodyLog) : LogReport where
  count := l.records.length
  oldest := (l.records.head?.map (·.seq)).getD 0
  newest := (l.records.getLast?.map (·.seq)).getD 0
  free := l.free
  reservations := l.reservations
  nextSeq := l.nextSeq
  lowWater := l.lowWater
  lowFlag := l.lowFlag
  judged := l.inState .judged
  inTransfer := l.inState .inTransfer
  stored := l.inState .stored
  transferFault := l.inState .transferFault
  withdrawn := l.inState .withdrawn
  released := l.inState .released

/-- LOG_INFO is taken (R98). -/
def takeLogInfo (r : Req) : State → State × Reply := guarded false r (report fun s => .logInfo s.log.report)

/-- LOG_INFO (R98). -/
def execLogInfo (r : Req) (s : State) : Host.Outcome State Fault Refusal :=
  done (arrive r (.logInfo r) (takeLogInfo r) s)

/-- Whether LOG_PURGE removes a record (R99). -/
def Record.final (r : Record) : Bool := r.state == .released || r.state == .withdrawn

/-- How many occupied entries a list of indices names. -/
def AdviceTable.namedBy (t : AdviceTable) (indices : List Nat) : Nat := t.entries.countP fun e => e.index ∈ indices

/-- The entries that removed records named are freed and leave the lodging order (R62). -/
def AdviceTable.freeAll (t : AdviceTable) (indices : List Nat) : AdviceTable :=
  ⟨t.entries.filter fun e => e.index ∉ indices, t.order.filter fun i => i ∉ indices⟩

/-- The purge (R99). -/
def purge (s : State) : State × Reply :=
  let gone := s.log.records.filter Record.final
  let indices := gone.filterMap (·.advice)
  let freed := s.advices.namedBy indices
  let s := { s with
    log := { s.log with records := s.log.records.filter fun r => !r.final }
    advices := s.advices.freeAll indices }
  accept (.purged gone.length freed) (if gone.isEmpty then s else lowWaterRise s)

/-- LOG_PURGE is taken, in DAY alone (R99). -/
def takeLogPurge (r : Req) : State → State × Reply :=
  guarded false r fun s => if s.mode = .day then purge s else refuse .wrongMode s

/-- LOG_PURGE (R99). -/
def execLogPurge (r : Req) (s : State) : Host.Outcome State Fault Refusal :=
  done (arrive r (.logPurge r) (takeLogPurge r) s)

/-- LOG_SET is taken: the threshold, and the flag judged against it (R96). -/
def takeLogSet (r : Req) (threshold : Nat) : State → State × Reply :=
  guarded false r fun s =>
    if inRange 8 256 threshold then
      accept .done (judgeLowWater { s with log := { s.log with lowWater := threshold } })
    else refuse .paramRange s

/-- LOG_SET (R96). -/
def execLogSet (r : Req) (threshold : Nat) (s : State) : Host.Outcome State Fault Refusal :=
  done (arrive r (.logSet r threshold) (takeLogSet r threshold) s)

end Sys2Proof.Machine
end

