-- ==== Sys2Proof/Machine/ServiceRequests.lean ====
section
/-! DEFINITION. Machine/ServiceRequests.lean: the meanings of SERVICE_ENTER, SERVICE_EXIT, PATTERN_SET, SNAPSHOT, the three
calibration steps, STATS_READ, STATS_CLEAR, RESTART and COLD_INITIALISE (chapter 10). -/

namespace Sys2Proof.Machine

/-! ### Service states -/

/-- The service state of the name SERVICE_ENTER gives (R180). -/
def serviceStateOf : ServiceKind → ServiceState
  | .hold => .hold
  | .pattern => .pattern
  | .limp => .limp

/-- Every output driven at its level in a pattern; no check timer starts (R181). -/
def drivePattern (pattern : List Bool) (outputs : List OutputLine) : List OutputLine :=
  outputs.mapIdx fun i o => { o with driven := (pattern[i]?).getD false }

/-- The outputs on entry to a service state (R181). -/
def serviceOutputs (k : ServiceKind) (pattern : List Bool) (outputs : List OutputLine) : List OutputLine :=
  match k with
  | .hold => outputs
  | .pattern => drivePattern pattern outputs
  | .limp => outputs.map fun o => { o with driven := false }

/-- A service state is entered: a calibration step is stopped, check timers are stopped without a check, and the outputs
are driven by R181 (R180). -/
def enterService (k : ServiceKind) (s : State) : State :=
  let s := stopStep s
  { s with
    service := { s.service with state := serviceStateOf k }
    outputs := serviceOutputs k s.service.pattern (s.outputs.map fun o => { o with check := none }) }

/-- SERVICE_ENTER is taken (R180). -/
def takeServiceEnter (r : Req) (kind : Option ServiceKind) : State → State × Reply :=
  guarded true r fun s =>
    match kind with
    | none => refuse .badFormat s
    | some k =>
      if s.mode ≠ .day then refuse .wrongMode s
      else if s.active doorShutLine then refuse .doorShut s
      else accept (.service (serviceStateOf k)) (enterService k s)

/-- SERVICE_ENTER (R180). -/
def execServiceEnter (r : Req) (kind : Option ServiceKind) (s : State) : Host.Outcome State Fault Refusal :=
  done (arrive r (.serviceEnter r kind) (takeServiceEnter r kind) s)

/-- SERVICE_EXIT is taken (R182). -/
def takeServiceExit (r : Req) : State → State × Reply :=
  guarded true r fun s => accept (.service .none) (endServiceState s)

/-- SERVICE_EXIT (R182). -/
def execServiceExit (r : Req) (s : State) : Host.Outcome State Fault Refusal :=
  done (arrive r (.serviceExit r) (takeServiceExit r) s)

/-- The 15 levels of a PATTERN_SET, each energised or de-energised; otherwise `none` (R181). -/
def patternOf (levels : List (Option Bool)) : Option (List Bool) :=
  if levels.length = 15 then levels.mapM id else none

/-- A pattern is stored; while PATTERN is held the outputs take it at once (R181). -/
def storePattern (pattern : List Bool) (s : State) : State :=
  let s := { s with service := { s.service with pattern := pattern } }
  if s.service.state = .pattern then { s with outputs := drivePattern pattern s.outputs } else s

/-- PATTERN_SET is taken (R181). -/
def takePatternSet (r : Req) (levels : List (Option Bool)) : State → State × Reply :=
  guarded true r fun s =>
    match patternOf levels with
    | none => refuse .badFormat s
    | some p => accept .done (storePattern p s)

/-- PATTERN_SET (R181). -/
def execPatternSet (r : Req) (levels : List (Option Bool)) (s : State) : Host.Outcome State Fault Refusal :=
  done (arrive r (.patternSet r levels) (takePatternSet r levels) s)

/-- The reply of SNAPSHOT (R183). -/
def snapshotOf (s : State) : SnapshotReport where
  inputs := s.inputs.map fun l => (l.raw, l.debounced, l.event)
  outputs := s.outputs.map fun o => (o.owner, o.driven, o.readback, o.fault)
  service := s.service.state
  pattern := s.service.pattern
  step := s.service.step.map fun st => (st.head, st.kind.name, st.phase)

/-- SNAPSHOT is taken (R183). -/
def takeSnapshot (r : Req) : State → State × Reply :=
  guarded false r fun s => report (fun s => .snapshot (snapshotOf s)) (senseReadbacks s)

/-- SNAPSHOT (R183). -/
def execSnapshot (r : Req) (s : State) : Host.Outcome State Fault Refusal :=
  done (arrive r (.snapshot r) (takeSnapshot r) s)

/-! ### Calibration steps -/

/-- Whether a head may be calibrated: CLOSED, or in FAULT(UNEXPECTED_CRADLE) with no cradle record (R184). -/
def Head.calibratable (hd : Head) : Bool :=
  hd.state == .closed || (hd.state == .fault .unexpectedCradle && hd.cradleRecord.isNone)

/-- The first of the checks of R184 that fails; `empty` is whether the cradle must be empty, for CAL_ZERO alone. -/
def calRefusal (s : State) (h : HeadId) (empty : Bool) : Option Refuse :=
  if s.mode ≠ .day then some .wrongMode
  else if s.service.state ≠ .none then some .inService
  else if (s.head h).calibratable = false then some .headNotClosed
  else if empty && s.cradle h then some .cradleOccupied
  else none

/-- A step starts on its head's channel: an IDLE one weighs, an OFF or WARMING one warms up (R185). -/
def startStep (h : HeadId) (kind : CalKind) (s : State) : State :=
  if (s.channel h).state = .idle then
    startWeighing h .service { s with service := { s.service with step := some ⟨h, kind, .weighing⟩ } }
  else refreshIdle h (askWarm h { s with service := { s.service with step := some ⟨h, kind, .warming⟩ } })

/-- A calibration request with its operands checked: a step in progress is first stopped (R184). -/
def takeStep (head : Nat) (rangeOk : Bool) (kind : CalKind) (empty : Bool) (s : State) : State × Reply :=
  match headOfCode head with
  | none => refuse .badFormat s
  | some h =>
    if rangeOk = false then refuse .paramRange s
    else checked (calRefusal s h empty) (fun s => accept (.calStarted h kind.name) (startStep h kind (stopStep s))) s

/-- CAL_ZERO is taken (R184). -/
def takeCalZero (r : Req) (head : Nat) : State → State × Reply := guarded true r (takeStep head true .zero true)

/-- CAL_ZERO (R184, R187). -/
def execCalZero (r : Req) (head : Nat) (s : State) : Host.Outcome State Fault Refusal :=
  done (arrive r (.calZero r head) (takeCalZero r head) s)

/-- CAL_SPAN is taken (R184). -/
def takeCalSpan (r : Req) (head reference : Nat) : State → State × Reply :=
  guarded true r (takeStep head (referenceMassOk reference) (.span reference) false)

/-- CAL_SPAN (R184, R188). -/
def execCalSpan (r : Req) (head reference : Nat) (s : State) : Host.Outcome State Fault Refusal :=
  done (arrive r (.calSpan r head reference) (takeCalSpan r head reference) s)

/-- CAL_VERIFY is taken (R184). -/
def takeCalVerify (r : Req) (head reference tolerance : Nat) : State → State × Reply :=
  guarded true r
    (takeStep head (referenceMassOk reference && tolerance ≤ 1000000) (.verify reference tolerance) false)

/-- CAL_VERIFY (R184, R189). -/
def execCalVerify (r : Req) (head reference tolerance : Nat) (s : State) : Host.Outcome State Fault Refusal :=
  done (arrive r (.calVerify r head reference tolerance) (takeCalVerify r head reference tolerance) s)

/-! ### Statistics and the two requested resets -/

/-- STATS_READ is taken (R191). -/
def takeStatsRead (r : Req) : State → State × Reply := guarded false r (report fun s => .stats s.service.stats)

/-- STATS_READ (R191). -/
def execStatsRead (r : Req) (s : State) : Host.Outcome State Fault Refusal :=
  done (arrive r (.statsRead r) (takeStatsRead r) s)

/-- STATS_CLEAR is taken (R191). -/
def takeStatsClear (r : Req) : State → State × Reply :=
  guarded true r fun s => accept .done (updateStats (fun _ => .zero) s)

/-- STATS_CLEAR (R191). -/
def execStatsClear (r : Req) (s : State) : Host.Outcome State Fault Refusal :=
  done (arrive r (.statsClear r) (takeStatsClear r) s)

/-- RESTART is taken; its effects begin once its reply has been sent whole (R192). -/
def takeRestart (r : Req) : State → State × Reply := guarded true r (accept .done)

/-- RESTART (R192). -/
def execRestart (r : Req) (s : State) : Host.Outcome State Fault Refusal :=
  done (arrive r (.restart r) (takeRestart r) s)

/-- The two checks of COLD_INITIALISE (R193). -/
def initialiseRefusal (s : State) : Option Refuse :=
  if s.mode ≠ .day then some .wrongMode
  else if s.log.records.all Record.final = false then some .custodyOpen
  else none

/-- COLD_INITIALISE is taken; its effects begin once its reply has been sent whole (R193). -/
def takeColdInitialise (r : Req) : State → State × Reply :=
  guarded true r fun s => checked (initialiseRefusal s) (accept .done) s

/-- COLD_INITIALISE (R193). -/
def execColdInitialise (r : Req) (s : State) : Host.Outcome State Fault Refusal :=
  done (arrive r (.coldInitialise r) (takeColdInitialise r) s)

end Sys2Proof.Machine
end

