-- ==== Sys2Proof/Machine/WeighRequests.lean ====
section
/-! DEFINITION. Machine/WeighRequests.lean: the meanings of WEIGH_SET, WEIGHT_READ, SCAN_SET and AUX_READ (R28, R44, R46,
R50). -/

namespace Sys2Proof.Machine

/-- New settings of a channel: a change of the oversampling exponent outside WEIGHING empties the partial reading (R28,
R34). -/
def Channel.withSettings (c : Channel) (v : WeighSettings) : Channel :=
  match c.state with
  | .weighing _ => { c with settings := v }
  | .off | .warming _ | .idle =>
    { c with settings := v, gathered := if v.exponent = c.settings.exponent then c.gathered else .empty }

/-- WEIGH_SET is taken (R28; a head that is not listed: notes/assumptions/20). -/
def takeWeighSet (r : Req) (head : Nat) (v : WeighSettings) : State → State × Reply :=
  guarded true r fun s =>
    match headOfCode head with
    | none => refuse Config.unknownHead s
    | some h =>
      if weighSettingsOk v then accept .done (updateChannel h (·.withSettings v) s) else refuse .paramRange s

/-- WEIGH_SET (R28). -/
def execWeighSet (r : Req) (head : Nat) (v : WeighSettings) (s : State) : Host.Outcome State Fault Refusal :=
  done (arrive r (.weighSet r head v) (takeWeighSet r head v) s)

/-- The name of a channel state. -/
def ChannelState.name : ChannelState → ChannelName
  | .off => .off
  | .warming _ => .warming
  | .idle => .idle
  | .weighing _ => .weighing

/-- What WEIGHT_READ returns of a reading (R44). -/
def Reading.report (r : Reading) : ReadingReport := ⟨r.average, r.mass, r.saturated, r.flag, r.clear, r.warmUp⟩

/-- The reply of WEIGHT_READ (R44). -/
def Channel.report (c : Channel) : WeightReport :=
  ⟨c.state.name, c.zero, c.span, c.refFault, c.zeroDrift, c.latest.map Reading.report⟩

/-- WEIGHT_READ is taken: refused CHANNEL_OFF in OFF, and in WARMING with no latest reading yet (R44). -/
def takeWeightRead (r : Req) (head : Nat) : State → State × Reply :=
  guarded false r fun s =>
    match headOfCode head with
    | none => refuse .badFormat s
    | some h =>
      let c := s.channel h
      if c.state = .off ∨ (c.isWarming = true ∧ c.latest = none) then refuse .channelOff s
      else accept (.weight c.report) s

/-- WEIGHT_READ (R44). -/
def execWeightRead (r : Req) (head : Nat) (s : State) : Host.Outcome State Fault Refusal :=
  done (arrive r (.weightRead r head) (takeWeightRead r head) s)

/-- SCAN_SET is taken (R46). -/
def takeScanSet (r : Req) (v : ScanSettings) : State → State × Reply :=
  guarded true r fun s =>
    if scanSettingsOk v then accept .done { s with scanner := { s.scanner with settings := v } }
    else refuse .paramRange s

/-- SCAN_SET (R46). -/
def execScanSet (r : Req) (v : ScanSettings) (s : State) : Host.Outcome State Fault Refusal :=
  done (arrive r (.scanSet r v) (takeScanSet r v) s)

/-- Whether the scanner is SCANNING (R45). -/
def ScanState.isScanning : ScanState → Bool
  | .idle => false
  | .scanning _ _ _ => true

/-- The reply of AUX_READ (R50). -/
def auxReport (s : State) : ReplyBody :=
  .aux s.scanner.state.isScanning s.scanner.readings (s.channels.map (·.refFault)) s.scanner.tempHigh

/-- AUX_READ is taken (R50). -/
def takeAuxRead (r : Req) : State → State × Reply := guarded false r (report auxReport)

/-- AUX_READ (R50). -/
def execAuxRead (r : Req) (s : State) : Host.Outcome State Fault Refusal :=
  done (arrive r (.auxRead r) (takeAuxRead r) s)

end Sys2Proof.Machine
end

