-- ==== Sys2Proof/Machine/PortEvents.lean ====
section
/-! DEFINITION. Machine/PortEvents.lean: the meanings of the events of the serial ports: a received byte and the gap
(R195, R196), the watch timer's expiry (R201), and the last byte of a sent frame (R199, R192, R193). -/

namespace Sys2Proof.Machine

/-- What taking a queued request does and replies; only requests are ever queued. -/
def takeRequest : Instr → State → State × Reply
  | .unlistedRequestKind _ _ => takeUnlistedRequestKind
  | .status r => takeStatus r
  | .identify r => takeIdentify r
  | .settingsRead r g h => takeSettingsRead r g h
  | .linkSet r c u p => takeLinkSet r c u p
  | .headOpen r l => takeHeadOpen r l
  | .headClose r l => takeHeadClose r l
  | .headSet r h v => takeHeadSet r h v
  | .headClearFault r h => takeHeadClearFault r h
  | .weighSet r h v => takeWeighSet r h v
  | .weightRead r h => takeWeightRead r h
  | .scanSet r v => takeScanSet r v
  | .auxRead r => takeAuxRead r
  | .advise r a => takeAdvise r a
  | .withdraw r t => takeWithdraw r t
  | .adviceQuery r q => takeAdviceQuery r q
  | .denomSet r c k m e => takeDenomSet r c k m e
  | .bagTypeSet r b t => takeBagTypeSet r b t
  | .toleranceSet r c f p => takeToleranceSet r c f p
  | .logRead r f c => takeLogRead r f c
  | .logInfo r => takeLogInfo r
  | .logPurge r => takeLogPurge r
  | .logSet r t => takeLogSet r t
  | .binSet r b c z l => takeBinSet r b c z l
  | .binRead r f c => takeBinRead r f c
  | .zoneMapSet r z => takeZoneMapSet r z
  | .liftSet r m l t => takeLiftSet r m l t
  | .liftRead r => takeLiftRead r
  | .liftResolve r o => takeLiftResolve r o
  | .modeSetNight r => takeModeSetNight r
  | .modeSetDay r => takeModeSetDay r
  | .scheduleSet r n d e => takeScheduleSet r n d e
  | .setReleaseWindow r o c => takeSetReleaseWindow r o c
  | .officerSet r s n p e => takeOfficerSet r s n p e
  | .releaseSet r c u o => takeReleaseSet r c u o
  | .releaseRequest r b o => takeReleaseRequest r b o
  | .releaseConfirm r b o => takeReleaseConfirm r b o
  | .releaseCancel r b o => takeReleaseCancel r b o
  | .releaseRead r => takeReleaseRead r
  | .lineStatus r => takeLineStatus r
  | .lineAck r l => takeLineAck r l
  | .lineSet r l p d => takeLineSet r l p d
  | .lineReportSet r l e n => takeLineReportSet r l e n
  | .outputSet r o l => takeOutputSet r o l
  | .clockRead r => takeClockRead r
  | .clockSet r v => takeClockSet r v
  | .alarmAck r => takeAlarmAck r
  | .alarmSet r v => takeAlarmSet r v
  | .serviceEnter r k => takeServiceEnter r k
  | .serviceExit r => takeServiceExit r
  | .patternSet r l => takePatternSet r l
  | .snapshot r => takeSnapshot r
  | .calZero r h => takeCalZero r h
  | .calSpan r h m => takeCalSpan r h m
  | .calVerify r h m t => takeCalVerify r h m t
  | .statsRead r => takeStatsRead r
  | .statsClear r => takeStatsClear r
  | .restart r => takeRestart r
  | .coldInitialise r => takeColdInitialise r
  | .coldStart _ | .supplyRestart _ _ | .rawLevelChange _ _ | .debounceTimerExpiry _ | .tagReport _ _
  | .readFailureReport _ | .intakeTimerExpiry _ | .descentTimerExpiry _ | .windowTimerExpiry _ | .gateTimerExpiry _
  | .warmUpTimerExpiry _ | .paceTimerExpiry _ | .acquisitionTimeElapsed _ | .conversionComplete _ _
  | .settleDelayExpiry _ | .settleTimerExpiry _ | .idleTimerExpiry _ | .zeroIntervalExpiry _ | .scanPeriodExpiry
  | .auxSettleElapsed | .auxConversionComplete _ | .delivered _ | .moveFault _ | .binOpened _ | .unlockFault _
  | .binShut _ _ | .unknownDriveReport | .transferTimerExpiry | .confirmTimerExpiry _ | .unlockTimerExpiry _
  | .openLongTimerExpiry _ | .checkTimerExpiry _ _ | .pulseTimerExpiry | .clockSecond | .byteReceived _ _
  | .interByteGap _ | .watchTimerExpiry | .frameSent _ | .rackDriveOrderSent => refuse .badFormat

/-! ### Receiving -/

/-- A port whose receiver takes a state (R195). -/
def withReceiver (p : PortId) (v : Receiver) (s : State) : State := s.setPort p { s.port p with receiver := v }

/-- A frame is discarded or abandoned: one frame error, and the receiver HUNTING (R195). -/
def discardFrame (p : PortId) (s : State) : State := frameError p (withReceiver p .hunting s)

/-- A valid frame is handed on by its kind (R196). -/
def handOn (p : PortId) (kind number : Byte) (payload : List Byte) (s : State) : State :=
  if isRequestKind kind then
    let c := requestOfFrame p kind number payload
    arrive ⟨p, number, true⟩ c (takeRequest c) s
  else frameSeen p s

/-- The bytes after a start byte are complete: with a check that agrees the frame is valid (R195). -/
def closeFrame (p : PortId) (bytes : List Byte) (s : State) : State :=
  let n := bytes.length - 2
  match bytes.take n with
  | _ :: kind :: number :: payload =>
    if checkBytes (crc16 (bytes.take n)) = bytes.drop n then handOn p kind number payload (withReceiver p .hunting s)
    else discardFrame p s
  | _ => discardFrame p s

/-- How many bytes follow a start byte, by the length byte: length, kind, number, payload and check (R194). -/
def tailLength (length : Byte) : Nat := length.toNat + 5

/-- A byte is received (R195). -/
def receiveByte (p : PortId) (byte : Byte) (s : State) : State :=
  match (s.port p).receiver with
  | .hunting => if byte = startByte then withReceiver p (.inFrame []) s else s
  | .inFrame bytes =>
    match bytes ++ [byte] with
    | [] => s
    | length :: rest =>
      if payloadMax < length.toNat then discardFrame p s
      else if tailLength length ≤ rest.length + 1 then closeFrame p (length :: rest) s
      else withReceiver p (.inFrame (length :: rest)) s

/-- BYTE_RECEIVED (R195, R196). -/
def execByteReceived (p : PortId) (byte : Byte) (s : State) : Host.Outcome State Fault Refusal :=
  done (receiveByte p byte s)

/-- More than 20 ms without a byte: a frame in hand is abandoned (R195). -/
def gap (p : PortId) (s : State) : State :=
  match (s.port p).receiver with
  | .hunting => s
  | .inFrame _ => discardFrame p s

/-- INTER_BYTE_GAP (R195). -/
def execInterByteGap (p : PortId) (s : State) : Host.Outcome State Fault Refusal := done (gap p s)

/-! ### The watch -/

/-- The watch timer expires with the link UP: the link is LOST, its alarm cause reported, and with policy CLOSE every head
receives close pending (R201). DESIGN CHOICE (notes/assumptions/40): with the link already LOST, the timer having been
restarted by a LINK_SET, the expiry has no effect, and the timer's field is left as it is. -/
def watchExpired (s : State) : State :=
  if s.link.lost = false ∧ s.link.timer.isSome = true then
    let s := reportAlarm .linkLost { s with link := { s.link with lost := true, timer := none } }
    match s.link.policy with
    | .close => closeAll .linkLost s
    | .keepOpen => s
  else s

/-- WATCH_TIMER_EXPIRY (R201). -/
def execWatchTimerExpiry (s : State) : Host.Outcome State Fault Refusal := done (settled watchExpired s)

/-! ### Sending -/

/-- The next request of a port, if any, is taken (R199). -/
def takeNext (p : PortId) (s : State) : State :=
  match (s.port p).requests with
  | c :: _ => answer p (takeRequest c s)
  | [] => s

/-- What a request that has just been answered OK brings about once its reply is gone: RESTART and COLD_INITIALISE take
effect (R192, R193); after any other the port's next request is taken (R199). -/
def afterReply (p : PortId) (c : Option Instr) (rep : Option Reply) (s : State) : State :=
  match c, rep with
  | some (.restart _), some (.ok _) => supplyRestart .request s
  | some (.coldInitialise _), some (.ok _) => .cold s.levels s.free s.pending
  | _, _ => takeNext p s

/-- The last byte of the frame in hand has been sent (R199). -/
def frameGone (p : PortId) (s : State) : State :=
  let v := s.port p
  match v.transmitter with
  | .free => s
  | .sendingNotice => s.setPort p { v with transmitter := .free, notices := v.notices.tail }
  | .sendingReply =>
    afterReply p v.requests.head? v.reply
      (s.setPort p { v with transmitter := .free, reply := none, requests := v.requests.tail })

/-- FRAME_SENT (R199, R192, R193). -/
def execFrameSent (p : PortId) (s : State) : Host.Outcome State Fault Refusal := done (frameGone p s)

end Sys2Proof.Machine
end

