-- ==== Sys2Proof/Machine/ReleaseTimers.lean ====
section
/-! DEFINITION. Machine/ReleaseTimers.lean: the meanings of the expiries of release control's timers, each of one bin
(R151, R155, R156). -/

namespace Sys2Proof.Machine

/-- The confirm timer of a bin's reservation expires; the room made is signalled (R151, R119). -/
def confirmExpired (bin : Nat) (s : State) : State :=
  match s.release.reservationOf bin with
  | some v => arbitrate (endReservation v .expired s)
  | none => s

/-- CONFIRM_TIMER_EXPIRY (R151). -/
def execConfirmTimerExpiry (bin : Nat) (s : State) : Host.Outcome State Fault Refusal :=
  done (settled (confirmExpired bin) s)

/-- The unlock timer of an UNLOCKING bin expires (R155). -/
def unlockExpired (bin : Nat) (s : State) : State :=
  if (s.bin bin).map (·.lock) = some .unlocking ∧ (s.release.unlockOf bin).any (·.timer.isSome) = true then
    unlockFails bin .timeout s
  else s

/-- UNLOCK_TIMER_EXPIRY (R155). -/
def execUnlockTimerExpiry (bin : Nat) (s : State) : Host.Outcome State Fault Refusal :=
  done (settled (unlockExpired bin) s)

/-- The open-long timer of an UNLOCKED bin expires (R156). -/
def openLongExpired (bin : Nat) (s : State) : State :=
  match s.openSince bin, s.release.unlockOf bin with
  | some since, some u => if u.timer.isSome then openLong u since s else s
  | some _, none | none, _ => s

/-- OPEN_LONG_TIMER_EXPIRY (R156). -/
def execOpenLongTimerExpiry (bin : Nat) (s : State) : Host.Outcome State Fault Refusal :=
  done (openLongExpired bin s)

end Sys2Proof.Machine
end

