-- ==== Sys2Proof/Machine/ResetEvents.lean ====
section
/-! DEFINITION. Machine/ResetEvents.lean: the meanings of COLD_START and SUPPLY_RESTART (R204; their operands:
notes/assumptions/25). -/

namespace Sys2Proof.Machine

/-- COLD_START: every block takes its cold-start values; RESTARTED(COLD) is queued (R204). -/
def execColdStart (levels : BitVec 16) (s : State) : Host.Outcome State Fault Refusal :=
  done (.cold levels s.free s.pending)

/-- SUPPLY_RESTART: supply returns after an outage; the battery well has kept its content and the clock has gone on
counting (R25, R173, R204). -/
def execSupplyRestart (levels : BitVec 16) (outage : Nat) (s : State) : Host.Outcome State Fault Refusal :=
  done (supplyRestart .supply ({ s with clock := clockAfter outage s.clock }.withLevels levels))

end Sys2Proof.Machine
end

