-- ==== Sys2Proof/Machine/ScannerEvents.lean ====
section
/-! DEFINITION. Machine/ScannerEvents.lean: the meanings of the auxiliary scanner's events, and the judgements made at the
end of a scan (R45, R47, R48, R49). -/

namespace Sys2Proof.Machine

/-- The scan-period timer expires: it is restarted, and an IDLE scanner starts a scan (R45, R46). -/
def Scanner.periodExpired (c : Scanner) : Scanner :=
  let c := { c with periodTimer := some c.settings.scanPeriod }
  match c.state with
  | .idle => { c with state := .scanning [] c.settings.auxSettle false }
  | .scanning _ _ _ => c

/-- SCAN_PERIOD_EXPIRY (R45). -/
def execScanPeriodExpiry (s : State) : Host.Outcome State Fault Refusal :=
  done { s with scanner := s.scanner.periodExpired }

/-- The aux settle time of the input in hand has run: its conversion begins (R45). -/
def Scanner.settleElapsed (c : Scanner) : Scanner :=
  match c.state with
  | .scanning values settle false => { c with state := .scanning values settle true }
  | .scanning _ _ true | .idle => c

/-- AUX_SETTLE_ELAPSED (R45). -/
def execAuxSettleElapsed (s : State) : Host.Outcome State Fault Refusal :=
  done { s with scanner := s.scanner.settleElapsed }

/-- A value brought to the nearer end of a span. -/
def clampInt (lo hi v : Int) : Int := max lo (min hi v)

/-- The value of the scan's `n`th input: a reference in 0 to 6,000 mV, or the temperature in −40.0 to +125.0 °C, in tenths
(R45, notes/assumptions/24). -/
def auxValue (n : Nat) (v : Int) : Int := if n < 3 then clampInt 0 6000 v else clampInt (-400) 1250 v

/-- Whether a reference is outside the limits (R47). -/
def ScanSettings.outside (v : ScanSettings) (reference : Int) : Bool := reference < v.refLow || v.refHigh < reference

/-- A channel's reference fault takes a value. -/
def setRefFault (h : HeadId) (v : Bool) (s : State) : State := updateChannel h (fun c => { c with refFault := v }) s

/-- The reference of a channel is judged at an end of scan (R47, R48). -/
def judgeReference (h : HeadId) (millivolts : Int) (s : State) : State :=
  if ScanSettings.outside s.scanner.settings millivolts then
    if (s.channel h).refFault then s
    else
      setRefFault h true s
        |> finishWeighing h (.unsettled .refFault) 0
        |> receiveClose h .refFault
        |> notify (.refFault h millivolts)
        |> reportAlarm .refFault
  else setRefFault h false s

/-- The temperature is judged at an end of scan, with 2.0 °C of hysteresis (R49). -/
def judgeTemperature (temp : Int) (s : State) : State :=
  let limit := s.scanner.settings.tempLimit
  if s.scanner.tempHigh then
    if temp < limit - 20 then { s with scanner := { s.scanner with tempHigh := false } } else s
  else if limit < temp then
    { s with scanner := { s.scanner with tempHigh := true } }
      |> closeAll .tempHigh
      |> notify (.tempHigh temp)
      |> reportAlarm .tempHigh
  else s

/-- A scan ends: the four new values replace the readings, and are judged (R45), each followed by the arbitration that a
judgement it brings about calls for (R137). DESIGN CHOICE (notes/assumptions/12): the references are judged in the order A,
B, C and the temperature after them, which decides the close cause a head records and the order of the notices. -/
def endScan (r : AuxReadings) (s : State) : State :=
  settledInTurn [judgeReference .a r.refA, judgeReference .b r.refB, judgeReference .c r.refC, judgeTemperature r.temp]
    { s with scanner := { s.scanner with state := .idle, readings := some r } }

/-- The conversion of the input in hand completes; the fourth ends the scan (R45). -/
def auxConversion (value : Int) (s : State) : State :=
  match s.scanner.state with
  | .scanning values settle true =>
    match values ++ [auxValue values.length value] with
    | [a, b, c, t] => endScan ⟨a, b, c, t⟩ s
    | more => { s with scanner := { s.scanner with state := .scanning more settle false } }
  | .scanning _ _ false | .idle => s

/-- AUX_CONVERSION_COMPLETE (R45). -/
def execAuxConversionComplete (value : Int) (s : State) : Host.Outcome State Fault Refusal :=
  done (auxConversion value s)

end Sys2Proof.Machine
end

