-- ==== Sys2Proof/Machine/Dispatch.lean ====
section
/-! DEFINITION. Machine/Dispatch.lean: one arm per command, each a direct call of its meaning. -/

namespace Sys2Proof.Machine

def exec (i : Instr) (s : State) : Host.Outcome State Fault Refusal :=
  match i with
  | .coldStart levels => Sys2Proof.Machine.execColdStart levels s
  | .supplyRestart levels outage => Sys2Proof.Machine.execSupplyRestart levels outage s
  | .rawLevelChange line active => Sys2Proof.Machine.execRawLevelChange line active s
  | .debounceTimerExpiry line => Sys2Proof.Machine.execDebounceTimerExpiry line s
  | .tagReport h number => Sys2Proof.Machine.execTagReport h number s
  | .readFailureReport h => Sys2Proof.Machine.execReadFailureReport h s
  | .intakeTimerExpiry h => Sys2Proof.Machine.execIntakeTimerExpiry h s
  | .descentTimerExpiry h => Sys2Proof.Machine.execDescentTimerExpiry h s
  | .windowTimerExpiry h => Sys2Proof.Machine.execWindowTimerExpiry h s
  | .gateTimerExpiry h => Sys2Proof.Machine.execGateTimerExpiry h s
  | .warmUpTimerExpiry h => Sys2Proof.Machine.execWarmUpTimerExpiry h s
  | .paceTimerExpiry h => Sys2Proof.Machine.execPaceTimerExpiry h s
  | .acquisitionTimeElapsed h => Sys2Proof.Machine.execAcquisitionTimeElapsed h s
  | .conversionComplete h code => Sys2Proof.Machine.execConversionComplete h code s
  | .settleDelayExpiry h => Sys2Proof.Machine.execSettleDelayExpiry h s
  | .settleTimerExpiry h => Sys2Proof.Machine.execSettleTimerExpiry h s
  | .idleTimerExpiry h => Sys2Proof.Machine.execIdleTimerExpiry h s
  | .zeroIntervalExpiry h => Sys2Proof.Machine.execZeroIntervalExpiry h s
  | .scanPeriodExpiry => Sys2Proof.Machine.execScanPeriodExpiry s
  | .auxSettleElapsed => Sys2Proof.Machine.execAuxSettleElapsed s
  | .auxConversionComplete value => Sys2Proof.Machine.execAuxConversionComplete value s
  | .delivered bin => Sys2Proof.Machine.execDelivered bin s
  | .moveFault code => Sys2Proof.Machine.execMoveFault code s
  | .binOpened bin => Sys2Proof.Machine.execBinOpened bin s
  | .unlockFault bin => Sys2Proof.Machine.execUnlockFault bin s
  | .binShut bin floorEmpty => Sys2Proof.Machine.execBinShut bin floorEmpty s
  | .unknownDriveReport => Sys2Proof.Machine.execUnknownDriveReport s
  | .transferTimerExpiry => Sys2Proof.Machine.execTransferTimerExpiry s
  | .confirmTimerExpiry bin => Sys2Proof.Machine.execConfirmTimerExpiry bin s
  | .unlockTimerExpiry bin => Sys2Proof.Machine.execUnlockTimerExpiry bin s
  | .openLongTimerExpiry bin => Sys2Proof.Machine.execOpenLongTimerExpiry bin s
  | .checkTimerExpiry output readback => Sys2Proof.Machine.execCheckTimerExpiry output readback s
  | .pulseTimerExpiry => Sys2Proof.Machine.execPulseTimerExpiry s
  | .clockSecond => Sys2Proof.Machine.execClockSecond s
  | .byteReceived p byte => Sys2Proof.Machine.execByteReceived p byte s
  | .interByteGap p => Sys2Proof.Machine.execInterByteGap p s
  | .watchTimerExpiry => Sys2Proof.Machine.execWatchTimerExpiry s
  | .frameSent p => Sys2Proof.Machine.execFrameSent p s
  | .unlistedRequestKind r offset => Sys2Proof.Machine.execUnlistedRequestKind r offset s
  | .status r => Sys2Proof.Machine.execStatus r s
  | .identify r => Sys2Proof.Machine.execIdentify r s
  | .settingsRead r group head => Sys2Proof.Machine.execSettingsRead r group head s
  | .linkSet r count unit policy => Sys2Proof.Machine.execLinkSet r count unit policy s
  | .headOpen r heads => Sys2Proof.Machine.execHeadOpen r heads s
  | .headClose r heads => Sys2Proof.Machine.execHeadClose r heads s
  | .headSet r head v => Sys2Proof.Machine.execHeadSet r head v s
  | .headClearFault r head => Sys2Proof.Machine.execHeadClearFault r head s
  | .weighSet r head v => Sys2Proof.Machine.execWeighSet r head v s
  | .weightRead r head => Sys2Proof.Machine.execWeightRead r head s
  | .scanSet r v => Sys2Proof.Machine.execScanSet r v s
  | .auxRead r => Sys2Proof.Machine.execAuxRead r s
  | .advise r a => Sys2Proof.Machine.execAdvise r a s
  | .withdraw r tag => Sys2Proof.Machine.execWithdraw r tag s
  | .adviceQuery r sel => Sys2Proof.Machine.execAdviceQuery r sel s
  | .denomSet r code kind mass enabled => Sys2Proof.Machine.execDenomSet r code kind mass enabled s
  | .bagTypeSet r bagType tare => Sys2Proof.Machine.execBagTypeSet r bagType tare s
  | .toleranceSet r cls floor perMille => Sys2Proof.Machine.execToleranceSet r cls floor perMille s
  | .logRead r fromSeq count => Sys2Proof.Machine.execLogRead r fromSeq count s
  | .logInfo r => Sys2Proof.Machine.execLogInfo r s
  | .logPurge r => Sys2Proof.Machine.execLogPurge r s
  | .logSet r threshold => Sys2Proof.Machine.execLogSet r threshold s
  | .binSet r bin cls zone limit => Sys2Proof.Machine.execBinSet r bin cls zone limit s
  | .binRead r first count => Sys2Proof.Machine.execBinRead r first count s
  | .zoneMapSet r zones => Sys2Proof.Machine.execZoneMapSet r zones s
  | .liftSet r mode runLimit transferTime => Sys2Proof.Machine.execLiftSet r mode runLimit transferTime s
  | .liftRead r => Sys2Proof.Machine.execLiftRead r s
  | .liftResolve r outcome => Sys2Proof.Machine.execLiftResolve r outcome s
  | .modeSetNight r => Sys2Proof.Machine.execModeSetNight r s
  | .modeSetDay r => Sys2Proof.Machine.execModeSetDay r s
  | .scheduleSet r nightStart dayMinute enabled => Sys2Proof.Machine.execScheduleSet r nightStart dayMinute enabled s
  | .setReleaseWindow r openMinute closeMinute => Sys2Proof.Machine.execSetReleaseWindow r openMinute closeMinute s
  | .officerSet r slot number role enabled => Sys2Proof.Machine.execOfficerSet r slot number role enabled s
  | .releaseSet r confirmTime unlockTime openLimit => Sys2Proof.Machine.execReleaseSet r confirmTime unlockTime openLimit s
  | .releaseRequest r bin officer => Sys2Proof.Machine.execReleaseRequest r bin officer s
  | .releaseConfirm r bin officer => Sys2Proof.Machine.execReleaseConfirm r bin officer s
  | .releaseCancel r bin officer => Sys2Proof.Machine.execReleaseCancel r bin officer s
  | .releaseRead r => Sys2Proof.Machine.execReleaseRead r s
  | .lineStatus r => Sys2Proof.Machine.execLineStatus r s
  | .lineAck r lines => Sys2Proof.Machine.execLineAck r lines s
  | .lineSet r line polarity debounce => Sys2Proof.Machine.execLineSet r line polarity debounce s
  | .lineReportSet r line edges notify => Sys2Proof.Machine.execLineReportSet r line edges notify s
  | .outputSet r output level => Sys2Proof.Machine.execOutputSet r output level s
  | .clockRead r => Sys2Proof.Machine.execClockRead r s
  | .clockSet r value => Sys2Proof.Machine.execClockSet r value s
  | .alarmAck r => Sys2Proof.Machine.execAlarmAck r s
  | .alarmSet r v => Sys2Proof.Machine.execAlarmSet r v s
  | .serviceEnter r kind => Sys2Proof.Machine.execServiceEnter r kind s
  | .serviceExit r => Sys2Proof.Machine.execServiceExit r s
  | .patternSet r levels => Sys2Proof.Machine.execPatternSet r levels s
  | .snapshot r => Sys2Proof.Machine.execSnapshot r s
  | .calZero r head => Sys2Proof.Machine.execCalZero r head s
  | .calSpan r head reference => Sys2Proof.Machine.execCalSpan r head reference s
  | .calVerify r head reference tolerance => Sys2Proof.Machine.execCalVerify r head reference tolerance s
  | .statsRead r => Sys2Proof.Machine.execStatsRead r s
  | .statsClear r => Sys2Proof.Machine.execStatsClear r s
  | .restart r => Sys2Proof.Machine.execRestart r s
  | .coldInitialise r => Sys2Proof.Machine.execColdInitialise r s
  | .rackDriveOrderSent => Sys2Proof.Machine.execRackDriveOrderSent s

end Sys2Proof.Machine
end

