-- ==== Sys2Proof/Machine/Frames.lean ====
section
/-! DEFINITION. Machine/Frames.lean: the frames the part sends (R194, R198, R205, R206, R207): the kind and number of a reply
and of a notice, and their payloads. The transmitter's frame is read off the port: nothing in the part reads the bytes it
has sent (notes/assumptions/37). -/

namespace Sys2Proof.Machine

/-! ### Kinds and numbers -/

/-- The port, number and form of a request command; `none` for an event. -/
def requestOf : Instr → Option Req
  | .unlistedRequestKind r _ | .status r | .identify r | .settingsRead r _ _ | .linkSet r _ _ _ | .headOpen r _
  | .headClose r _ | .headSet r _ _ | .headClearFault r _ | .weighSet r _ _ | .weightRead r _ | .scanSet r _ | .auxRead r
  | .advise r _ | .withdraw r _ | .adviceQuery r _ | .denomSet r _ _ _ _ | .bagTypeSet r _ _ | .toleranceSet r _ _ _
  | .logRead r _ _ | .logInfo r | .logPurge r | .logSet r _ | .binSet r _ _ _ _ | .binRead r _ _ | .zoneMapSet r _
  | .liftSet r _ _ _ | .liftRead r | .liftResolve r _ | .modeSetNight r | .modeSetDay r | .scheduleSet r _ _ _
  | .setReleaseWindow r _ _ | .officerSet r _ _ _ _ | .releaseSet r _ _ _ | .releaseRequest r _ _
  | .releaseConfirm r _ _ | .releaseCancel r _ _ | .releaseRead r | .lineStatus r | .lineAck r _ | .lineSet r _ _ _
  | .lineReportSet r _ _ _ | .outputSet r _ _ | .clockRead r | .clockSet r _ | .alarmAck r | .alarmSet r _
  | .serviceEnter r _ | .serviceExit r | .patternSet r _ | .snapshot r | .calZero r _ | .calSpan r _ _
  | .calVerify r _ _ _ | .statsRead r | .statsClear r | .restart r | .coldInitialise r => some r
  | .coldStart _ | .supplyRestart _ _ | .rawLevelChange _ _ | .debounceTimerExpiry _ | .tagReport _ _
  | .readFailureReport _ | .intakeTimerExpiry _ | .descentTimerExpiry _ | .windowTimerExpiry _ | .gateTimerExpiry _
  | .warmUpTimerExpiry _ | .paceTimerExpiry _ | .acquisitionTimeElapsed _ | .conversionComplete _ _
  | .settleDelayExpiry _ | .settleTimerExpiry _ | .idleTimerExpiry _ | .zeroIntervalExpiry _ | .scanPeriodExpiry
  | .auxSettleElapsed | .auxConversionComplete _ | .delivered _ | .moveFault _ | .binOpened _ | .unlockFault _
  | .binShut _ _ | .unknownDriveReport | .transferTimerExpiry | .confirmTimerExpiry _ | .unlockTimerExpiry _
  | .openLongTimerExpiry _ | .checkTimerExpiry _ _ | .pulseTimerExpiry | .clockSecond | .byteReceived _ _
  | .interByteGap _ | .watchTimerExpiry | .frameSent _ | .rackDriveOrderSent => none

/-- The kind of a request (section 11.7); 0x00, which is no request's, for an event. -/
def requestKind : Instr → Byte
  | .status _ => 0x01
  | .identify _ => 0x02
  | .settingsRead _ _ _ => 0x03
  | .linkSet _ _ _ _ => 0x04
  | .headOpen _ _ => 0x05
  | .headClose _ _ => 0x06
  | .headSet _ _ _ => 0x07
  | .headClearFault _ _ => 0x08
  | .weighSet _ _ _ => 0x09
  | .weightRead _ _ => 0x0A
  | .scanSet _ _ => 0x0B
  | .auxRead _ => 0x0C
  | .advise _ _ => 0x0D
  | .withdraw _ _ => 0x0E
  | .adviceQuery _ _ => 0x0F
  | .denomSet _ _ _ _ _ => 0x10
  | .bagTypeSet _ _ _ => 0x11
  | .toleranceSet _ _ _ _ => 0x12
  | .logRead _ _ _ => 0x13
  | .logInfo _ => 0x14
  | .logPurge _ => 0x15
  | .logSet _ _ => 0x16
  | .binSet _ _ _ _ _ => 0x17
  | .binRead _ _ _ => 0x18
  | .zoneMapSet _ _ => 0x19
  | .liftSet _ _ _ _ => 0x1A
  | .liftRead _ => 0x1B
  | .liftResolve _ _ => 0x1C
  | .modeSetNight _ | .modeSetDay _ => 0x1D
  | .scheduleSet _ _ _ _ => 0x1E
  | .setReleaseWindow _ _ _ => 0x1F
  | .officerSet _ _ _ _ _ => 0x20
  | .releaseSet _ _ _ _ => 0x21
  | .releaseRequest _ _ _ => 0x22
  | .releaseConfirm _ _ _ => 0x23
  | .releaseCancel _ _ _ => 0x24
  | .releaseRead _ => 0x25
  | .lineStatus _ => 0x26
  | .lineAck _ _ => 0x27
  | .lineSet _ _ _ _ => 0x28
  | .lineReportSet _ _ _ _ => 0x29
  | .outputSet _ _ _ => 0x2A
  | .clockRead _ => 0x2B
  | .clockSet _ _ => 0x2C
  | .alarmAck _ => 0x2D
  | .alarmSet _ _ => 0x2E
  | .serviceEnter _ _ => 0x2F
  | .serviceExit _ => 0x30
  | .patternSet _ _ => 0x31
  | .snapshot _ => 0x32
  | .calZero _ _ => 0x33
  | .calSpan _ _ _ => 0x34
  | .calVerify _ _ _ _ => 0x35
  | .statsRead _ => 0x36
  | .statsClear _ => 0x37
  | .restart _ => 0x38
  | .coldInitialise _ => 0x39
  | .unlistedRequestKind _ offset => BitVec.ofNat 8 (0x3A + offset.val)
  | .coldStart _ | .supplyRestart _ _ | .rawLevelChange _ _ | .debounceTimerExpiry _ | .tagReport _ _
  | .readFailureReport _ | .intakeTimerExpiry _ | .descentTimerExpiry _ | .windowTimerExpiry _ | .gateTimerExpiry _
  | .warmUpTimerExpiry _ | .paceTimerExpiry _ | .acquisitionTimeElapsed _ | .conversionComplete _ _
  | .settleDelayExpiry _ | .settleTimerExpiry _ | .idleTimerExpiry _ | .zeroIntervalExpiry _ | .scanPeriodExpiry
  | .auxSettleElapsed | .auxConversionComplete _ | .delivered _ | .moveFault _ | .binOpened _ | .unlockFault _
  | .binShut _ _ | .unknownDriveReport | .transferTimerExpiry | .confirmTimerExpiry _ | .unlockTimerExpiry _
  | .openLongTimerExpiry _ | .checkTimerExpiry _ _ | .pulseTimerExpiry | .clockSecond | .byteReceived _ _
  | .interByteGap _ | .watchTimerExpiry | .frameSent _ | .rackDriveOrderSent => 0x00

/-- The kind of a reply: its request's kind plus 0x80 (R194). -/
def replyKind (c : Instr) : Byte := requestKind c + 0x80

/-- The number of a reply: that of the request it answers (R194). -/
def replyNumber (c : Instr) : Byte := ((requestOf c).map (·.number)).getD 0

/-- The kind of a notice (section 11.7). -/
def noticeKind : Notice → Byte
  | .restarted _ => 0x40
  | .linkRestored => 0x41
  | .headClosed _ _ => 0x42
  | .headFault _ _ => 0x43
  | .zeroDrift _ _ => 0x44
  | .refFault _ _ => 0x45
  | .tempHigh _ => 0x46
  | .adviceExpired _ _ => 0x47
  | .depositJudged _ _ _ _ _ _ => 0x48
  | .logLow _ _ => 0x49
  | .rackFull _ _ _ _ => 0x4A
  | .zoneFull _ _ _ => 0x4B
  | .depositStored _ _ _ _ _ => 0x4C
  | .liftFault _ _ _ _ => 0x4D
  | .driveLateReport _ _ _ => 0x4E
  | .modeChanged _ _ _ => 0x4F
  | .scheduleMissed _ _ => 0x50
  | .reservationEnded _ _ _ => 0x51
  | .unlockFailed _ _ _ _ => 0x52
  | .binOpenLong _ _ _ _ => 0x53
  | .binReleased _ _ _ _ _ => 0x54
  | .binNotEmpty _ _ _ _ => 0x55
  | .lineEvent _ _ _ => 0x56
  | .outputFault _ _ _ => 0x57
  | .calDone _ _ _ => 0x58

/-! ### Payloads -/

/-- A text as the bytes of its characters, padded to its size (R205). -/
def textBytes (size : Nat) (text : String) : List Byte :=
  padded size (text.toList.map fun c => BitVec.ofNat 8 c.toNat)

/-- The payload of a LOG_READ reply: result, number of images, images, 4-byte continuation (R206). -/
def recordsPayload (images : List (List Byte)) (continuation : Nat) : List Byte :=
  0 :: (littleEndian 1 images.length ++ images.flatten ++ littleEndian 4 continuation)

/-- The payload of an IDENTIFY reply: result, part code padded to its 8 characters, revision, serial number (R203, R205; the
sizes of the numbers are those of their ranges, notes/assumptions/37). -/
def identityPayload (partCode : String) (revision serial : Nat) : List Byte :=
  0 :: (textBytes 8 partCode ++ littleEndian 1 revision ++ littleEndian 4 serial)

/-- The byte of one head's outcome: 0 for OK, otherwise the refusal code (R5, section 11.6). -/
def outcomeByte : Option Refuse → Byte
  | none => 0
  | some code => BitVec.ofNat 8 (refuseCode code)

/-- The outcomes of a list of heads, one byte each in the order listed (R5, R139). -/
def outcomeBytes (outcomes : List (HeadId × Option Refuse)) : List Byte := outcomes.map fun x => outcomeByte x.2

/-- The payload of a reply answered OK. The manual gives the layouts of LOG_READ (R206), ADVICE_QUERY (R207) and IDENTIFY
(R203); a HEAD_OPEN reply is the result and the outcomes (R5, R198), and a MODE_SET reply has them after its mode, whose
bytes are free (R139); a reply that carries nothing but OK is its result byte; the content of every other is free
(notes/assumptions/37). -/
def okPayload : ReplyBody → List Byte
  | .records images continuation => recordsPayload images continuation
  | .adviceImage bytes => 0 :: bytes
  | .identity partCode revision serial => identityPayload partCode revision serial
  | .headOutcomes outcomes => 0 :: outcomeBytes outcomes
  | .mode v outcomes =>
    0 :: ((Config.replyContent (.mode v [])).take (payloadMax - 1 - outcomes.length) ++ outcomeBytes outcomes)
  | .done => [0]
  | body => 0 :: (Config.replyContent body).take (payloadMax - 1)

/-- The payload of a reply: the result byte first, and nothing else in a refusal (R198). -/
def replyPayload : Reply → List Byte
  | .refused code => [BitVec.ofNat 8 (refuseCode code)]
  | .ok body => okPayload body

/-- The payload of a notice: none for LINK_RESTORED, which carries nothing; free for every other
(notes/assumptions/37). -/
def noticePayload : Notice → List Byte
  | .linkRestored => []
  | n => (Config.noticeContent n).take payloadMax

/-! ### Frames sent -/

/-- The frame of a reply to a request (R194, R205). -/
def replyFrame (c : Instr) (rep : Reply) : List Byte := frameBytes (replyKind c) (replyNumber c) (replyPayload rep)

/-- The frame of a notice: its number is 0 (R194, R205). -/
def noticeFrame (n : Notice) : List Byte := frameBytes (noticeKind n) 0 (noticePayload n)

/-- The frame that a port's transmitter is sending, if it sends one (R199). -/
def Port.sending (p : Port) : Option (List Byte) :=
  match p.transmitter, p.requests, p.reply, p.notices with
  | .sendingReply, c :: _, some rep, _ => some (replyFrame c rep)
  | .sendingNotice, _, _, n :: _ => some (noticeFrame n)
  | _, _, _, _ => none

end Sys2Proof.Machine
end

