-- ==== Sys2Proof/Safety.lean ====
section
/-! DEFINITION. Safety.lean: what counts as a sound state, in the terms that claims use: the shapes of the tables, the
bounds of the queues, the laws of the device that the manual states (R2, R14, R51, R53, R61, R85, R91, R92, R115, R120, R138,
R148, R150, R157, R164, R171),
and how a request is taken (R196 to R199). -/

namespace Sys2Proof.Machine

/-! ### Shapes and bounds -/

/-- Every table has the number of entries the manual gives it (R65, R66, R67, R103, R106, R114, R147, R162, R170, R179). -/
structure State.Sized (s : State) : Prop where
  inputs        : s.inputs.length = 16
  outputs       : s.outputs.length = 15
  bins          : s.rack.bins.length = 60
  zoneMap       : s.rack.zoneMap.length = 4
  zoneFull      : s.rack.zoneFull.length = 4
  denominations : s.judge.denominations.length = 16
  tares         : s.judge.tares.length = 4
  tolerances    : s.judge.tolerances.length = 4
  officers      : s.release.officers.length = 16
  pattern       : s.service.pattern.length = 15

/-- Every queue of a port is within its capacity (R197, R200). -/
def Port.Bounded (p : Port) (notices : Nat) : Prop :=
  p.requests.length ≤ receiveCapacity ∧ p.notices.length ≤ notices

/-- Both ports are within their capacities (R197, R200). -/
structure Link.Bounded (l : Link) : Prop where
  branch  : l.branch.Bounded 32
  service : l.service.Bounded 8

/-! ### The custody log -/

/-- How many heads hold a reservation (R93). -/
def State.holders (s : State) : Nat := HeadId.all.countP fun h => (s.head h).reservation

/-- Whether a head of the state holds a reservation for the bag it may admit or has in hand (R93). -/
def HeadState.admitting : HeadState → Bool
  | .ready | .intake | .descent | .examine | .recover => true
  | .closed | .warming | .discharge | .hold | .fault _ => false

/-- A head's reservation and cradle record agree with its state: a reservation is held in every admitting state, and
otherwise at most in FAULT (R93); never beside a cradle record (R12); a WARMING head, and a CLOSED head that awaits no
restart decision, hold no cradle record (R17, R24, R25); and a head that awaits its decision is CLOSED (R164). -/
structure Head.Reserving (hd : Head) : Prop where
  held     : hd.state.admitting = true → hd.reservation = true
  only     : hd.reservation = true → hd.state.admitting = true ∨ hd.state.isFault = true
  noRecord : hd.reservation = true → hd.cradleRecord = none
  warming  : hd.state = .warming → hd.cradleRecord = none
  closed   : hd.state = .closed → hd.starting = false → hd.cradleRecord = none
  awaiting : hd.starting = true → hd.state = .closed

/-- The law of the log's space: the reservation count is the number of heads that hold one, and records and reservations
together never exceed 1,024 (R91, R93). -/
structure State.LogLaw (s : State) : Prop where
  counted   : s.log.reservations = s.holders
  room      : s.log.records.length + s.log.reservations ≤ logCapacity
  reserving : ∀ h, (s.head h).Reserving

/-- No two records share a sequence number, and the next one is held by none (R91, R92). -/
structure CustodyLog.Distinct (l : CustodyLog) : Prop where
  nodup : (l.records.map (·.seq)).Nodup
  next  : l.nextSeq ∉ l.records.map (·.seq)

/-- The sequence numbers a head has in hand: its staging queue and its cradle record. -/
def Head.bags (hd : Head) : List Nat := hd.staging ++ hd.cradleRecord.toList

/-- The sequence numbers all three heads have in hand. -/
def State.bags (s : State) : List Nat := HeadId.all.flatMap fun h => (s.head h).bags

/-- Whether a record is in the lift: IN_TRANSFER or TRANSFER_FAULT (R120). -/
def Record.lifted (r : Record) : Bool := r.state == .inTransfer || r.state == .transferFault

/-- The lift and the log agree (R120): a record is IN_TRANSFER exactly when the lift is MOVING with it in flight, and
TRANSFER_FAULT exactly when the lift is in FAULT with it in flight. -/
def Lift.agrees (l : LiftState) (records : List Record) : Prop :=
  match l with
  | .idle => ∀ r ∈ records, r.lifted = false
  | .moving f _ =>
    (∃ r ∈ records, r.seq = f.seq) ∧ ∀ r ∈ records,
      (r.state = .inTransfer ↔ r.seq = f.seq) ∧ r.state ≠ .transferFault
  | .fault _ f =>
    (∃ r ∈ records, r.seq = f.seq) ∧ ∀ r ∈ records,
      (r.state = .transferFault ↔ r.seq = f.seq) ∧ r.state ≠ .inTransfer

/-- A head's staging queue holds at most two bags, and has room for the one on the cradle while the gate is opened for it
(R14, R15). -/
structure Head.Staged (hd : Head) : Prop where
  two  : hd.staging.length ≤ 2
  room : hd.state = .discharge → hd.cradleRecord.isSome = true → hd.staging.length < 2

/-- Every bag is accounted for: a record is JUDGED exactly while one head has it as its cradle record or once in its staging
queue (R18, R85), no staging queue holds more than two (R14), and the lift and the log agree (R120). -/
structure State.CustodyLaw (s : State) : Prop where
  once   : s.bags.Nodup
  staged : ∀ h, (s.head h).Staged
  judged : ∀ seq, seq ∈ s.bags ↔ ∃ r ∈ s.log.records, r.seq = seq ∧ r.state = .judged
  lift   : Lift.agrees s.lift.state s.log.records

/-- What a record keeps from its creation until it is purged (R84). -/
def Record.fixed (r : Record) : Nat × HeadId × Option Nat × Bool × RecordCause × Option Nat × Nat :=
  (r.seq, r.head, r.tag, r.restarted, r.cause, r.measured, r.landed)

/-- Whether a record's state may be followed by another, by the table of R85; a state may also be kept. -/
def RecordState.mayBecome : RecordState → RecordState → Bool
  | .judged, s => s == .judged || s == .inTransfer
  | .inTransfer, s => s == .inTransfer || s == .stored || s == .transferFault
  | .stored, s => s == .stored || s == .released
  | .transferFault, s => s == .transferFault || s == .stored || s == .withdrawn
  | .withdrawn, s => s == .withdrawn
  | .released, s => s == .released

/-! ### The advice table -/

/-- The advice table is in order: its entries stand in rising order of index, below 400; at most one PENDING entry has a
tag; the lodging order names each lodged entry once and nothing else (R51, R53). -/
structure AdviceTable.Lawful (t : AdviceTable) : Prop where
  rising     : (t.entries.map (·.index)).Pairwise (· < ·)
  bounded    : ∀ e ∈ t.entries, e.index < adviceCapacity
  onePending : ∀ e ∈ t.entries, ∀ f ∈ t.entries, e.isPending = true → f.isPending = true → e.tag = f.tag → e = f
  once       : t.order.Nodup
  lodged     : ∀ i, i ∈ t.order ↔ ∃ e ∈ t.entries, e.index = i ∧ e.isPending = false

/-! ### The rack and the lift -/

/-- Whether a record counts in the bin it names (R115). -/
def Record.counts (r : Record) : Bool := r.state == .inTransfer || r.state == .stored || r.state == .transferFault

/-- The records that count in a bin (R115). -/
def State.countedIn (s : State) (bin : Nat) : List Record :=
  s.log.records.filter fun r => r.counts && r.bin == some bin

/-- A bin's count and mass are those of the records that count in it, and within its bounds (R115). -/
def State.binTrue (s : State) (bin : Nat) : Prop :=
  ∀ b, s.bin bin = some b →
    b.count = (s.countedIn bin).length ∧ b.mass = ((s.countedIn bin).map (·.allocationMass)).sum ∧
      b.count ≤ 8 ∧ b.mass ≤ b.limit

/-- The record a lift has in flight, if it has one (R120). -/
def LiftState.inFlight : LiftState → Option InFlight
  | .idle => none
  | .moving f _ | .fault _ f => some f

/-- The bin table agrees with the log: every bin's count and mass are true (R115), and the record in flight names the bin it
was granted (R120, R126). -/
structure State.RackLaw (s : State) : Prop where
  bins   : ∀ bin, s.binTrue bin
  flight : ∀ f, s.lift.state.inFlight = some f → ∀ r ∈ s.log.records, r.seq = f.seq → r.bin = some f.bin

/-- In DAY no bag is in hand: every head is CLOSED or in FAULT (the law of R138), none has a cradle record or a bag in
staging, and the lift is IDLE (R117, R142). -/
def State.DayLaw (s : State) : Prop :=
  s.mode = .day → s.lift.state = .idle ∧
    ∀ h, ((s.head h).state = .closed ∨ (s.head h).state.isFault = true) ∧ (s.head h).cradleRecord = none ∧
      (s.head h).staging = []

/-! ### Outputs -/

/-- While no service state is held, every output is driven at its owner's level (R171, R182). -/
def State.Driven (s : State) : Prop := s.service.state = .none → ∀ o ∈ s.outputs, o.driven = o.owner

/-- Every head commands its four outputs from its state (R2). -/
def State.Commanded (s : State) : Prop :=
  ∀ h, (s.output (flapReleaseOutput h)).owner = (s.head h).flap ∧
    (s.output (gateOpenOutput h)).owner = (s.head h).gate ∧
    (s.output (intakeLampOutput h)).owner = (s.head h).lamp ∧
    (s.output (readerOnOutput h)).owner = (s.head h).reader

/-! ### Release control -/

/-- The lock state of a bin the rack has. -/
def State.lock (s : State) (bin : Nat) : Option LockState := (s.bin bin).map (·.lock)

/-- The law of release (R132, R148, R150, R154, R157): a bin is RESERVED exactly while a reservation names it, UNLOCKING exactly while
it is in the unlock list, and UNLOCKING or UNLOCKED exactly while it has an unlock record; no two reservations are for one
bin or one officer; at most 4 are live; at most 2 bins are UNLOCKING or UNLOCKED; outside DAY there is none of either. Every
unlock record names two different officers (R150), and so does every RELEASED record (R157). -/
structure State.ReleaseLaw (s : State) : Prop where
  reserved   : ∀ b, s.lock b = some .reserved ↔ ∃ v ∈ s.release.reservations, v.bin = b
  unlocking  : ∀ b, s.lock b = some .unlocking ↔ b ∈ s.lift.unlockList
  recorded   : ∀ b, (s.lock b).map LockState.isOpen = some true ↔ ∃ u ∈ s.release.unlocks, u.bin = b
  oneBin     : (s.release.reservations.map (·.bin)).Nodup
  oneOfficer : (s.release.reservations.map (·.officer)).Nodup
  four       : s.release.reservations.length ≤ 4
  two        : s.rack.openBins ≤ 2
  dayOnly    : s.mode ≠ .day → s.release.reservations = [] ∧ s.rack.openBins = 0
  pair       : ∀ u ∈ s.release.unlocks, u.requesting ≠ u.confirming
  released   : ∀ r ∈ s.log.records, r.state = .released → ∃ a b, r.officers = some (a, b) ∧ a ≠ b

/-! ### The supply restart -/

/-- What a head is right after a supply restart, before its decision: it keeps its cradle record, its staging queue and its
settings; everything else that R25 names is clear, and it counts as CLOSED (R25, R164). -/
structure Head.RestartedFrom (old new : Head) : Prop where
  state        : new.state = .closed
  starting     : new.starting = true
  closePending : new.closePending = none
  reservation  : new.reservation = false
  tags         : new.tags = []
  weighing     : new.weighing = none
  beamCount    : new.beamCount = 0
  timers       : new.intakeTimer = none ∧ new.descentTimer = none ∧ new.windowTimer = none ∧ new.gateTimer = none
  cradleRecord : new.cradleRecord = old.cradleRecord
  staging      : new.staging = old.staging
  settings     : new.settings = old.settings

/-- What the lift, the log, the alarm and the statistics are right after a supply restart, by the lift state it found
(R88, R102, R134, R178, R190): a transfer becomes FAULT(RESTART), whose record is TRANSFER_FAULT, and a lift in FAULT reports
its alarm cause again. (Orders lost and frame errors not counted: notes/assumptions/16 and 17.) -/
structure State.LiftRestarted (s t : State) : Prop where
  kept     : t.lift = { s.lift with
    state := t.lift.state
    transferTimer := none
    unlockList := []
    orders := [] }
  settings : t.alarm = { s.alarm with latched := t.alarm.latched, pulseTimer := t.alarm.pulseTimer }
  log      : t.log = { s.log with records := t.log.records, reservations := 0 }
  idle     : s.lift.state = .idle →
    t.lift.state = .idle ∧ t.log.records = s.log.records ∧ t.alarm.latched = allCauses false ∧
      t.alarm.pulseTimer = none ∧ t.service.stats = s.service.stats
  moving   : ∀ f granted, s.lift.state = .moving f granted →
    t.lift.state = .fault .restart f ∧
      t.log.records = (s.log.records.map fun r => if r.seq = f.seq then { r with state := .transferFault } else r) ∧
      t.alarm.latched = { allCauses false with liftFault := true } ∧
      t.service.stats = { s.service.stats with liftFaults := countUp s.service.stats.liftFaults }
  fault    : ∀ cause f, s.lift.state = .fault cause f →
    t.lift.state = .fault cause f ∧ t.log.records = s.log.records ∧
      t.alarm.latched = { allCauses false with liftFault := true } ∧ t.service.stats = s.service.stats

/-- What the lines are right after a supply restart: an input line keeps its settings, is not established and its debounce
timer runs (R162, R164); every output has its fault flag clear and its check timer running; the outputs of the heads are
de-energised, and so is ALARM where no cause is reported again; the GP outputs keep the levels the host set (R170). -/
structure State.LinesRestarted (s t : State) (levels : BitVec 16) : Prop where
  inputs  : ∀ n < 16, t.input n = { s.input n with
    high := levels.getLsbD n
    debounced := none
    timer := some (s.input n).debounce
    event := false }
  outputs : ∀ n < 15, (t.output n).fault = false ∧ (t.output n).check = some 50 ∧
    (t.output n).driven = (t.output n).owner
  heads   : ∀ n < 12, (t.output n).owner = false
  alarm   : s.lift.state = .idle → (t.output 12).owner = false
  gp      : (t.output 13).owner = (s.output 13).owner ∧ (t.output 14).owner = (s.output 14).owner

/-- What the link interface is right after a supply restart: queues empty but for RESTARTED and what the other blocks
raised, receivers HUNTING, overflow flags clear, the link UP with its settings and the full timeout (R201, R204). -/
structure Link.RestartedFrom (old new : Link) (cause : RestartCause) : Prop where
  branch   : new.branch.receiver = .hunting ∧ new.branch.requests = [] ∧ new.branch.reply = none ∧
    new.branch.receiveOver = false ∧ new.branch.noticeOver = false
  first    : new.branch.notices.head? = some (.restarted cause)
  service  : new.service = ⟨.hunting, [], none, .free, [], false, false⟩
  settings : new.count = old.count ∧ new.unit = old.unit ∧ new.policy = old.policy
  link     : new.lost = false
  timer    : new.timer = if old.count = 0 then none
    else some (if old.unit = WatchUnit.second then old.count else 60 * old.count)

/-- What the part holds right after a supply restart at which no head decides and no bin relocks: what the battery well
keeps, and every other item at its restart value (R25, R27, R45, R102, R104, R134, R161, R162, R164, R170, R178, R179, R190,
R201, R204). -/
structure State.RestartedFrom (s t : State) (cause : RestartCause) (levels : BitVec 16) : Prop where
  heads    : ∀ h, (s.head h).RestartedFrom (t.head h)
  channels : ∀ h, t.channel h = .fresh (s.channel h).zero (s.channel h).span (s.channel h).settings
  scanner  : t.scanner = ⟨.scanning [] s.scanner.settings.auxSettle false, none, some s.scanner.settings.scanPeriod,
    s.scanner.settings, false⟩
  tables   : t.advices = s.advices ∧ t.judge = s.judge ∧ t.rack = s.rack
  release  : t.release = s.release
  lift     : s.LiftRestarted t
  service  : t.service = ⟨.none, List.replicate 15 false, none, t.service.stats⟩
  lines    : s.LinesRestarted t levels
  link     : s.link.RestartedFrom t.link cause

/-! ### How a request is taken -/

/-- Whether a request is allowed on the service port alone (section 11.7). -/
def serviceOnly : Instr → Bool
  | .headClearFault _ _ | .weighSet _ _ _ | .scanSet _ _ | .liftResolve _ _ | .lineSet _ _ _ _ | .serviceEnter _ _
  | .serviceExit _ | .patternSet _ _ | .calZero _ _ | .calSpan _ _ _ | .calVerify _ _ _ _ | .statsClear _ | .restart _
  | .coldInitialise _ => true
  | _ => false

/-- The request meets no check before its owner's rule, and no request is in hand at its port, so that it is taken as it
arrives (R197, R198): its form is right, and its port's receive queue is empty. -/
def State.takes (s : State) (r : Req) : Prop := r.formOk = true ∧ (s.port r.port).requests = []

/-- The state in which a request is taken at an idle port: the link watch has seen its frame (R196), and it is the request
in hand (R197). -/
def State.holding (s : State) (r : Req) (c : Instr) : State :=
  let u := frameSeen r.port s
  u.setPort r.port { u.port r.port with requests := [c] }

/-- The state after a request has been taken: its reply is ready, and a free transmitter begins to send (R198, R199). -/
def State.replied (s : State) (r : Req) (rep : Reply) : State :=
  pump (s.setPort r.port { s.port r.port with reply := some rep })

end Sys2Proof.Machine
end

