-- ==== Sys2Proof/Certificates/Slice0/Obligations.lean ====
section
/-! DEFINITION. Certificates/Slice0/Obligations.lean: the statements for the provers, in the order machine, lines and heads,
channels, scanner, drive, outputs and clock, ports, requests, laws. A statement whose conclusion is an equation
`exec c s = .next t` also says that everything `t` does not show changed is as in `s`. -/

open Sys2Proof Sys2Proof.Machine

/-! ### The machine -/

/-- A step takes the command at the front of the queue and runs it with the queue's rest. -/
def Obligations.StepRunsTheFrontCommand : Prop :=
  ∀ (c : Instr) (rest : List Instr) (s : State), s.pending = c :: rest → step s = exec c { s with pending := rest }

/-- COLD_START gives every block the cold-start values of the manual, whatever the block held: the heads (R1, R3), the weigh
channels (R27, R28), the scanner, which starts its first scan (R45, R46), the advice table (R53) and the judgement tables
(R65 to R67), the log (R101), the rack (R104), the lift (R120), release control (R160), every input line (R162) and output
(R170), the clock, which is UNSET (R173), the alarm with its settings (R178), the service controller with pattern and
statistics (R179, R190), and the link interface (R201, R204), where RESTARTED(COLD) is the one notice, in the branch queue,
and is being sent. Of an output the sensed level is left out (notes/assumptions/6), of a head its latched timings. (The
electrical levels are an operand: notes/assumptions/25.) -/
def Obligations.ColdStartTakesColdValues : Prop :=
  ∀ (levels : BitVec 16) (s : State), ∃ t, exec (.coldStart levels) s = .next t ∧
    (∀ h, t.head h = {
      state := .closed, closePending := none, reservation := false, beamCount := 0, earlyLanding := false, tags := []
      windowDone := false, weighing := none, restarted := false, landed := none, latched := (t.head h).latched
      cradleRecord := none, staging := [], settings := ⟨45, 2000, 600, 3, false⟩
      intakeTimer := none, descentTimer := none, windowTimer := none, gateTimer := none, decision := .made }) ∧
    (∀ h, t.channel h = {
      state := .off, zero := 0, span := 8192000, settings := ⟨8, 30, 10, 2, 2, 300, 2000, 4, 4000, 5, 50000⟩
      latest := none, gathered := ⟨0, 0, false, true⟩, conversion := none, waiting := false, refFault := false
      zeroDrift := false, warmUpTimer := none, paceTimer := none, acquireTimer := none, idleTimer := none
      zeroTimer := none, delayTimer := none, settleTimer := none }) ∧
    t.scanner = ⟨.scanning [] 25 false, none, some 500, ⟨500, 25, 4750, 5250, 600⟩, false⟩ ∧
    t.advices = ⟨[], []⟩ ∧
    t.judge = ⟨List.replicate 16 ⟨.note, 1, false⟩, List.replicate 4 0, List.replicate 4 ⟨5000, 10⟩⟩ ∧
    t.log = ⟨[], 1, 0, 64, false⟩ ∧
    t.rack = ⟨List.replicate 52 ⟨.standard, 0, 30000000, 0, 0, .locked⟩ ++
      List.replicate 8 ⟨.quarantine, 0, 30000000, 0, 0, .locked⟩, List.replicate 4 0, List.replicate 4 false, false⟩ ∧
    t.lift = {
      state := .idle, lastHead := .c, runCount := 0, mode := .alternate, runLimit := 4, transferTime := 40
      transferTimer := none, moveOutstanding := none, unlockList := [], orders := [] } ∧
    t.release = ⟨.day, ⟨1110, 390, false⟩, ⟨480, 600⟩, none, List.replicate 16 none, ⟨60, 10, 15⟩, [], []⟩ ∧
    t.clock = none ∧
    (let none7 : AlarmFlags := ⟨false, false, false, false, false, false, false⟩
     let all7 : AlarmFlags := ⟨true, true, true, true, true, true, true⟩
     t.alarm = ⟨none7, .level, 2000, .activeHigh, all7, none⟩) ∧
    (let zero : HeadStats := ⟨0, 0, 0, 0, 0, 0, 0, 0, 0, 0⟩
     t.service = ⟨.none, List.replicate 15 false, none, ⟨⟨zero, zero, zero⟩, 0, 0, 0, 0, 0⟩⟩) ∧
    t.inputs.length = 16 ∧
    (∀ n < 16, t.input n = ⟨.activeHigh, 20, .none, false, levels.getLsbD n, none, some 20, false⟩) ∧
    t.outputs.length = 15 ∧
    (∀ n < 15, t.output n = ⟨false, false, (t.output n).readback, false, some 50⟩) ∧
    t.link = {
      branch := ⟨.hunting, [], none, .sendingNotice, [.restarted .cold], false, false⟩
      service := ⟨.hunting, [], none, .free, [], false, false⟩
      count := 60, unit := .second, policy := .keepOpen, lost := false, timer := some 60 } ∧
    t.pending = s.pending

/-- SUPPLY_RESTART keeps what the battery well holds: cradle records, staging queues, settings, zero codes, spans, advices,
tables, records, bins, the lift's last head and run count, release control, the GP levels, the statistics. Everything else
takes its restart value, the clock counts through the outage, and RESTARTED(SUPPLY) is sent first. It is stated where no
line has a debounce time of 0 and no bin is RESERVED, UNLOCKING or UNLOCKED, so that no head decides, and no bin relocks,
within the restart itself. (The levels and the outage are operands: notes/assumptions/25. That orders not yet wholly sent
are lost, and that a frame abandoned in a receiver adds nothing to the frame error counts among the statistics, are the
model's choices: notes/assumptions/16 and 17.) -/
def Obligations.SupplyRestartKeepsTheBatteryWell : Prop :=
  ∀ (levels : BitVec 16) (outage : Nat) (s : State), s.Sized → (∀ l ∈ s.inputs, 0 < l.debounce) →
    (∀ b ∈ s.rack.bins, b.lock = .locked) → s.release.reservations = [] → s.release.unlocks = [] →
    ∃ t, exec (.supplyRestart levels outage) s = .next t ∧ s.RestartedFrom t .supply levels ∧
      t.clock = s.clock.map (fun x => min (x + outage) 4294967295)

/-- The state right after reset meets every law the statements below say each step keeps. -/
def Obligations.ResetMeetsTheLaws : Prop :=
  State.reset.Sized ∧ State.reset.link.Bounded ∧ State.reset.LogLaw ∧ State.reset.log.Distinct ∧
    State.reset.CustodyLaw ∧ State.reset.RackLaw ∧ State.reset.DayLaw ∧ State.reset.advices.Lawful ∧ State.reset.Driven ∧ State.reset.Commanded ∧
    State.reset.ReleaseLaw

/-! ### Lines and heads -/

/-- A raw change on an established line starts its debounce timer, or stops it on the way back; the expiry makes the new
level the debounced level and records the edge by the line's report edges; a line not yet established is established by
the expiry, without an event. These expiries are stated for the lines that no head and not TAMPER owns. Where the line is
the last of a head that awaits its restart decision, the head takes the first case of R25 that matches, by the first level
of its CRADLE_SENSE line: with a cradle record HOLD, going on at once to DISCHARGE where staging has room, and on from there
where its cradle is found clear (stated with the lift not IDLE); RECOVER with a reservation, outside DAY with a free place
in the log (stated with its channel OFF and no calibration step); FAULT(UNEXPECTED_CRADLE); or CLOSED. While another head
awaits its decision nothing else follows; with the last decision the restart actions end: the low-water flag is judged, and
DAY_PENDING gives way to DAY where the drain condition holds (stated for a head decided CLOSED, with every staging queue
empty). (The model's choices here: that the decision goes by the first level though the line has changed since,
notes/assumptions/19; that early landing, the window mark and the landed time start afresh at the entry to RECOVER, and the
last two at the entry to FAULT, 18; that the reservation taken at the decision is judged against the low-water threshold at
once, 12, and that where it takes the last free place no head that is READY receives LOG_FULL, 39.) -/
def Obligations.LinesAreDebounced : Prop :=
  ∀ (s : State) (n : Fin 16), s.Sized →
    (∀ a, (s.input n).raw = a → exec (.rawLevelChange n a) s = .next (pump s)) ∧
    (∀ a d, (s.input n).debounced = some d → (s.input n).raw ≠ a → 0 < (s.input n).debounce →
      exec (.rawLevelChange n a) s = .next (pump (s.setInput n
        { (s.input n).withRaw a with timer := if a = d then none else some (s.input n).debounce }))) ∧
    (n.val = 12 ∨ n.val = 14 ∨ n.val = 15 → (s.input n).timer.isSome = true →
      let l := s.input n
      (l.debounced = none → exec (.debounceTimerExpiry n) s =
        .next (pump (s.setInput n { l with debounced := some l.raw, timer := none }))) ∧
      (l.debounced = some (!l.raw) →
        let recorded : Bool := l.report = .both ∨ (l.report = .activate ∧ l.raw = true) ∨
          (l.report = .deactivate ∧ l.raw = false)
        let u := s.setInput n { l with debounced := some l.raw, timer := none, event := l.event || recorded }
        exec (.debounceTimerExpiry n) s =
          .next (pump (if recorded && l.notify then notify (.lineEvent n l.raw s.clock) u else u)))) ∧
    (∀ (h : HeadId) (first : Option Bool) (level : Bool), (s.head h).decision = .awaited first →
      (s.head h).state = .closed → n.val / 4 = headIndex h → n.val < 12 → (s.input n).debounced = none →
      (s.input n).timer.isSome = true →
      (∀ m < 16, m / 4 = headIndex h → m ≠ n.val → (s.input m).debounced.isSome = true) →
      (if n.val = cradleLine h then level = (s.input n).raw else first = some level) →
      let hd := s.head h
      let latched : HeadTimings := ⟨hd.settings.intakeTimeout, hd.settings.descentTimeout, hd.settings.identWindow,
        hd.settings.gateTimeout⟩
      let standing := fun m : Nat => if n.val = m then (s.input n).raw else s.active m
      let gone : Prop := hd.staging.length < 2 ∧ standing (cradleLine h) = false
      let others := ∃ k, k ≠ h ∧ (s.head k).starting = true
      let decided := fun t : State =>
        (∀ k, k ≠ h → t.head k = s.head k) ∧ t.lift = s.lift ∧ t.rack = s.rack ∧ t.advices = s.advices
      (others → ∀ seq, hd.cradleRecord = some seq → (gone → s.lift.state ≠ .idle) →
        ∃ t, exec (.debounceTimerExpiry n) s = .next t ∧ decided t ∧ t.log = s.log ∧
          (2 ≤ hd.staging.length → t.head h = { hd with
            state := .hold, closePending := some .restart, latched := latched, decision := .made }) ∧
          (hd.staging.length < 2 → standing (cradleLine h) = true → t.head h = { hd with
            state := .discharge, closePending := some .restart, latched := latched, decision := .made
            gateTimer := some latched.gate }) ∧
          (gone → standing (gateShutLine h) = false → t.head h = { hd with
            state := .discharge, closePending := some .restart, latched := latched, decision := .made
            gateTimer := some latched.gate, staging := hd.staging ++ [seq], cradleRecord := none }) ∧
          (gone → standing (gateShutLine h) = true → t.head h = { hd with
            state := .closed, closePending := none, latched := latched, decision := .made
            gateTimer := none, beamCount := 0, staging := hd.staging ++ [seq], cradleRecord := none })) ∧
      (others → hd.cradleRecord = none → level = true → s.mode ≠ .day → 1 ≤ s.logFree →
        (s.channel h).state = .off → s.service.step = none →
        ∃ t, exec (.debounceTimerExpiry n) s = .next t ∧ decided t ∧
          t.head h = { hd with
            state := .recover, closePending := some .restart, latched := latched, decision := .made, reservation := true
            beamCount := 1, restarted := true, earlyLanding := false, tags := [], windowDone := false, weighing := none
            landed := none } ∧
          (t.channel h).state = .warming .running ∧
          t.log = { s.log with
            reservations := s.log.reservations + 1, lowFlag := s.log.lowFlag || decide (s.logFree - 1 ≤ s.log.lowWater) }) ∧
      (others → hd.cradleRecord = none → level = true → s.mode = .day ∨ s.logFree = 0 →
        ∃ t, exec (.debounceTimerExpiry n) s = .next t ∧ decided t ∧ t.log = s.log ∧
          t.head h = { hd with
            state := .fault .unexpectedCradle, decision := .made, intakeTimer := none, descentTimer := none
            windowTimer := none, gateTimer := none, tags := [], windowDone := false, weighing := none, landed := none } ∧
          t.alarm.latched.headFault = true) ∧
      (others → hd.cradleRecord = none → level = false →
        ∃ t, exec (.debounceTimerExpiry n) s = .next t ∧ decided t ∧ t.log = s.log ∧
          t.head h = { hd with state := .closed, closePending := none, decision := .made }) ∧
      (¬others → hd.cradleRecord = none → level = false → (∀ k, (s.head k).staging = []) →
        ∃ t, exec (.debounceTimerExpiry n) s = .next t ∧ decided t ∧
          t.head h = { hd with state := .closed, closePending := none, decision := .made } ∧
          t.log = { s.log with lowFlag := decide (s.logFree ≤ s.log.lowWater) } ∧
          (s.log.lowFlag = false → s.logFree ≤ s.log.lowWater → s.link.branch.notices.length < 32 →
            Notice.logLow s.logFree s.log.lowWater ∈ t.link.branch.notices) ∧
          (∀ source, s.release.mode = .dayPending source → (∀ k, k ≠ h → (s.head k).state = .closed) →
            s.lift.state = .idle → t.release.mode = .day)))

/-- A TAMPER activation latches its alarm cause and gives every head close pending: a CLOSED head is unchanged, a WARMING
head and a READY head with its flap shut close, every other keeps the flag, with an earlier cause kept. -/
def Obligations.TamperClosesTheHeads : Prop :=
  ∀ s : State, s.Sized → (s.input 13).debounced = some false → (s.input 13).raw = true →
    (s.input 13).timer.isSome = true →
    ∃ t, exec (.debounceTimerExpiry 13) s = .next t ∧ t.active 13 = true ∧ t.alarm.latched.tamper = true ∧
      ∀ h,
        ((s.head h).state = .closed → t.head h = s.head h) ∧
        ((s.head h).state = .warming → (t.head h).state = .closed ∧ (t.head h).closePending = none) ∧
        ((s.head h).state = .ready → s.active (intakeShutLine h) = true →
          (t.head h).state = .closed ∧ (t.head h).closePending = none ∧ (t.head h).reservation = false) ∧
        ((s.head h).state ≠ .closed → (s.head h).state ≠ .warming →
          ¬((s.head h).state = .ready ∧ s.active (intakeShutLine h) = true) →
          t.head h = { s.head h with closePending := some ((s.head h).closePending.getD .tamper) })

/-- A CHUTE_BEAM activation in READY starts a deposit, whether or not close pending is set. -/
def Obligations.BeamStartsADeposit : Prop :=
  ∀ (s : State) (h : HeadId) (n : Fin 16), s.Sized → n.val = chuteBeamLine h → (s.head h).state = .ready →
    (s.input n).debounced = some false → (s.input n).raw = true → (s.input n).timer.isSome = true →
    ∃ t, exec (.debounceTimerExpiry n) s = .next t ∧
      t.head h = { s.head h with
        state := .intake
        latched := ⟨(s.head h).settings.intakeTimeout, (s.head h).settings.descentTimeout,
          (s.head h).settings.identWindow, (s.head h).settings.gateTimeout⟩
        beamCount := 1
        earlyLanding := false
        tags := []
        windowDone := false
        weighing := none
        restarted := false
        landed := none
        intakeTimer := some (s.head h).settings.intakeTimeout } ∧
      (∀ k, k ≠ h → t.head k = s.head k) ∧ t.log = s.log ∧ t.rack = s.rack ∧ t.advices = s.advices ∧
      (t.output (flapReleaseOutput h)).owner = true ∧ (t.output (intakeLampOutput h)).owner = false ∧
      (t.service.stats.heads.get h).admitted = countUp (s.service.stats.heads.get h).admitted

/-- A CRADLE_SENSE activation in DESCENT is the landing: the head enters EXAMINE at the clock, with its window timer and
its reader on, and its IDLE channel, its reference fault clear, takes the weighing. -/
def Obligations.LandingStartsTheExamination : Prop :=
  ∀ (s : State) (h : HeadId) (n : Fin 16), s.Sized → n.val = cradleLine h → (s.head h).state = .descent →
    (s.input n).debounced = some false → (s.input n).raw = true → (s.input n).timer.isSome = true →
    (s.channel h).state = .idle → (s.channel h).refFault = false →
    ∃ t, exec (.debounceTimerExpiry n) s = .next t ∧
      t.head h = { s.head h with
        state := .examine
        landed := s.clock
        intakeTimer := none
        descentTimer := none
        windowTimer := some (s.head h).latched.ident } ∧
      (∀ k, k ≠ h → t.head k = s.head k) ∧ t.log = s.log ∧
      (t.output (readerOnOutput h)).owner = true ∧ (t.output (flapReleaseOutput h)).owner = false ∧
      (∃ w, (t.channel h).state = .weighing w ∧ w.requester = .head ∧ w.stable = 0 ∧ w.previous = none ∧
        w.exponent = (s.channel h).settings.exponent ∧ w.band = (s.channel h).settings.settleBand ∧
        w.count = (s.channel h).settings.settleCount) ∧
      (t.channel h).settleTimer = some (s.channel h).settings.settleTimeout ∧ (t.channel h).zeroTimer = none ∧
      (t.channel h).zero = (s.channel h).zero ∧ (t.channel h).gathered = ⟨0, 0, false, true⟩

/-- Tag reports count while the window timer runs, once each and two at most, and are ignored while it does not; a
read-failure report changes nothing; the expiry of the window timer turns the reader off, marks the window done and fixes
the outcome from the list: no tag, one tag, or a conflict. -/
def Obligations.TagWindowCollectsTags : Prop :=
  ∀ (s : State) (h : HeadId),
    (∀ n, exec (.tagReport h n) s = .next (pump
      (if (s.head h).windowTimer.isSome = true ∧ 1 ≤ n ∧ n ≤ 999999999 ∧ n ∉ (s.head h).tags ∧
          (s.head h).tags.length < 2 then s.setHead h { s.head h with tags := (s.head h).tags ++ [n] }
        else s))) ∧
    exec (.readFailureReport h) s = .next (pump s) ∧
    (s.Sized → (s.head h).state = .examine → (s.head h).windowTimer.isSome = true →
      ∃ t, exec (.windowTimerExpiry h) s = .next t ∧ (t.head h).windowTimer = none ∧ (t.head h).windowDone = true ∧
        (t.head h).tags = (s.head h).tags ∧ (t.output (readerOnOutput h)).owner = false ∧
        ((s.head h).weighing = none → t.head h = { s.head h with windowTimer := none, windowDone := true } ∧
          (∀ k, k ≠ h → t.head k = s.head k) ∧ t.log = s.log)) ∧
    tagOutcome [] = .noTag ∧ (∀ n, tagOutcome [n] = .tag n) ∧ (∀ m n, tagOutcome [m, n] = .conflict)

/-- A head enters FAULT with its cause at the expiry of its intake, descent or gate timer, when its CRADLE_SENSE line
activates with no bag due, and when that line deactivates under the bag of a head in EXAMINE, HOLD or RECOVER
(CRADLE_LOST): its timers stop, its tags and outcome go, its four outputs are de-energised, HEAD_FAULT is sent and the alarm
cause latched; it keeps its cradle record, its staging queue and its reservation, which it has given back where the bag was
lost in EXAMINE or RECOVER (the low-water flag then clears where the free count has risen above the threshold); and a
weighing in progress is abandoned. A head that awaits its restart decision is left out: it
stays CLOSED (notes/assumptions/19). (That the window mark and the landed time start afresh is the model's choice:
notes/assumptions/18.) -/
def Obligations.HeadsFaultWithTheirCause : Prop :=
  ∀ (s : State) (h : HeadId) (c : Instr) (cause : HeadFaultCause), s.Sized →
    (c = .intakeTimerExpiry h ∧ cause = .flapStuck ∧ (s.head h).state = .intake ∧
        (s.head h).intakeTimer.isSome = true) ∨
      (c = .descentTimerExpiry h ∧ cause = .chuteJam ∧ (s.head h).state = .descent ∧
        (s.head h).descentTimer.isSome = true) ∨
      (c = .gateTimerExpiry h ∧ cause = .gateJam ∧ (s.head h).state = .discharge ∧
        (s.head h).gateTimer.isSome = true) ∨
      (∃ n : Fin 16, c = .debounceTimerExpiry n ∧ cause = .unexpectedCradle ∧ n.val = cradleLine h ∧
        (((s.head h).state = .closed ∧ (s.head h).starting = false) ∨ (s.head h).state = .warming ∨
          (s.head h).state = .ready) ∧
        (s.input n).debounced = some false ∧ (s.input n).raw = true ∧ (s.input n).timer.isSome = true) ∨
      (∃ n : Fin 16, c = .debounceTimerExpiry n ∧ cause = .cradleLost ∧ n.val = cradleLine h ∧
        ((s.head h).state = .examine ∨ (s.head h).state = .hold ∨ (s.head h).state = .recover) ∧
        (s.input n).debounced = some true ∧ (s.input n).raw = false ∧ (s.input n).timer.isSome = true) →
    let lost : Bool := (s.head h).state = .examine ∨ (s.head h).state = .recover
    ∃ t, exec c s = .next t ∧
      t.head h = { s.head h with
        state := .fault cause
        reservation := if lost then false else (s.head h).reservation
        intakeTimer := none
        descentTimer := none
        windowTimer := none
        gateTimer := none
        tags := []
        windowDone := false
        weighing := none
        landed := none } ∧
      (∀ k, k ≠ h → t.head k = s.head k) ∧ t.rack = s.rack ∧ t.advices = s.advices ∧
      (let held := s.log.reservations - 1
       t.log = if lost = true ∧ (s.head h).reservation = true then { s.log with
          reservations := held
          lowFlag := s.log.lowFlag && decide (1024 - s.log.records.length - held ≤ s.log.lowWater) }
        else s.log) ∧
      (∀ w, (s.head h).state = .examine → (s.channel h).state = .weighing w → (t.channel h).state = .idle) ∧
      t.alarm.latched.headFault = true ∧
      (t.output (flapReleaseOutput h)).owner = false ∧ (t.output (gateOpenOutput h)).owner = false ∧
      (t.output (intakeLampOutput h)).owner = false ∧ (t.output (readerOnOutput h)).owner = false ∧
      (s.link.branch.notices.length < 32 → Notice.headFault h cause ∈ t.link.branch.notices) ∧
      (t.service.stats.heads.get h).faults = countUp (s.service.stats.heads.get h).faults

/-- The verdict is the first of the eight whose condition holds, with both mass edges in the accepted band. -/
def Obligations.VerdictIsTheFirstThatHolds : Prop :=
  ∀ (beam : Nat) (tag : TagOutcome) (w : WeighOutcome) (l : Lookup) (tolerance : Nat),
    let read := ∃ n, tag = .tag n
    let settled := ∃ m neg, w = .settled m neg
    let low := ∃ m neg i e c, w = .settled m neg ∧ l = .pending i e c ∧ (m : Int) < (e : Int) - tolerance
    let high := ∃ m neg i e c, w = .settled m neg ∧ l = .pending i e c ∧ (e : Int) + tolerance < m
    (2 ≤ beam → verdictOf beam tag w l tolerance = .multiple) ∧
    (beam < 2 → ¬read → verdictOf beam tag w l tolerance = .unread) ∧
    (beam < 2 → read → ¬settled → verdictOf beam tag w l tolerance = .unsettled) ∧
    (beam < 2 → read → settled → l = .none → verdictOf beam tag w l tolerance = .unadvised) ∧
    (beam < 2 → read → settled → l = .lodged → verdictOf beam tag w l tolerance = .duplicate) ∧
    (beam < 2 → read → low → verdictOf beam tag w l tolerance = .shortMass) ∧
    (beam < 2 → read → high → ¬low → verdictOf beam tag w l tolerance = .overMass) ∧
    (beam < 2 → read → settled → (∃ i e c, l = .pending i e c) → ¬low → ¬high →
      verdictOf beam tag w l tolerance = .accepted)

/-- The second of the two examination tasks to end makes the judgement, be it the tag window or the weighing, settled or
not: the reservation becomes the record, which takes the next sequence number and the fields of R76; a PENDING advice for
the one tag read is lodged to it, and no lookup is made for no tag or a conflict; the head has it as its cradle record and,
its cradle still occupied, enters DISCHARGE, or HOLD with two bags in staging. (An absent landed time is recorded as 0:
notes/assumptions/29.) -/
def Obligations.JudgementMakesTheRecord : Prop :=
  ∀ (s : State) (h : HeadId) (w : WeighOutcome) (c : Instr), s.Sized → (s.head h).state = .examine →
    (s.head h).reservation = true → s.cradle h = true →
    (c = .windowTimerExpiry h ∧ (s.head h).windowTimer.isSome = true ∧ (s.head h).weighing = some w) ∨
      ((s.head h).windowDone = true ∧ ∃ x, (s.channel h).state = .weighing x ∧ x.requester = .head ∧
        ((c = .settleTimerExpiry h ∧ (s.channel h).settleTimer.isSome = true ∧
            w = .unsettled (if x.anyReading = true ∧
              (∃ r, (s.channel h).latest = some r ∧ (r.saturated = true ∨ r.flag = .high)) then .overrange
                else .timeout)) ∨
          (∃ (code : ConverterCode) (v : Conversion) (p : Reading),
            let g := (s.channel h).gathered
            let r := makeReading (averageCode x.exponent (g.sum + code.toInt)) (s.channel h).zero (s.channel h).span
              (g.saturated || isSaturated code.toInt) (g.clear && v.clear) false
            c = .conversionComplete h code ∧ (s.channel h).conversion = some v ∧ v.dropped = false ∧
              2 ^ x.exponent ≤ g.count + 1 ∧ x.delayRun = true ∧ x.previous = some p ∧ x.count ≤ x.stable + 1 ∧
              p.saturated = false ∧ p.flag ≠ .high ∧ r.saturated = false ∧ r.flag ≠ .high ∧ r.mass ≤ p.mass + x.band ∧
              p.mass ≤ r.mass + x.band ∧ w = .settled r.mass (decide (r.flag = .negative))))) →
    let tags := (s.head h).tags
    let tag : Option Nat := match tags with
      | [n] => some n
      | _ => none
    let l : Lookup := match tag with
      | some n => s.advices.lookup n
      | none => .none
    let tolerance := match l with
      | .pending _ e c => some (max ((s.judge.tolerances[c]?).getD ⟨0, 0⟩).floor
          ((e * ((s.judge.tolerances[c]?).getD ⟨0, 0⟩).perMille + 999) / 1000))
      | .lodged | .none => none
    let verdict := verdictOf (s.head h).beamCount (tagOutcome tags) w l (tolerance.getD 0)
    let cause : RecordCause := match tags, w with
      | [], _ => .noTag
      | [_], .settled _ _ => .none
      | [_], .unsettled .timeout => .timeout
      | [_], .unsettled .overrange => .overrange
      | [_], .unsettled .refFault => .refFault
      | _ :: _ :: _, _ => .tagConflict
    let measured := match w with
      | .settled m _ => some m
      | .unsettled _ => none
    ∃ t, exec c s = .next t ∧
      t.log.records = s.log.records ++ [
        { seq := s.log.nextSeq
          head := h
          tag := tag
          advice := match l with
            | .pending i _ _ => some i
            | .lodged | .none => none
          verdict := verdict
          late := false
          overflow := false
          restarted := (s.head h).restarted
          cause := cause
          measured := measured
          expected := match l with
            | .pending _ e _ => some e
            | .lodged | .none => none
          tolerance := tolerance
          landed := (s.head h).landed.getD 0
          bin := none
          state := .judged
          storedTime := none
          releaseTime := none
          officers := none }] ∧
      t.log.nextSeq = nextSeqAfter (t.log.records.map (·.seq)) s.log.nextSeq ∧
      t.log.reservations = s.log.reservations - 1 ∧
      (t.head h).cradleRecord = some s.log.nextSeq ∧ (t.head h).reservation = false ∧
      (t.head h).state = (if (s.head h).staging.length < 2 then .discharge else .hold) ∧
      (t.head h).staging = (s.head h).staging ∧ (∀ k, k ≠ h → t.head k = s.head k) ∧
      t.advices = (match l with
        | .pending i _ _ => s.advices.lodge i verdict s.log.nextSeq
        | .lodged | .none => s.advices) ∧
      t.rack = s.rack ∧
      (s.link.branch.notices.length < 32 →
        Notice.depositJudged s.log.nextSeq h tag verdict cause measured ∈ t.link.branch.notices)

/-- A discharge in its two steps: the cradle clears and the record joins the staging queue (stated with the lift not IDLE, so
that no grant takes it at once); the gate shuts and the head closes, or is READY again with a new reservation (stated with
its channel IDLE and more than one free place in the log). -/
def Obligations.DischargeGoesToStaging : Prop :=
  ∀ (s : State) (h : HeadId) (n : Fin 16), s.Sized → (s.head h).state = .discharge →
    (s.input n).timer.isSome = true →
    (∀ seq, n.val = cradleLine h → (s.head h).cradleRecord = some seq → (s.input n).debounced = some true →
      (s.input n).raw = false → s.active (gateShutLine h) = false → s.lift.state ≠ .idle →
      ∃ t, exec (.debounceTimerExpiry n) s = .next t ∧
        t.head h = { s.head h with staging := (s.head h).staging ++ [seq], cradleRecord := none } ∧
        (∀ k, k ≠ h → t.head k = s.head k) ∧ t.log = s.log ∧ t.lift = s.lift ∧
        (t.output (gateOpenOutput h)).owner = false) ∧
    (n.val = gateShutLine h → (s.head h).cradleRecord = none → (s.input n).debounced = some false →
      (s.input n).raw = true →
      (∀ cause, (s.head h).closePending = some cause →
        ∃ t, exec (.debounceTimerExpiry n) s = .next t ∧
          t.head h = { s.head h with state := .closed, closePending := none, gateTimer := none, beamCount := 0 } ∧
          (∀ k, k ≠ h → t.head k = s.head k) ∧ t.log = s.log ∧
          (s.link.branch.notices.length < 32 → Notice.headClosed h (.cause cause) ∈ t.link.branch.notices)) ∧
      ((s.head h).closePending = none → (s.channel h).state = .idle → 2 ≤ s.logFree →
        ∃ t, exec (.debounceTimerExpiry n) s = .next t ∧
          t.head h = { s.head h with state := .ready, reservation := true, gateTimer := none, beamCount := 0 } ∧
          (∀ k, k ≠ h → t.head k = s.head k) ∧ t.log.records = s.log.records ∧
          t.log.reservations = s.log.reservations + 1 ∧ (t.output (flapReleaseOutput h)).owner = true ∧
          (t.output (intakeLampOutput h)).owner = true))

/-! ### Channels -/

/-- The warm-up timer ends phase RUNNING, the settle delay lets readings count, the idle timer powers the converter down, a
PACE trigger starts a conversion or waits, and the acquisition time's end lets a waiting trigger start. -/
def Obligations.ChannelTimersAct : Prop :=
  ∀ (s : State) (h : HeadId),
    let c := s.channel h
    let started := { c with
      conversion := some ⟨false, !s.cradle h⟩
      acquireTimer := some c.acquisition
      paceTimer := some c.interval
      waiting := false }
    (c.state = .warming .running → c.warmUpTimer.isSome = true →
      exec (.warmUpTimerExpiry h) s =
        .next (pump (s.setChannel h { c with state := .warming .done, warmUpTimer := none }))) ∧
    (∀ w, c.state = .weighing w → c.delayTimer.isSome = true →
      exec (.settleDelayExpiry h) s =
        .next (pump (s.setChannel h { c with state := .weighing { w with delayRun := true }, delayTimer := none }))) ∧
    (c.idleTimer.isSome = true →
      exec (.idleTimerExpiry h) s = .next (pump (s.setChannel h { c with
        state := .off
        latest := none
        gathered := ⟨0, 0, false, true⟩
        conversion := none
        waiting := false
        warmUpTimer := none
        paceTimer := none
        acquireTimer := none
        idleTimer := none
        zeroTimer := none
        delayTimer := none
        settleTimer := none }))) ∧
    (c.paceTimer.isSome = true → c.acquireTimer = none →
      exec (.paceTimerExpiry h) s = .next (pump (s.setChannel h started))) ∧
    (c.paceTimer.isSome = true → c.acquireTimer.isSome = true →
      exec (.paceTimerExpiry h) s = .next (pump (s.setChannel h { c with paceTimer := none, waiting := true }))) ∧
    (c.acquireTimer.isSome = true → c.waiting = true →
      exec (.acquisitionTimeElapsed h) s = .next (pump (s.setChannel h started))) ∧
    (c.acquireTimer.isSome = true → c.waiting = false →
      exec (.acquisitionTimeElapsed h) s = .next (pump (s.setChannel h { c with acquireTimer := none })))

/-- A conversion's code joins the partial reading; with the last of the 2^k codes in IDLE the reading completes and becomes
the latest reading, its average floored after half is added and its mass by the table of R35. -/
def Obligations.CodesBecomeReadings : Prop :=
  ∀ (s : State) (h : HeadId) (code : ConverterCode) (v : Conversion),
    let c := s.channel h
    let limit : Bool := code.toInt = -131072 ∨ code.toInt = 131071
    let g : PartialReading := ⟨c.gathered.count + 1, c.gathered.sum + code.toInt, c.gathered.saturated || limit,
      c.gathered.clear && v.clear⟩
    c.conversion = some v → v.dropped = false →
    (g.count < 2 ^ c.exponent →
      exec (.conversionComplete h code) s = .next (pump (s.setChannel h { c with conversion := none, gathered := g }))) ∧
    (c.state = .idle → 2 ^ c.exponent ≤ g.count →
      let average := if c.settings.exponent = 0 then g.sum
        else (g.sum + 2 ^ (c.settings.exponent - 1)) / 2 ^ c.settings.exponent
      let unclamped := roundAway ((average - c.zero) * c.span) 65536
      exec (.conversionComplete h code) s = .next (pump (s.setChannel h { c with
        conversion := none
        gathered := ⟨0, 0, false, true⟩
        latest := some {
          average := average
          saturated := g.saturated
          clear := g.clear
          warmUp := false
          unclamped := unclamped
          mass := if unclamped < 0 then 0 else if 25000000 < unclamped then 25000000 else unclamped.toNat
          flag := if unclamped < 0 then .negative else if 25000000 < unclamped then .high else .plain } })))

/-- The quotients of R34 and R35: the average code is the floor of (sum + 2^(k−1)) / 2^k, and a mass is the nearest whole
milligram, a tie going away from zero. -/
def Obligations.RoundingIsToTheNearest : Prop :=
  (∀ (k : Nat) (sum : Int), 1 ≤ k →
    averageCode k sum * 2 ^ k ≤ sum + 2 ^ (k - 1) ∧ sum + 2 ^ (k - 1) < (averageCode k sum + 1) * 2 ^ k) ∧
  (∀ sum : Int, averageCode 0 sum = sum) ∧
  (∀ (num : Int) (den : Nat), 0 < den →
    let q := roundAway num den
    2 * (q * den - num).natAbs ≤ den ∧ (2 * (q * den - num).natAbs = den → num.natAbs ≤ (q * den).natAbs))

/-- The first reading completed with the warm-up DONE, not saturated and with the cradle clear throughout, captures the zero:
its own mass is then 0, the channel is IDLE, and its WARMING head takes a reservation and is READY. Where the log has more
than one free place that is all, but that the low-water flag is set where the free count falls to the threshold; where it
takes the last place, log full is signalled: every head then in READY receives close pending with cause LOG_FULL, and with
its flap shut gives its reservation back and closes, with its flap open stays in READY; a head in any other state is not
reached. -/
def Obligations.WarmUpEndsInReady : Prop :=
  ∀ (s : State) (h : HeadId) (code : ConverterCode) (v : Conversion),
    let c := s.channel h
    s.Sized → (s.head h).state = .warming → c.state = .warming .done → c.conversion = some v → v.dropped = false →
    2 ^ c.settings.exponent ≤ c.gathered.count + 1 → c.gathered.clear = true → v.clear = true →
    c.gathered.saturated = false → code.toInt ≠ -131072 → code.toInt ≠ 131071 → c.refFault = false →
    s.cradle h = false → s.service.step = none → 1 ≤ s.logFree →
    ∃ t, exec (.conversionComplete h code) s = .next t ∧
      (t.channel h).state = .idle ∧
      (t.channel h).zero = averageCode c.settings.exponent (c.gathered.sum + code.toInt) ∧
      (t.channel h).zeroDrift = false ∧ (t.channel h).latest.map (·.mass) = some 0 ∧
      (t.channel h).latest.map (·.flag) = some .plain ∧ (t.channel h).span = c.span ∧
      (t.channel h).zeroTimer = some c.settings.zeroInterval ∧ (t.channel h).warmUpTimer = none ∧
      t.log.records = s.log.records ∧ t.log.nextSeq = s.log.nextSeq ∧
      (2 ≤ s.logFree → t.head h = { s.head h with state := .ready, reservation := true } ∧
        (∀ k, k ≠ h → t.head k = s.head k ∧ t.channel k = s.channel k) ∧
        t.log = { s.log with
          reservations := s.log.reservations + 1, lowFlag := s.log.lowFlag || decide (s.logFree - 1 ≤ s.log.lowWater) } ∧
        (t.output (flapReleaseOutput h)).owner = true) ∧
      (s.logFree = 1 → ∀ k,
        let waits := k = h ∨ (s.head k).state = .ready
        let first : CloseCause := (s.head k).closePending.getD .logFull
        let ready : Head := if k = h then { s.head k with state := .ready, reservation := true } else s.head k
        (¬waits → t.head k = s.head k ∧ t.channel k = s.channel k) ∧
        (waits → s.active (intakeShutLine k) = true →
          t.head k = { ready with state := .closed, closePending := none, reservation := false } ∧
          (t.output (flapReleaseOutput k)).owner = false ∧
          (s.link.branch.notices.length ≤ 20 → Notice.headClosed k (.cause first) ∈ t.link.branch.notices)) ∧
        (waits → s.active (intakeShutLine k) = false →
          t.head k = { ready with closePending := some first } ∧ (t.output (flapReleaseOutput k)).owner = true ∧
          (t.output (intakeLampOutput k)).owner = false))

/-- A weighing of a head in EXAMINE ends, and the channel is IDLE: settled at the reading that brings the stable count to
the settle count, or UNSETTLED at the settle timer's expiry, OVERRANGE after a saturated or high reading and TIMEOUT
otherwise. With the tag window still open the head holds the outcome. -/
def Obligations.WeighingEndsWithItsOutcome : Prop :=
  ∀ (s : State) (h : HeadId) (w : WeighRecord),
    let c := s.channel h
    s.Sized → (s.head h).state = .examine → (s.head h).windowDone = false → c.state = .weighing w → w.requester = .head →
    (∀ (code : ConverterCode) (v : Conversion) (p : Reading),
      let g := c.gathered.sum + code.toInt
      let r := makeReading (averageCode w.exponent g) c.zero c.span
        (c.gathered.saturated || isSaturated code.toInt) (c.gathered.clear && v.clear) false
      c.conversion = some v → v.dropped = false → 2 ^ w.exponent ≤ c.gathered.count + 1 → w.delayRun = true →
      w.previous = some p → w.count ≤ w.stable + 1 → p.saturated = false → p.flag ≠ .high → r.saturated = false →
      r.flag ≠ .high → r.mass ≤ p.mass + w.band → p.mass ≤ r.mass + w.band →
      ∃ t, exec (.conversionComplete h code) s = .next t ∧
        t.head h = { s.head h with weighing := some (.settled r.mass (decide (r.flag = .negative))) } ∧
        (t.channel h).state = .idle ∧ (t.channel h).latest = some r ∧ (t.channel h).settleTimer = none ∧
        (t.channel h).zero = c.zero ∧ t.log = s.log ∧ ∀ k, k ≠ h → t.head k = s.head k ∧ t.channel k = s.channel k) ∧
    (c.settleTimer.isSome = true →
      ∃ t, exec (.settleTimerExpiry h) s = .next t ∧
        t.head h = { s.head h with weighing := some (.unsettled
          (if w.anyReading = true ∧ (∃ r, c.latest = some r ∧ (r.saturated = true ∨ r.flag = .high))
            then .overrange else .timeout)) } ∧
        (t.channel h).state = .idle ∧ (t.channel h).latest = c.latest ∧ (t.channel h).settleTimer = none ∧
        (t.channel h).zero = c.zero ∧ t.log = s.log ∧ ∀ k, k ≠ h → t.head k = s.head k ∧ t.channel k = s.channel k)

/-- At each zero interval in IDLE the timer is restarted, and with the cradle clear, the reference sound and a clear latest
reading the zero is evaluated: inside the zero window it becomes the reading's average code, otherwise the first failure of
a run sets zero drift with its notice. -/
def Obligations.ZeroIsTracked : Prop :=
  ∀ (s : State) (h : HeadId),
    let c := s.channel h
    let timed := { c with zeroTimer := some c.settings.zeroInterval }
    c.state = .idle → c.zeroTimer.isSome = true →
    (s.cradle h = true ∨ c.refFault = true ∨ (∀ r, c.latest = some r → r.clear = false) →
      exec (.zeroIntervalExpiry h) s = .next (pump (s.setChannel h timed))) ∧
    (∀ r, s.cradle h = false → c.refFault = false → c.latest = some r → r.clear = true →
      (r.saturated = false → r.unclamped.natAbs ≤ c.settings.zeroWindow →
        exec (.zeroIntervalExpiry h) s =
          .next (pump (s.setChannel h { timed with zero := r.average, zeroDrift := false }))) ∧
      (r.saturated = true ∨ c.settings.zeroWindow < r.unclamped.natAbs →
        (c.zeroDrift = true → exec (.zeroIntervalExpiry h) s = .next (pump (s.setChannel h timed))) ∧
        (c.zeroDrift = false → exec (.zeroIntervalExpiry h) s = .next (pump
          (notify (.zeroDrift h (if r.saturated = true then none else some r.unclamped))
            (s.setChannel h { timed with zeroDrift := true }))))))

/-! ### The auxiliary scanner -/

/-- The scan period restarts itself and starts a scan in IDLE alone; each input waits its settle time and is then converted,
in order; nothing is judged before the fourth. -/
def Obligations.ScannerConvertsInOrder : Prop :=
  ∀ s : State,
    let c := s.scanner
    (c.state = .idle → exec .scanPeriodExpiry s = .next (pump { s with scanner := { c with
      periodTimer := some c.settings.scanPeriod, state := .scanning [] c.settings.auxSettle false } })) ∧
    (c.state ≠ .idle → exec .scanPeriodExpiry s = .next (pump { s with scanner := { c with
      periodTimer := some c.settings.scanPeriod } })) ∧
    (∀ values settle, c.state = .scanning values settle false →
      exec .auxSettleElapsed s = .next (pump { s with scanner := { c with state := .scanning values settle true } })) ∧
    (∀ values settle v, c.state = .scanning values settle true → values.length < 3 → 0 ≤ v → v ≤ 6000 →
      exec (.auxConversionComplete v) s =
        .next (pump { s with scanner := { c with state := .scanning (values ++ [v]) settle false } }))

/-- The end of a scan replaces the four readings together and judges them. A channel's reference fault is set exactly where
its reference is outside the limits; newly set, it ends a weighing in progress UNSETTLED with cause REF_FAULT, gives the
head close pending, sends REF_FAULT and latches its alarm cause. TEMP_HIGH is set above the limit and cleared below it less
2.0 °C; newly set, it gives every head close pending, sends TEMP_HIGH and latches its alarm cause. Close pending leaves a
CLOSED head as it is, closes a WARMING head and a READY head with its flap shut, and is kept by every other, an earlier
cause kept; a head it does not reach is left as it is. It is stated where the tag window of a head in EXAMINE is still
open, and its notices with twelve free places in their queues. (That the references are judged before the temperature, so
that of two new causes REF_FAULT is recorded, is the model's choice: notes/assumptions/12.) -/
def Obligations.EndOfScanJudges : Prop :=
  ∀ (s : State) (a b c v : Int) (settle : Nat), s.scanner.state = .scanning [a, b, c] settle true →
    -400 ≤ v → v ≤ 1250 → (∀ h, (s.head h).state = .examine → (s.head h).windowDone = false) →
    let limits := s.scanner.settings
    let reference : HeadId → Int := fun h => match h with
      | .a => a
      | .b => b
      | .c => c
    let outside := fun h => reference h < limits.refLow ∨ limits.refHigh < reference h
    let failed := fun h => (s.channel h).refFault = false ∧ outside h
    let hot := s.scanner.tempHigh = false ∧ limits.tempLimit < v
    ∃ t, exec (.auxConversionComplete v) s = .next t ∧
      t.scanner.state = .idle ∧ t.scanner.readings = some ⟨a, b, c, v⟩ ∧ t.scanner.settings = limits ∧
      (t.scanner.tempHigh = true ↔ hot ∨ (s.scanner.tempHigh = true ∧ limits.tempLimit - 20 ≤ v)) ∧
      (hot → t.alarm.latched.tempHigh = true ∧
        (s.link.branch.notices.length ≤ 20 → Notice.tempHigh v ∈ t.link.branch.notices)) ∧
      ∀ h,
        ((t.channel h).refFault = true ↔ outside h) ∧
        (failed h → t.alarm.latched.refFault = true ∧
          (s.link.branch.notices.length ≤ 20 → Notice.refFault h (reference h) ∈ t.link.branch.notices)) ∧
        (∀ w kind, failed h → (s.channel h).state = .weighing w → w.requester = .service →
          s.service.step = some ⟨h, kind, .weighing⟩ →
          (t.channel h).state = .idle ∧ t.service.step = none ∧ (s.link.service.notices.length < 8 →
            Notice.calDone h kind.name (.unsettled .refFault) ∈ t.link.service.notices)) ∧
        (¬failed h → ¬hot → t.head h = s.head h) ∧
        (failed h ∨ hot →
          let first : CloseCause := (s.head h).closePending.getD (if failed h then .refFault else .tempHigh)
          let sent := s.link.branch.notices.length ≤ 20 →
            Notice.headClosed h (.cause first) ∈ t.link.branch.notices
          ((s.head h).state = .closed → t.head h = s.head h) ∧
          ((s.head h).state = .warming → (t.head h).state = .closed ∧ (t.head h).closePending = none ∧ sent ∧
            ((∃ phase, (s.channel h).state = .warming phase) → s.service.step = none →
              (t.channel h).state = .off)) ∧
          ((s.head h).state = .ready → s.active (intakeShutLine h) = true →
            (t.head h).state = .closed ∧ (t.head h).closePending = none ∧ (t.head h).reservation = false ∧ sent) ∧
          ((s.head h).state ≠ .closed → (s.head h).state ≠ .warming →
            ¬((s.head h).state = .ready ∧ s.active (intakeShutLine h) = true) →
            let ended := failed h ∧ (s.head h).state = .examine ∧
              ∃ w, (s.channel h).state = .weighing w ∧ w.requester = .head
            ∃ outcome, t.head h = { s.head h with closePending := some first, weighing := outcome } ∧
              (ended → outcome = some (.unsettled .refFault) ∧ (t.channel h).state = .idle) ∧
              (¬ended → outcome = (s.head h).weighing)))

/-! ### The rack drive and the lift -/

/-- DELIVERED naming the in-flight bin stores the record at the clock. With every staging queue empty the lift is then IDLE.
Otherwise the first head in the order of the arbitration whose front record fits a bin, or overflows to one, is granted: its
record is IN_TRANSFER in that bin, marked where it overflowed, and the bin is charged with it; the first overflow of a zone
sets its zone-full flag with ZONE_FULL, and a plain record placed in a bin of its own kind clears it; the MOVE is ordered,
the lift is MOVING, and a head in HOLD goes on to DISCHARGE. Where no front record fits, the lift stays IDLE, and the first
head whose record fits nowhere sets the rack-full flag, with RACK_FULL where the flag was clear. (Stated outside
DAY_PENDING; a head granted out of HOLD with its cradle still occupied.) -/
def Obligations.DeliveryStoresAndGrants : Prop :=
  ∀ (s : State) (f : InFlight) (granted now : Nat), s.lift.state = .moving f granted →
    s.lift.moveOutstanding.isSome = true → f.bin ≤ 59 → s.clock = some now → s.mode ≠ .dayPending →
    ((∀ h, (s.head h).staging = []) →
      exec (.delivered f.bin) s = .next (pump (notify (.depositStored f.seq f.head f.bin now .drive) { s with
        log := { s.log with records := s.log.records.map fun r =>
          if r.seq = f.seq then { r with state := .stored, storedTime := some now } else r }
        lift := { s.lift with state := .idle, transferTimer := none, moveOutstanding := none } }))) ∧
    (let last := s.lift.lastHead
     let after : List HeadId := match last with
      | .a => [.b, .c, .a]
      | .b => [.c, .a, .b]
      | .c => [.a, .b, .c]
     let again : Bool := s.lift.mode = .run ∧ s.lift.runCount < s.lift.runLimit
     let order := if again then last :: after.take 2 else after
     let blocked := fun k : HeadId => ∃ y,
      s.log.records.find? (fun r => (s.head k).staging.head? == some r.seq) = some y ∧ s.fitOf y = .nowhere
     ∀ (before behind : List HeadId) (h : HeadId) (x : Record), order = before ++ h :: behind →
      let plain : Bool := x.verdict = .accepted ∧ x.late = false
      let mass := x.measured.getD 20000000
      (∀ (rest : List Nat) (b : Nat) (overflow : Bool), (∀ k ∈ before, (s.head k).staging = [] ∨ blocked k) →
        (s.head h).staging = x.seq :: rest → s.record x.seq = some x → x.seq ≠ f.seq →
        s.fitOf x = (if overflow then .overflow b else .first b) →
        ((s.head h).state = .hold → s.cradle h = true) →
        let zone := (s.rack.zoneMap[match x.advice with
          | some i => ((s.advices.entries.find? fun (e : AdviceEntry) => e.index == i).map fun (e : AdviceEntry) =>
              e.serviceClass).getD 0
          | none => 0]?).getD 0
        ∃ t, exec (.delivered f.bin) s = .next t ∧
          t.lift = { s.lift with
            state := .moving ⟨x.seq, h, b⟩ now
            lastHead := h
            runCount := if again = true ∧ h = last then s.lift.runCount + 1 else 1
            transferTimer := some s.lift.transferTime
            moveOutstanding := some b
            orders := s.lift.orders ++ [.move h b] } ∧
          t.log = { s.log with records := s.log.records.map fun r =>
            if r.seq = x.seq then { r with bin := some b, overflow := r.overflow || overflow, state := .inTransfer }
            else if r.seq = f.seq then { r with state := .stored, storedTime := some now } else r } ∧
          t.rack = { s.rack with
            bins := s.rack.bins.modify b fun v => { v with count := v.count + 1, mass := v.mass + mass }
            zoneFull := if overflow then s.rack.zoneFull.set zone true
              else if plain then s.rack.zoneFull.set zone false else s.rack.zoneFull
            rackFull := false } ∧
          (overflow = true → s.rack.zoneFull[zone]? = some false → s.link.branch.notices.length ≤ 20 →
            Notice.zoneFull zone x.seq b ∈ t.link.branch.notices) ∧
          t.head h = (if (s.head h).state = .hold ∧ rest.length < 2 then
            { s.head h with staging := rest, state := .discharge, gateTimer := some (s.head h).latched.gate }
            else { s.head h with staging := rest }) ∧
          (∀ k, k ≠ h → t.head k = s.head k) ∧
          t.service.stats = { s.service.stats with transfers := countUp s.service.stats.transfers }) ∧
      ((∀ k ∈ before, (s.head k).staging = []) →
        s.log.records.find? (fun r => (s.head h).staging.head? == some r.seq) = some x → s.fitOf x = .nowhere →
        (∀ k ∈ behind, (s.head k).staging = [] ∨ blocked k) →
        ∃ t, exec (.delivered f.bin) s = .next t ∧
          t.lift = { s.lift with state := .idle, transferTimer := none, moveOutstanding := none } ∧
          t.rack = { s.rack with rackFull := true } ∧ t.heads = s.heads ∧
          t.log = { s.log with records := s.log.records.map fun r =>
            if r.seq = f.seq then { r with state := .stored, storedTime := some now } else r } ∧
          (s.rack.rackFull = false → s.link.branch.notices.length ≤ 20 →
            Notice.rackFull h x.seq mass plain ∈ t.link.branch.notices)))

/-- A transfer ends in FAULT on a DELIVERED of another bin, a MOVE_FAULT, or the transfer timer's expiry: the in-flight
record is kept and becomes TRANSFER_FAULT, the fault is counted, sent and latched; the MOVE stays outstanding only after the
timer's expiry. -/
def Obligations.TransferFaultsKeepTheRecord : Prop :=
  ∀ (s : State) (f : InFlight) (granted : Nat) (cmd : Instr) (detail : LiftFaultDetail) (cause : LiftFaultCause)
    (outstanding : Option Nat), s.lift.state = .moving f granted →
    (∃ bin, cmd = .delivered bin ∧ bin ≤ 59 ∧ bin ≠ f.bin ∧ s.lift.moveOutstanding.isSome = true ∧
        detail = .wrongBin bin ∧ cause = .wrongBin ∧ outstanding = none) ∨
      (∃ code, cmd = .moveFault code ∧ s.lift.moveOutstanding.isSome = true ∧ detail = .drive code ∧
        cause = .drive ∧ outstanding = none) ∨
      (cmd = .transferTimerExpiry ∧ s.lift.transferTimer.isSome = true ∧ detail = .timeout ∧ cause = .timeout ∧
        outstanding = s.lift.moveOutstanding) →
    ∃ t, exec cmd s = .next t ∧
      t.lift = { s.lift with
        state := .fault cause f, transferTimer := none, moveOutstanding := outstanding } ∧
      t.log = { s.log with records := s.log.records.map fun r =>
        if r.seq = f.seq then { r with state := .transferFault } else r } ∧
      t.rack = s.rack ∧ (∀ h, t.head h = s.head h) ∧ t.release = s.release ∧ t.alarm.latched.liftFault = true ∧
      t.service.stats.liftFaults = countUp s.service.stats.liftFaults ∧
      (s.link.branch.notices.length < 32 → Notice.liftFault detail f.seq f.head f.bin ∈ t.link.branch.notices)

/-- A report that is not matched changes nothing but the drive error count; a report taken in FAULT with the MOVE still
outstanding is a late report, which is sent on and ends the order alone. -/
def Obligations.UnmatchedReportsAreCounted : Prop :=
  ∀ s : State,
    let counted := { s with service := { s.service with stats :=
      { s.service.stats with driveErrors := countUp s.service.stats.driveErrors } } }
    exec .unknownDriveReport s = .next (pump counted) ∧
    (∀ bin, 59 < bin ∨ s.lift.moveOutstanding = none ∨ s.lift.state = .idle →
      exec (.delivered bin) s = .next (pump counted)) ∧
    (∀ code, s.lift.moveOutstanding = none ∨ s.lift.state = .idle →
      exec (.moveFault code) s = .next (pump counted)) ∧
    (∀ bin, bin ∉ s.lift.unlockList → exec (.binOpened bin) s = .next (pump counted) ∧
      exec (.unlockFault bin) s = .next (pump counted)) ∧
    (∀ bin empty, (∀ since, s.lock bin ≠ some (.unlocked since)) →
      exec (.binShut bin empty) s = .next (pump counted)) ∧
    (∀ cause f, s.lift.state = .fault cause f → s.lift.moveOutstanding.isSome = true →
      let late := { s with lift := { s.lift with moveOutstanding := none } }
      (∀ bin, bin ≤ 59 → exec (.delivered bin) s =
        .next (pump (notify (.driveLateReport (.delivered bin) f.seq f.bin) late))) ∧
      (∀ code, exec (.moveFault code) s =
        .next (pump (notify (.driveLateReport (.moveFault code) f.seq f.bin) late))))

/-- An unlock answered by BIN_OPENED leaves the bin UNLOCKED since now with its open-long timer running; one that fails, by
UNLOCK_FAULT or at the unlock timer, leaves it LOCKED with its record gone and UNLOCK_FAILED sent. The failures are stated
with every staging queue empty, so that the room made lets no bag go. -/
def Obligations.UnlockOpensOrFails : Prop :=
  ∀ (s : State) (bin now : Nat), bin ∈ s.lift.unlockList → s.clock = some now →
    exec (.binOpened bin) s = .next (pump { s with
      lift := { s.lift with unlockList := s.lift.unlockList.filter fun b => b != bin }
      rack := { s.rack with bins := s.rack.bins.modify bin fun b => { b with lock := .unlocked now } }
      release := { s.release with unlocks := s.release.unlocks.map fun u =>
        if u.bin = bin then { u with timer := some (s.release.settings.openLimit * 60), openLong := false } else u } }) ∧
    (∀ u, s.release.unlocks.find? (fun u => u.bin == bin) = some u → (∀ h, (s.head h).staging = []) →
      let failed := { s with
        lift := { s.lift with unlockList := s.lift.unlockList.filter fun b => b != bin }
        rack := { s.rack with bins := s.rack.bins.modify bin fun b => { b with lock := .locked } }
        release := { s.release with unlocks := s.release.unlocks.filter fun u => u.bin != bin } }
      exec (.unlockFault bin) s =
        .next (pump (notify (.unlockFailed bin u.requesting u.confirming .drive) failed)) ∧
      (s.lock bin = some .unlocking → u.timer.isSome = true → exec (.unlockTimerExpiry bin) s =
        .next (pump (notify (.unlockFailed bin u.requesting u.confirming .timeout) failed))))

/-- BIN_SHUT of an UNLOCKED bin relocks it and spends its unlock record: with the floor empty every STORED record naming it
is RELEASED at the clock with the officer pair and the bin is emptied; otherwise its bags stay on the books. Stated with
every staging queue empty. -/
def Obligations.BinShutReleasesItsRecords : Prop :=
  ∀ (s : State) (bin since now : Nat) (u : UnlockRecord), s.lock bin = some (.unlocked since) →
    s.release.unlocks.find? (fun u => u.bin == bin) = some u → s.clock = some now →
    (∀ h, (s.head h).staging = []) →
    let spent := { s with release := { s.release with unlocks := s.release.unlocks.filter fun u => u.bin != bin } }
    (exec (.binShut bin true) s = .next (pump
      (notify (.binReleased bin
          (s.log.records.countP fun r => decide (r.bin = some bin) && decide (r.state = .stored)) now
          u.requesting u.confirming)
        { spent with
          rack := { s.rack with bins := s.rack.bins.modify bin fun b => { b with lock := .locked, count := 0, mass := 0 } }
          log := { s.log with
            records := s.log.records.map fun r =>
              if r.bin = some bin ∧ r.state = .stored then
                { r with state := .released, releaseTime := some now, officers := some (u.requesting, u.confirming) }
              else r } }))) ∧
    (∀ b, s.bin bin = some b → exec (.binShut bin false) s = .next (pump
      (notify (.binNotEmpty bin b.count u.requesting u.confirming)
        { spent with rack := { s.rack with bins := s.rack.bins.modify bin fun b => { b with lock := .locked } } })))

/-- The confirm timer's expiry ends the reservation with reason EXPIRED and relocks its bin (stated with every staging queue
empty); the open-long timer's expiry marks the bin and latches its alarm cause, the bin staying UNLOCKED; and an order sent
whole makes way for the next. -/
def Obligations.ReleaseTimersExpire : Prop :=
  ∀ (s : State) (bin : Nat),
    (∀ v, s.release.reservations.find? (fun v => v.bin == bin) = some v → (∀ h, (s.head h).staging = []) →
      exec (.confirmTimerExpiry bin) s = .next (pump (notify (.reservationEnded bin v.officer .expired) { s with
        release := { s.release with reservations := s.release.reservations.filter fun x => x.bin != bin }
        rack := { s.rack with bins := s.rack.bins.modify bin fun b => { b with lock := .locked } } }))) ∧
    (∀ u since, s.lock bin = some (.unlocked since) →
      s.release.unlocks.find? (fun u => u.bin == bin) = some u → u.timer.isSome = true →
      ∃ t, exec (.openLongTimerExpiry bin) s = .next t ∧ t.rack = s.rack ∧ t.log = s.log ∧
        t.alarm.latched.binOpenLong = true ∧
        t.release = { s.release with unlocks := s.release.unlocks.map fun u =>
          if u.bin = bin then { u with openLong := true, timer := none } else u } ∧
        (s.link.branch.notices.length < 32 →
          Notice.binOpenLong bin since u.requesting u.confirming ∈ t.link.branch.notices)) ∧
    exec .rackDriveOrderSent s = .next (pump { s with lift := { s.lift with orders := s.lift.orders.drop 1 } })

/-! ### Outputs, alarm and clock -/

/-- The readback check: a match clears the fault flag, the first mismatch sets it with OUTPUT_FAULT, and a mismatch on a
FLAP_RELEASE or GATE_OPEN puts a head that is not in FAULT there; the pulse timer's expiry lets the ALARM line fall. (That
a head which awaits its restart decision stays CLOSED is the model's choice: notes/assumptions/19.) -/
def Obligations.ReadbackIsChecked : Prop :=
  ∀ s : State,
    (∀ (n : Fin 15) (level : Bool),
      let o := s.output n
      let read := { o with readback := level, check := none }
      o.check.isSome = true →
      (level = o.driven →
        exec (.checkTimerExpiry n level) s = .next (pump (s.setOutput n { read with fault := false }))) ∧
      (level ≠ o.driven → (n.val = 12 ∨ n.val = 13 ∨ n.val = 14 ∨ n.val % 4 = 2 ∨ n.val % 4 = 3) →
        (o.fault = true → exec (.checkTimerExpiry n level) s = .next (pump (s.setOutput n read))) ∧
        (o.fault = false → s.Sized → exec (.checkTimerExpiry n level) s =
          .next (pump (notify (.outputFault n o.driven level) (s.setOutput n { read with fault := true }))))) ∧
      (∀ h, level ≠ o.driven → (n.val = flapReleaseOutput h ∨ n.val = gateOpenOutput h) →
        (s.head h).state.isFault = false → ((s.head h).state = .closed → (s.head h).starting = false) →
        ∃ t, exec (.checkTimerExpiry n level) s = .next t ∧
          (t.head h).state = .fault .outputFault ∧ (t.head h).reservation = (s.head h).reservation ∧
          (t.head h).cradleRecord = (s.head h).cradleRecord ∧ (t.head h).staging = (s.head h).staging ∧
          (∀ k, k ≠ h → t.head k = s.head k) ∧ t.log = s.log) ∧
      (∀ h, level ≠ o.driven → (n.val = flapReleaseOutput h ∨ n.val = gateOpenOutput h) →
        (s.head h).state = .closed → (s.head h).starting = true →
        ∃ t, exec (.checkTimerExpiry n level) s = .next t ∧ t.heads = s.heads ∧ t.log = s.log)) ∧
    (s.Sized → s.alarm.pulseTimer.isSome = true → ∃ t, exec .pulseTimerExpiry s = .next t ∧
      t.alarm = { s.alarm with pulseTimer := none } ∧ (t.output alarmOutput).owner = false ∧
      (∀ n, n ≠ alarmOutput → t.output n = s.output n) ∧ t.link.branch.notices = s.link.branch.notices ∧
      t.heads = s.heads)

/-- The clock counts one second, but not past its maximum, and not while UNSET; at a multiple of 60 the PENDING advices
whose time has come are freed, each with its notice in rising order of index, and the schedule is then compared: at its
night minute a refused change is reported missed, at its day minute NIGHT gives way to DAY_PENDING, and to DAY at once with
every head CLOSED, nothing in staging and the lift IDLE. (That the sweep comes first is the model's order:
notes/assumptions/22.) -/
def Obligations.ClockCountsAndSweeps : Prop :=
  ∀ s : State,
    (s.clock = none ∨ s.clock = some 4294967295 → exec .clockSecond s = .next (pump s)) ∧
    (∀ x, s.clock = some x → x < 4294967295 → (x + 1) % 60 ≠ 0 →
      exec .clockSecond s = .next (pump { s with clock := some (x + 1) })) ∧
    (∀ x, s.clock = some x → x < 4294967295 → (x + 1) % 60 = 0 →
      let gone := fun e : AdviceEntry => decide (e.state = .pending) && decide (e.validUntil ≤ x + 1)
      let swept := (s.advices.entries.filter gone).foldl (fun u e => notify (.adviceExpired e.tag e.index) u)
        { s with
          clock := some (x + 1)
          advices := { s.advices with entries := s.advices.entries.filter fun e => !gone e } }
      let minute := (x + 1) / 60 % 1440
      let schedule := s.release.schedule
      (schedule.enabled = false ∨ (minute ≠ schedule.nightStart ∧ minute ≠ schedule.dayMinute) →
        exec .clockSecond s = .next (pump swept)) ∧
      (schedule.enabled = true → minute = schedule.nightStart → s.mode ≠ .night → 0 < s.rack.openBins →
        exec .clockSecond s = .next (pump (notify (.scheduleMissed .night .binsOpen) swept))) ∧
      (schedule.enabled = true → minute = schedule.dayMinute → minute ≠ schedule.nightStart → s.mode = .night →
        (∀ h, (s.head h).state = .closed ∧ (s.head h).staging = []) → s.lift.state = .idle →
        exec .clockSecond s = .next (pump (notify (.modeChanged .day .dayPending .schedule)
          (notify (.modeChanged .dayPending .night .schedule)
            { swept with release := { s.release with mode := .day } })))))

/-! ### The serial ports -/

/-- A whole frame, byte by byte, is handed on once and as it was sent: a port whose receiver is HUNTING and whose
transmitter has nothing to start takes the bytes of a frame of any kind, number and payload of at most 240 bytes, and ends
as if that frame had been handed on. -/
def Obligations.FrameArrivesWhole : Prop :=
  ∀ (p : PortId) (kind number : Byte) (payload : List Byte) (s : State), payload.length ≤ 240 →
    (s.port p).receiver = .hunting → pump s = s → s.pending = [] →
    Host.Core.run Sys2Proof.core (frameBytes kind number payload).length
        { s with pending := (frameBytes kind number payload).map (Instr.byteReceived p) } =
      .next (pump (handOn p kind number payload s))

/-- A frame whose check differs is discarded: one frame error at its port, the receiver HUNTING, nothing else. Outside a
frame a byte other than 0xA5 is dropped; a length above 240 and a gap discard the frame. -/
def Obligations.ReceiverDiscardsBadFrames : Prop :=
  ∀ (p : PortId) (s : State),
    let discarded := frameError p (s.setPort p { s.port p with receiver := .hunting })
    (∀ b, (s.port p).receiver = .hunting → b ≠ 0xA5#8 → exec (.byteReceived p b) s = .next (pump s)) ∧
    ((s.port p).receiver = .hunting → exec (.byteReceived p 0xA5#8) s =
      .next (pump (s.setPort p { s.port p with receiver := .inFrame [] }))) ∧
    (∀ b, (s.port p).receiver = .inFrame [] → 240 < b.toNat →
      exec (.byteReceived p b) s = .next (pump discarded)) ∧
    (∀ (kind number b1 b2 : Byte) (payload : List Byte), payload.length ≤ 240 →
      (s.port p).receiver = .inFrame (frameBody kind number payload ++ [b1]) →
      [b1, b2] ≠ checkBytes (crc16 (frameBody kind number payload)) →
      exec (.byteReceived p b2) s = .next (pump discarded)) ∧
    (∀ bytes, (s.port p).receiver = .inFrame bytes → exec (.interByteGap p) s = .next (pump discarded)) ∧
    ((s.port p).receiver = .hunting → exec (.interByteGap p) s = .next (pump s))

/-- The watch's expiry with the link UP makes it LOST, stops the timer and latches LINK_LOST; with policy CLOSE every head
receives close pending: a CLOSED head is unchanged, a WARMING head and a READY head with its flap shut close, every other
keeps the flag, with an earlier cause kept; with ADMIT the heads are left as they are. -/
def Obligations.WatchExpiryLosesTheLink : Prop :=
  ∀ s : State, s.link.lost = false → s.link.timer.isSome = true →
    ∃ t, exec .watchTimerExpiry s = .next t ∧ t.link.lost = true ∧ t.link.timer = none ∧
      t.alarm.latched.linkLost = true ∧ t.link.count = s.link.count ∧ t.link.unit = s.link.unit ∧
      t.link.policy = s.link.policy ∧ t.log.records = s.log.records ∧
      (s.link.policy = .keepOpen → t.heads = s.heads ∧ t.log = s.log) ∧
      (s.link.policy = .close → ∀ h,
        ((s.head h).state = .closed → t.head h = s.head h) ∧
        ((s.head h).state = .warming → (t.head h).state = .closed ∧ (t.head h).closePending = none) ∧
        ((s.head h).state = .ready → s.active (intakeShutLine h) = true →
          (t.head h).state = .closed ∧ (t.head h).closePending = none ∧ (t.head h).reservation = false) ∧
        ((s.head h).state ≠ .closed → (s.head h).state ≠ .warming →
          ¬((s.head h).state = .ready ∧ s.active (intakeShutLine h) = true) →
          t.head h = { s.head h with closePending := some ((s.head h).closePending.getD .linkLost) }))

/-- The frames a port sends. The transmitter sends the reply to the request in hand, whose kind is the request's plus 0x80,
whose number is the request's, and whose payload begins with the result; or the front notice, with its own kind and the
number 0. Every frame is a start byte, length, kind, number, payload and check. With the last byte a notice leaves its
queue; a reply takes its request out of the receive queue, and the next waiting request is then taken. The payload of a
HEAD_OPEN reply is the result and the outcome of each head in order, 0 or a refusal code; a MODE_SET reply ends in them. (The
bytes of a payload the manual does not lay out, the mode's among them, are free, and that an outcome is one byte is the
model's reading: notes/assumptions/37.) -/
def Obligations.SentFramesLeaveTheirQueues : Prop :=
  ∀ (p : PortId) (s : State),
    let frame := fun (kind number : Byte) (payload : List Byte) =>
      let body := BitVec.ofNat 8 payload.length :: kind :: number :: payload
      let check := crc16 body
      (0xA5 : Byte) :: (body ++ [(check >>> 8).setWidth 8, check.setWidth 8])
    (∀ c rest r rep, (s.port p).transmitter = .sendingReply → (s.port p).requests = c :: rest →
      requestOf c = some r → (s.port p).reply = some rep →
      ∃ payload, (s.port p).sending = some (frame (requestKind c + 0x80) r.number payload) ∧
        (∀ code, rep = .refused code → payload = [BitVec.ofNat 8 (refuseCode code)]) ∧
        (∀ body, rep = .ok body → payload.head? = some 0) ∧
        (∀ images next, rep = .ok (.records images next) → images.length ≤ 5 → next < 2 ^ 32 →
          ∃ b0 b1 b2 b3 : Byte, payload = 0 :: BitVec.ofNat 8 images.length :: (images.flatten ++ [b0, b1, b2, b3]) ∧
            b0.toNat + 256 * b1.toNat + 65536 * b2.toNat + 16777216 * b3.toNat = next) ∧
        (∀ bytes, rep = .ok (.adviceImage bytes) → payload = 0 :: bytes) ∧
        (let outcome : HeadId × Option Refuse → Byte := fun x => (x.2.map fun code => BitVec.ofNat 8 (refuseCode code)).getD 0
         (∀ v, rep = .ok (.headOutcomes v) → payload = 0 :: v.map outcome) ∧
         (∀ m v, rep = .ok (.mode m v) → ∃ mode, payload = 0 :: (mode ++ v.map outcome)))) ∧
    (∀ n rest, (s.port p).transmitter = .sendingNotice → (s.port p).notices = n :: rest →
      ∃ payload, (s.port p).sending = some (frame (noticeKind n) 0 payload) ∧ payload.length ≤ 240 ∧
        0x40 ≤ (noticeKind n).toNat ∧ (noticeKind n).toNat ≤ 0x5F) ∧
    (∀ (kind number : Byte) (payload : List Byte), isRequestKind kind = true →
      requestKind (requestOfFrame p kind number payload) = kind ∧
        ∃ r, requestOf (requestOfFrame p kind number payload) = some r ∧ r.port = p ∧ r.number = number) ∧
    ((s.port p).transmitter = .free → (s.port p).sending = none ∧ exec (.frameSent p) s = .next (pump s)) ∧
    ((s.port p).transmitter = .sendingNotice → exec (.frameSent p) s =
      .next (pump (s.setPort p { s.port p with transmitter := .free, notices := (s.port p).notices.drop 1 }))) ∧
    (∀ c rest, (s.port p).transmitter = .sendingReply → (s.port p).requests = c :: rest →
      (∀ r, c ≠ .restart r) → (∀ r, c ≠ .coldInitialise r) →
      let u := s.setPort p { s.port p with transmitter := .free, reply := none, requests := rest }
      (rest = [] → exec (.frameSent p) s = .next (pump u)) ∧
      (∀ d more, rest = d :: more → exec (.frameSent p) s =
        .next (pump ((takeRequest d u).1.setPort p
          { (takeRequest d u).1.port p with reply := some (takeRequest d u).2 }))))

/-- A request that arrives while its port's queue holds four is discarded with the overflow flag set; behind another it
waits; neither does anything else, but for the link watch, which sees the frame. Taken at once, a request kept to the
service port is refused WRONG_PORT on the branch link, and so is CLOCK_SET there once the clock is set; a kind the catalogue
does not list, and a payload that has not the request's form, are refused BAD_FORMAT. (A request command is a whole valid frame:
notes/assumptions/1.) -/
def Obligations.RequestsWaitOrAreTurnedAway : Prop :=
  ∀ (c : Instr) (r : Req) (s : State), requestOf c = some r →
    let u := frameSeen r.port s
    (4 ≤ (s.port r.port).requests.length →
      exec c s = .next (pump (u.setPort r.port { u.port r.port with receiveOver := true }))) ∧
    ((s.port r.port).requests ≠ [] → (s.port r.port).requests.length < 4 →
      exec c s = .next (pump (u.setPort r.port
        { u.port r.port with requests := (u.port r.port).requests ++ [c] }))) ∧
    ((s.port r.port).requests = [] →
      (r.port = .branch → (serviceOnly c = true ∨ ∃ v, c = .clockSet r v ∧ s.clock.isSome = true) →
        exec c s = .next ((s.holding r c).replied r (.refused .wrongPort))) ∧
      ((∃ k, c = .unlistedRequestKind r k) →
        exec c s = .next ((s.holding r c).replied r (.refused .badFormat))) ∧
      (r.port = .service → r.formOk = false →
        exec c s = .next ((s.holding r c).replied r (.refused .badFormat))))

/-- A request refused changes no state: whatever the command, unless it is RELEASE_CONFIRM, a refusal leaves everything as
it was when the request was taken, with the reply alone added. -/
def Obligations.RefusedRequestsChangeNothing : Prop :=
  ∀ (c : Instr) (r : Req) (s : State) (code : Refuse), requestOf c = some r → (s.port r.port).requests = [] →
    (∀ q bin officer, c ≠ .releaseConfirm q bin officer) → (takeRequest c (s.holding r c)).2 = .refused code →
    exec c s = .next ((s.holding r c).replied r (.refused code))

/-! ### Requests that read -/

/-- The requests that only read (IDENTIFY, AUX_READ, CLOCK_READ, STATS_READ, LIFT_READ, LOG_INFO) leave everything as it is, and
their replies show it. (The revision and the serial number of IDENTIFY are free values: notes/assumptions/8. That LIFT_READ
shows the unlock list in the order in which State keeps it, oldest order first, and that CLOCK_READ gives no minute of day
while the clock is UNSET, are the model's choices: notes/assumptions/36 and 45.) -/
def Obligations.PlainReadsShowTheState : Prop :=
  ∀ (s : State) (r : Req), s.takes r →
    exec (.identify r) s = .next ((s.holding r (.identify r)).replied r
      (.ok (.identity "ND-360" Config.revision Config.serial))) ∧
    exec (.auxRead r) s = .next ((s.holding r (.auxRead r)).replied r
      (.ok (.aux (decide (s.scanner.state ≠ .idle)) s.scanner.readings
        ⟨(s.channel .a).refFault, (s.channel .b).refFault, (s.channel .c).refFault⟩ s.scanner.tempHigh))) ∧
    exec (.clockRead r) s = .next ((s.holding r (.clockRead r)).replied r
      (.ok (.clock s.clock (s.clock.map fun x => x / 60 % 1440)))) ∧
    exec (.statsRead r) s = .next ((s.holding r (.statsRead r)).replied r (.ok (.stats s.service.stats))) ∧
    exec (.liftRead r) s = .next ((s.holding r (.liftRead r)).replied r (.ok (.lift
      { state := s.lift.state
        lastHead := s.lift.lastHead
        runCount := s.lift.runCount
        mode := s.lift.mode
        runLimit := s.lift.runLimit
        transferTime := s.lift.transferTime
        moveOutstanding := s.lift.moveOutstanding
        unlockList := s.lift.unlockList
        driveErrors := s.service.stats.driveErrors }))) ∧
    (∃ v, exec (.logInfo r) s = .next ((s.holding r (.logInfo r)).replied r (.ok (.logInfo v))) ∧
      v.count = s.log.records.length ∧ v.oldest = ((s.log.records.head?.map (·.seq)).getD 0) ∧
      v.newest = ((s.log.records.getLast?.map (·.seq)).getD 0) ∧
      v.free = 1024 - s.log.records.length - s.log.reservations ∧ v.reservations = s.log.reservations ∧
      v.nextSeq = s.log.nextSeq ∧ v.lowWater = s.log.lowWater ∧ v.lowFlag = s.log.lowFlag ∧
      (let inState := fun k : RecordState => s.log.records.countP fun x => decide (x.state = k)
       v.judged = inState .judged ∧ v.inTransfer = inState .inTransfer ∧ v.stored = inState .stored ∧
        v.transferFault = inState .transferFault ∧ v.withdrawn = inState .withdrawn ∧
        v.released = inState .released) ∧
      v.judged + v.inTransfer + v.stored + v.transferFault + v.withdrawn + v.released = s.log.records.length)

/-- The requests that read one item: the channel of a head, IDLE or refused where it is OFF; an advice entry by its index, or
a PENDING one by its tag; records of the log from one of them on; bins from one of them on; the settings groups HEAD, WEIGH
and TABLES. (That SETTINGS_READ of TABLES, which needs no head, does not look at the head it carries, and so answers for an
unknown one too, is the model's choice: notes/assumptions/43.) -/
def Obligations.SelectedReadsShowTheItem : Prop :=
  ∀ (s : State) (r : Req), s.takes r →
    (∀ n h, headOfCode n = some h → (s.channel h).state = .idle →
      ∃ v, exec (.weightRead r n) s = .next ((s.holding r (.weightRead r n)).replied r (.ok (.weight v))) ∧
        v.state = .idle ∧ v.zero = (s.channel h).zero ∧ v.span = (s.channel h).span ∧
        v.refFault = (s.channel h).refFault ∧ v.zeroDrift = (s.channel h).zeroDrift ∧
        v.latest.map (·.mass) = (s.channel h).latest.map (·.mass)) ∧
    (∀ n h, headOfCode n = some h → (s.channel h).state = .off →
      exec (.weightRead r n) s =
        .next ((s.holding r (.weightRead r n)).replied r (.refused .channelOff))) ∧
    (∀ i e, i ≤ 399 → s.advices.entries.find? (fun e => e.index == i) = some e →
      exec (.adviceQuery r (.byIndex i)) s = .next ((s.holding r (.adviceQuery r (.byIndex i))).replied r
        (.ok (.adviceImage (adviceImage s.judge e))))) ∧
    (∀ tag e, 1 ≤ tag → tag ≤ 999999999 →
      s.advices.entries.find? (fun e => decide (e.state = .pending) && decide (e.tag = tag)) = some e →
      exec (.adviceQuery r (.byTag tag)) s = .next ((s.holding r (.adviceQuery r (.byTag tag))).replied r
        (.ok (.adviceImage (adviceImage s.judge e))))) ∧
    (∀ before x after from_ n, s.log.records = before ++ x :: after → x.seq = from_ →
      (∀ y ∈ before, y.seq ≠ from_) → from_ ≤ 16777215 → 1 ≤ n → n ≤ 5 →
      exec (.logRead r from_ n) s = .next ((s.holding r (.logRead r from_ n)).replied r
        (.ok (.records (((x :: after).take n).map recordImage)
          ((((x :: after).drop n).head?.map (·.seq)).getD 0))))) ∧
    (∀ from_ n, (∀ y ∈ s.log.records, y.seq ≠ from_) → from_ ≤ 16777215 → 1 ≤ n → n ≤ 5 →
      exec (.logRead r from_ n) s = .next ((s.holding r (.logRead r from_ n)).replied r
        (.ok (.records ((s.log.records.take n).map recordImage)
          (((s.log.records.drop n).head?.map (·.seq)).getD 0))))) ∧
    (∀ first n, first ≤ 59 → 1 ≤ n → n ≤ 12 → ∃ v,
      exec (.binRead r first n) s = .next ((s.holding r (.binRead r first n)).replied r
        (.ok (.bins v s.rack.zoneFull s.rack.rackFull))) ∧
        v.map (·.2) = (s.rack.bins.drop first).take n ∧ ∀ x ∈ v, s.rack.bins[x.1]? = some x.2) ∧
    (∀ n h, headOfCode n = some h → exec (.settingsRead r (some .head) n) s =
      .next ((s.holding r (.settingsRead r (some .head) n)).replied r (.ok (.settings (.head (s.head h).settings))))) ∧
    (∀ n h, headOfCode n = some h → exec (.settingsRead r (some .weigh) n) s =
      .next ((s.holding r (.settingsRead r (some .weigh) n)).replied r
        (.ok (.settings (.weigh (s.channel h).settings))))) ∧
    (∀ n, exec (.settingsRead r (some .tables) n) s =
      .next ((s.holding r (.settingsRead r (some .tables) n)).replied r
        (.ok (.settings (.tables s.judge s.rack.zoneMap)))))

/-- STATUS reports and then clears the two overflow flags of its own port alone; RELEASE_READ, LINE_STATUS and SNAPSHOT
change nothing but the readback levels they sense and the index of the free values they draw (the model's choice:
notes/assumptions/6 and 7). (That RELEASE_READ lists the unlock records in the order of their confirms, as they stand in
State, is the model's choice: notes/assumptions/36.) -/
def Obligations.StatusAndSensedReads : Prop :=
  ∀ (s : State) (r : Req), s.takes r →
    (∃ v, exec (.status r) s = .next (((s.holding r (.status r)).setPort r.port
          { (s.holding r (.status r)).port r.port with receiveOver := false, noticeOver := false }).replied r
        (.ok (.status v))) ∧
      v.mode = s.mode ∧ v.clockSet = s.clock.isSome ∧ v.lift = s.lift.state ∧
      (∀ h, (v.heads.get h).state = (s.head h).state ∧ (v.heads.get h).closePending = (s.head h).closePending) ∧
      v.free = 1024 - s.log.records.length - s.log.reservations ∧ v.occupied = s.advices.entries.length ∧
      v.pendingAdvices + v.lodgedAdvices = v.occupied ∧ v.tempHigh = s.scanner.tempHigh ∧
      v.latched = s.alarm.latched ∧ v.service = s.service.state ∧
      v.serviceReceive = s.link.service.receiveOver ∧ v.branchReceive = s.link.branch.receiveOver ∧
      v.serviceNotice = s.link.service.noticeOver) ∧
    (∃ v, exec (.releaseRead r) s = .next ({ s.holding r (.releaseRead r) with
          free := s.free + s.release.reservations.length + s.release.unlocks.length }.replied r (.ok (.release v))) ∧
      v.mode = s.mode ∧ v.schedule = s.release.schedule ∧ v.active = s.release.active ∧
      v.pending = s.release.pending ∧ v.inside = insideWindow s.release.active s.clock ∧
      v.settings = s.release.settings ∧
      v.reservations.map (fun x => (x.bin, x.officer, x.made)) =
        s.release.reservations.map (fun x => (x.bin, x.officer, x.made)) ∧
      (∀ x ∈ v.reservations, ∃ y ∈ s.release.reservations, x.bin = y.bin ∧ x.secondsLeft ≤ y.timer) ∧
      v.unlocks.map (fun x => (x.bin, x.requesting, x.confirming, x.openLong)) =
        s.release.unlocks.map (fun x => (x.bin, x.requesting, x.confirming, x.openLong))) ∧
    (∃ v t, exec (.lineStatus r) s = .next (State.replied t r (.ok (.lines v
          (t.outputs.map fun o => ⟨o.driven, o.readback, o.fault⟩)))) ∧
      v = s.inputs.map (fun l => (l.debounced, l.event)) ∧
      t = { s.holding r (.lineStatus r) with outputs := t.outputs, free := s.free + 1 } ∧
      t.outputs.map (fun o => (o.owner, o.driven, o.fault, o.check)) =
        s.outputs.map (fun o => (o.owner, o.driven, o.fault, o.check))) ∧
    (∃ v t, exec (.snapshot r) s = .next (State.replied t r (.ok (.snapshot v))) ∧
      v.inputs = s.inputs.map (fun l => (l.raw, l.debounced, l.event)) ∧
      v.outputs = t.outputs.map (fun o => (o.owner, o.driven, o.readback, o.fault)) ∧
      v.service = s.service.state ∧ v.pattern = s.service.pattern ∧
      v.step = s.service.step.map (fun x => (x.head, x.kind.name, x.phase)) ∧
      t = { s.holding r (.snapshot r) with outputs := t.outputs, free := s.free + 1 } ∧
      t.outputs.map (fun o => (o.owner, o.driven, o.fault, o.check)) =
        s.outputs.map (fun o => (o.owner, o.driven, o.fault, o.check)))

/-! ### Requests that set or act -/

/-- The settings of the units are stored as given, at once, when every value is in its range: head, channel, scanner, link
watch and lift. A weigh channel that is not WEIGHING drops its partial reading where the exponent changes. -/
def Obligations.UnitSettingsAreStored : Prop :=
  ∀ (s : State) (r : Req), s.takes r →
    (∀ n h v, headOfCode n = some h → 5 ≤ v.intakeTimeout → v.intakeTimeout ≤ 120 → 500 ≤ v.descentTimeout →
      v.descentTimeout ≤ 5000 → 100 ≤ v.identWindow → v.identWindow ≤ 2000 → 1 ≤ v.gateTimeout → v.gateTimeout ≤ 10 →
      let u := s.holding r (.headSet r n v)
      exec (.headSet r n v) s =
        .next ((u.setHead h { u.head h with settings := v }).replied r (.ok .done))) ∧
    (∀ n h v, r.port = .service → headOfCode n = some h → weighSettingsOk v = true →
      let u := s.holding r (.weighSet r n v)
      let c := u.channel h
      (∀ w, c.state = .weighing w → exec (.weighSet r n v) s =
        .next ((u.setChannel h { c with settings := v }).replied r (.ok .done))) ∧
      ((∀ w, c.state ≠ .weighing w) → exec (.weighSet r n v) s = .next ((u.setChannel h { c with
        settings := v
        gathered := if v.exponent = c.settings.exponent then c.gathered else ⟨0, 0, false, true⟩ }).replied r
          (.ok .done)))) ∧
    (∀ v : ScanSettings, r.port = .service → 100 ≤ v.scanPeriod → v.scanPeriod ≤ 2000 → 5 ≤ v.auxSettle →
      v.auxSettle ≤ 200 → 3000 ≤ v.refLow → v.refLow ≤ 5000 → 5000 ≤ v.refHigh → v.refHigh ≤ 6000 →
      v.refLow < v.refHigh → 300 ≤ v.tempLimit → v.tempLimit ≤ 850 →
      let u := s.holding r (.scanSet r v)
      exec (.scanSet r v) s =
        .next ({ u with scanner := { u.scanner with settings := v } }.replied r (.ok .done))) ∧
    (∀ n unit policy, n ≤ 255 →
      let u := s.holding r (.linkSet r n (some unit) (some policy))
      exec (.linkSet r n (some unit) (some policy)) s = .next ({ u with link := { u.link with
        count := n
        unit := unit
        policy := policy
        timer := if n = 0 then none else some (if unit = WatchUnit.second then n else 60 * n) } }.replied r (.ok .done))) ∧
    (∀ mode n time, 1 ≤ n → n ≤ 8 → 5 ≤ time → time ≤ 120 →
      let u := s.holding r (.liftSet r (some mode) n time)
      exec (.liftSet r (some mode) n time) s = .next ({ u with lift := { u.lift with
        mode := mode
        runLimit := n
        transferTime := time } }.replied r (.ok .done)))

/-- The declaration tables, the schedule, the release window, the release settings and a line's report settings are stored
as given when every value is in its range; the new window waits as the pending one. -/
def Obligations.TablesAndTimesAreStored : Prop :=
  ∀ (s : State) (r : Req), s.takes r →
    (∀ code kind mass enabled, code ≤ 15 → 1 ≤ mass → mass ≤ 20000 →
      let u := s.holding r (.denomSet r code kind mass enabled)
      exec (.denomSet r code kind mass enabled) s = .next ({ u with judge := { u.judge with
        denominations := u.judge.denominations.set code ⟨kind, mass, enabled⟩ } }.replied r (.ok .done))) ∧
    (∀ bagType tare, bagType ≤ 3 → tare ≤ 2000000 →
      let u := s.holding r (.bagTypeSet r bagType tare)
      exec (.bagTypeSet r bagType tare) s = .next ({ u with judge := { u.judge with
        tares := u.judge.tares.set bagType tare } }.replied r (.ok .done))) ∧
    (∀ cls floor perMille, cls ≤ 3 → floor ≤ 200000 → perMille ≤ 100 →
      let u := s.holding r (.toleranceSet r cls floor perMille)
      exec (.toleranceSet r cls floor perMille) s = .next ({ u with judge := { u.judge with
        tolerances := u.judge.tolerances.set cls ⟨floor, perMille⟩ } }.replied r (.ok .done))) ∧
    (∀ night day enabled, night ≤ 1439 → day ≤ 1439 → night ≠ day →
      let u := s.holding r (.scheduleSet r night day enabled)
      exec (.scheduleSet r night day enabled) s = .next ({ u with release := { u.release with
        schedule := ⟨night, day, enabled⟩ } }.replied r (.ok .done))) ∧
    (∀ opens closes, opens ≤ 1439 → closes ≤ 1439 → opens ≠ closes →
      let u := s.holding r (.setReleaseWindow r opens closes)
      exec (.setReleaseWindow r opens closes) s = .next ({ u with release := { u.release with
        pending := some ⟨opens, closes⟩ } }.replied r (.ok .done))) ∧
    (∀ confirm unlock limit, 10 ≤ confirm → confirm ≤ 300 → 2 ≤ unlock → unlock ≤ 30 → 1 ≤ limit → limit ≤ 60 →
      let u := s.holding r (.releaseSet r confirm unlock limit)
      exec (.releaseSet r confirm unlock limit) s = .next ({ u with release := { u.release with
        settings := ⟨confirm, unlock, limit⟩ } }.replied r (.ok .done))) ∧
    (∀ n edges flag, n ≤ 15 →
      let u := s.holding r (.lineReportSet r n (some edges) flag)
      exec (.lineReportSet r n (some edges) flag) s = .next ((u.setInput n { u.input n with
        report := edges
        notify := flag }).replied r (.ok .done)))

/-- A value outside its range is refused PARAM_RANGE and changes nothing: HEAD_SET (R3), WEIGH_SET (R28), SCAN_SET (R46),
LINK_SET (R201), DENOM_SET, BAG_TYPE_SET and TOLERANCE_SET (R65 to R67), LOG_SET (R96), LOG_READ (R97), BIN_READ (R108),
LIFT_SET (R121), SCHEDULE_SET (R143), SET_RELEASE_WINDOW (R146), RELEASE_SET (R148) and OUTPUT_SET (R171). -/
def Obligations.OutOfRangeIsRefused : Prop :=
  ∀ (c : Instr) (r : Req) (s : State), s.takes r → r.port = .service → requestOf c = some r →
    ((∃ n h v, c = .headSet r n v ∧ headOfCode n = some h ∧
        (v.intakeTimeout < 5 ∨ 120 < v.intakeTimeout ∨ v.descentTimeout < 500 ∨ 5000 < v.descentTimeout ∨
          v.identWindow < 100 ∨ 2000 < v.identWindow ∨ v.gateTimeout < 1 ∨ 10 < v.gateTimeout)) ∨
      (∃ n h v, c = .weighSet r n v ∧ headOfCode n = some h ∧
        (v.warmUpTime < 1 ∨ 60 < v.warmUpTime ∨ v.idleTime < 1 ∨ 120 < v.idleTime ∨ v.sampleInterval < 2 ∨
          100 < v.sampleInterval ∨ v.acquisitionTime < 1 ∨ 50 < v.acquisitionTime ∨ 5 < v.exponent ∨
          1000 < v.settleDelay ∨ 50000 < v.settleBand ∨ v.settleCount < 2 ∨ 15 < v.settleCount ∨
          v.settleTimeout < 500 ∨ 10000 < v.settleTimeout ∨ v.zeroInterval < 1 ∨ 60 < v.zeroInterval ∨
          500000 < v.zeroWindow)) ∨
      (∃ v : ScanSettings, c = .scanSet r v ∧
        (v.scanPeriod < 100 ∨ 2000 < v.scanPeriod ∨ v.auxSettle < 5 ∨ 200 < v.auxSettle ∨ v.refLow < 3000 ∨
          5000 < v.refLow ∨ v.refHigh < 5000 ∨ 6000 < v.refHigh ∨ v.refHigh ≤ v.refLow ∨ v.tempLimit < 300 ∨
          850 < v.tempLimit)) ∨
      (∃ n unit policy, c = .linkSet r n (some unit) (some policy) ∧ 255 < n) ∨
      (∃ code kind mass enabled, c = .denomSet r code kind mass enabled ∧ (15 < code ∨ mass < 1 ∨ 20000 < mass)) ∨
      (∃ bagType tare, c = .bagTypeSet r bagType tare ∧ (3 < bagType ∨ 2000000 < tare)) ∨
      (∃ cls floor perMille, c = .toleranceSet r cls floor perMille ∧ (3 < cls ∨ 200000 < floor ∨ 100 < perMille)) ∨
      (∃ n, c = .logSet r n ∧ (n < 8 ∨ 256 < n)) ∨
      (∃ mode n time, c = .liftSet r (some mode) n time ∧ (n < 1 ∨ 8 < n ∨ time < 5 ∨ 120 < time)) ∨
      (∃ night day enabled, c = .scheduleSet r night day enabled ∧ (1439 < night ∨ 1439 < day ∨ night = day)) ∨
      (∃ opens closes, c = .setReleaseWindow r opens closes ∧ (1439 < opens ∨ 1439 < closes ∨ opens = closes)) ∨
      (∃ confirm unlock limit, c = .releaseSet r confirm unlock limit ∧
        (confirm < 10 ∨ 300 < confirm ∨ unlock < 2 ∨ 30 < unlock ∨ limit < 1 ∨ 60 < limit)) ∨
      (∃ n level, c = .outputSet r n level ∧ n ≠ 13 ∧ n ≠ 14) ∨
      (∃ first n, c = .binRead r first n ∧ (59 < first ∨ n < 1 ∨ 12 < n)) ∨
      (∃ from_ n, c = .logRead r from_ n ∧ (16777215 < from_ ∨ n < 1 ∨ 5 < n))) →
    exec c s = .next ((s.holding r c).replied r (.refused .paramRange))

/-- LOG_SET stores its threshold and judges the low-water flag against it in both directions; LOG_PURGE, in DAY alone,
removes the RELEASED and WITHDRAWN records, keeps the order of the others, frees the advice entries the removed ones name,
and clears the low-water flag where the free count, having risen, is above the threshold; a purge that finds nothing to
remove leaves the log as it is. -/
def Obligations.LogIsSetAndPurged : Prop :=
  ∀ (s : State) (r : Req), s.takes r →
    (∀ n, 8 ≤ n → n ≤ 256 → ∃ t, exec (.logSet r n) s = .next t ∧
      t.log = { s.log with lowWater := n, lowFlag := decide (s.logFree ≤ n) } ∧ t.heads = s.heads ∧
      t.advices = s.advices ∧ t.rack = s.rack) ∧
    (s.mode ≠ .day →
      exec (.logPurge r) s = .next ((s.holding r (.logPurge r)).replied r (.refused .wrongMode))) ∧
    (s.mode = .day →
      let gone := fun x : Record => decide (x.state = .released) || decide (x.state = .withdrawn)
      let named := fun i : Nat => s.log.records.any fun x => gone x && decide (x.advice = some i)
      let u := s.holding r (.logPurge r)
      let kept := s.log.records.filter fun x => !gone x
      exec (.logPurge r) s = .next ({ u with
          log := { s.log with
            records := kept
            lowFlag := s.log.lowFlag &&
              (s.log.records.countP gone == 0 || decide (1024 - kept.length - s.log.reservations ≤ s.log.lowWater)) }
          advices := ⟨s.advices.entries.filter fun (e : AdviceEntry) => !named e.index, s.advices.order.filter fun i => !named i⟩
          }.replied r (.ok (.purged (s.log.records.countP gone) (s.advices.entries.countP fun (e : AdviceEntry) => named e.index)))))

/-- BIN_SET configures an empty, LOCKED bin and is refused BIN_IN_USE for any other; ZONE_MAP_SET stores its four zones.
Both signal a change of room; they are stated with every staging queue empty, so that no bag waits for it. -/
def Obligations.BinsAndZonesAreConfigured : Prop :=
  ∀ (s : State) (r : Req), s.takes r → (∀ h, (s.head h).staging = []) →
    (∀ bin b cls zone limit, s.bin bin = some b → zone ≤ 3 → 1000000 ≤ limit → limit ≤ 60000000 →
      let u := s.holding r (.binSet r bin (some cls) zone limit)
      (b.count = 0 → b.lock = .locked →
        (cls = .standard → b.cls ≠ .standard → ∀ x ∈ s.log.records, x.bin ≠ some bin) →
        exec (.binSet r bin (some cls) zone limit) s = .next ({ u with rack := { u.rack with
          bins := u.rack.bins.modify bin fun b => { b with cls := cls, zone := zone, limit := limit } } }.replied r
            (.ok .done))) ∧
      (b.count ≠ 0 ∨ b.lock ≠ .locked ∨
          (cls = .standard ∧ b.cls ≠ .standard ∧ ∃ x ∈ s.log.records, x.bin = some bin) →
        exec (.binSet r bin (some cls) zone limit) s = .next (u.replied r (.refused .binInUse)))) ∧
    (∀ zones : List Nat, zones.length = 4 → (∀ z ∈ zones, z ≤ 3) →
      let u := s.holding r (.zoneMapSet r zones)
      exec (.zoneMapSet r zones) s =
        .next ({ u with rack := { u.rack with zoneMap := zones } }.replied r (.ok .done)))

/-- HEAD_OPEN of one head: refused as a whole outside NIGHT or with the clock UNSET; for the head itself the first refusal
of the order that applies; a CLOSED head with its channel OFF enters WARMING and powers its channel; one with its channel
IDLE takes a reservation and is READY (stated with more than one free place in the log). HEAD_CLOSE of a READY head with
its flap shut closes it; of a head with a bag in progress it sets close pending. -/
def Obligations.HeadsOpenAndClose : Prop :=
  ∀ (s : State) (r : Req) (n : Nat) (h : HeadId), s.takes r → s.Sized → headOfCode n = some h →
    (s.mode ≠ .night → exec (.headOpen r [n]) s =
      .next ((s.holding r (.headOpen r [n])).replied r (.refused .wrongMode))) ∧
    (s.mode = .night → s.clock = none → exec (.headOpen r [n]) s =
      .next ((s.holding r (.headOpen r [n])).replied r (.refused .clockUnset))) ∧
    (s.mode = .night → s.clock.isSome = true →
      let refused := fun code => exec (.headOpen r [n]) s =
        .next ((s.holding r (.headOpen r [n])).replied r (.ok (.headOutcomes [(h, some code)])))
      let sound := (s.channel h).refFault = false
      let cool := sound ∧ s.scanner.tempHigh = false
      let safe := cool ∧ s.active 13 = false
      let able := safe ∧ (s.head h).state.isFault = false
      ((s.channel h).refFault = true → refused .refFault) ∧
      (sound → s.scanner.tempHigh = true → refused .tempHigh) ∧
      (cool → s.active 13 = true → refused .tamper) ∧
      (safe → (s.head h).state.isFault = true → refused .headFault) ∧
      (able → (s.head h).state = .closed → s.logFree = 0 → refused .logFull) ∧
      (able → ¬((s.head h).state = .closed ∧ s.logFree = 0) → (s.head h).starting = true → refused .headStarting) ∧
      (able → (s.head h).starting = false → (s.head h).state = .closed →
        ((s.channel h).state = .off → 1 ≤ s.logFree → s.service.step = none →
          ∃ t, exec (.headOpen r [n]) s = .next t ∧
            t.head h = { s.head h with state := .warming, closePending := none } ∧
            (t.channel h).state = .warming .running ∧
            (t.channel h).warmUpTimer = some (s.channel h).settings.warmUpTime ∧
            (t.channel h).conversion.isSome = true ∧ t.log = s.log ∧ (∀ k, k ≠ h → t.head k = s.head k)) ∧
        ((s.channel h).state = .idle → 2 ≤ s.logFree →
          ∃ t, exec (.headOpen r [n]) s = .next t ∧
            t.head h = { s.head h with state := .ready, closePending := none, reservation := true } ∧
            t.log.records = s.log.records ∧ t.log.reservations = s.log.reservations + 1 ∧
            (t.output (flapReleaseOutput h)).owner = true ∧ (t.output (intakeLampOutput h)).owner = true ∧
            (∀ k, k ≠ h → t.head k = s.head k)))) ∧
    ((s.head h).state = .closed →
      exec (.headClose r [n]) s = .next ((s.holding r (.headClose r [n])).replied r (.ok .done))) ∧
    ((s.head h).state = .ready → s.active (intakeShutLine h) = true → (s.head h).closePending = none →
      ∃ t, exec (.headClose r [n]) s = .next t ∧
        t.head h = { s.head h with state := .closed, reservation := false } ∧
        ((s.head h).reservation = true → t.log.reservations = s.log.reservations - 1) ∧
        t.log.records = s.log.records ∧ (t.output (flapReleaseOutput h)).owner = false ∧
        (∀ k, k ≠ h → t.head k = s.head k)) ∧
    ((s.head h).state = .intake ∨ (s.head h).state = .descent ∨ (s.head h).state = .examine ∨
        (s.head h).state = .discharge →
      ∃ t, exec (.headClose r [n]) s = .next t ∧
        t.head h = { s.head h with closePending := some ((s.head h).closePending.getD .requested) } ∧
        t.log = s.log ∧ (∀ k, k ≠ h → t.head k = s.head k))

/-- HEAD_CLEAR_FAULT of a head in FAULT, by the first case that matches: a cradle record sends it to HOLD, or on to
DISCHARGE where staging has room; an occupied cradle sends it to RECOVER outside DAY, with a reservation, and is refused
WRONG_MODE in DAY; otherwise it gives its reservation back and closes. A head that is not in FAULT is left alone. -/
def Obligations.ClearFaultGoesOn : Prop :=
  ∀ (s : State) (r : Req) (n : Nat) (h : HeadId), s.takes r → r.port = .service → s.Sized → headOfCode n = some h →
    ((s.head h).state.isFault = false → exec (.headClearFault r n) s =
      .next ((s.holding r (.headClearFault r n)).replied r (.ok (.headState (s.head h).state)))) ∧
    ((s.head h).state.isFault = true →
      ((s.head h).cradleRecord.isSome = true → s.cradle h = true →
        ∃ t, exec (.headClearFault r n) s = .next t ∧
          (t.head h).state = (if (s.head h).staging.length < 2 then .discharge else .hold) ∧
          (t.head h).closePending = some ((s.head h).closePending.getD .requested) ∧
          (t.head h).cradleRecord = (s.head h).cradleRecord ∧ (t.head h).staging = (s.head h).staging ∧
          t.log = s.log ∧ (∀ k, k ≠ h → t.head k = s.head k)) ∧
      ((s.head h).cradleRecord = none → s.cradle h = true → s.mode = .day →
        exec (.headClearFault r n) s =
          .next ((s.holding r (.headClearFault r n)).replied r (.refused .wrongMode))) ∧
      ((s.head h).cradleRecord = none → s.cradle h = true → s.mode ≠ .day → (s.head h).reservation = false →
        s.logFree = 0 → exec (.headClearFault r n) s =
          .next ((s.holding r (.headClearFault r n)).replied r (.refused .logFull))) ∧
      ((s.head h).cradleRecord = none → s.cradle h = true → s.mode ≠ .day → (s.head h).reservation = true →
        (s.channel h).state = .off → s.service.step = none →
        ∃ t, exec (.headClearFault r n) s = .next t ∧ (t.head h).state = .recover ∧
          (t.head h).reservation = true ∧ (t.head h).restarted = true ∧ (t.head h).beamCount = 1 ∧
          (t.head h).closePending = some ((s.head h).closePending.getD .requested) ∧
          (t.channel h).state = .warming .running ∧ t.log = s.log ∧ (∀ k, k ≠ h → t.head k = s.head k)) ∧
      ((s.head h).cradleRecord = none → s.cradle h = false →
        ∃ t, exec (.headClearFault r n) s = .next t ∧
          t.head h = { s.head h with state := .closed, closePending := none, reservation := false } ∧
          ((s.head h).reservation = true → t.log.reservations = s.log.reservations - 1) ∧
          t.log.records = s.log.records ∧ (∀ k, k ≠ h → t.head k = s.head k)))

/-- ADVISE makes its six checks in order and is refused by the first that fails: a full table, ill-formed content, a
disabled denomination, an expected mass above 20,000,000 mg, a valid-until time outside its window, a PENDING entry with the
tag. Past them it enters a PENDING entry at the lowest free index, or, where an UNADVISED record with its tag still waits,
late-matches the oldest such record by the mass tests alone. WITHDRAW frees a PENDING entry, and is refused for a lodged or
an unknown tag and for one outside 1 to 999,999,999. -/
def Obligations.AdvicesAreEnteredAndWithdrawn : Prop :=
  ∀ (s : State) (r : Req), s.takes r →
    (∀ a : Advice, s.advices.Lawful →
      let expected := (s.judge.tares[a.bagType]?).getD 0 +
        (a.lines.map fun l => l.2 * ((s.judge.denominations[l.1]?).map (·.mass)).getD 0).sum
      let validMinute := a.validUntil / 60 * 60
      let full := s.advices.entries.length = 400
      let illFormed := a.tag = 0 ∨ 999999999 < a.tag ∨ a.reference = [] ∨ 16 < a.reference.length ∨
        (∃ x ∈ a.reference, x.toNat < 0x20 ∨ 0x7E < x.toNat) ∨ 3 < a.bagType ∨ 3 < a.serviceClass ∨ a.lines = [] ∨
        8 < a.lines.length ∨ (∃ l ∈ a.lines, 15 < l.1 ∨ l.2 = 0 ∨ 9999 < l.2) ∨ ¬(a.lines.map (·.1)).Nodup
      let disabled := ∃ l ∈ a.lines, ∀ d, s.judge.denominations[l.1]? = some d → d.enabled = false
      let heavy := 20000000 < expected
      let outside := ∀ now, s.clock = some now → validMinute ≤ now ∨ now + 604800 < validMinute
      let twice := ∃ e ∈ s.advices.entries, e.state = .pending ∧ e.tag = a.tag
      let u := s.holding r (.advise r a)
      let refused := fun code => exec (.advise r a) s = .next (u.replied r (.refused code))
      let entry := fun i state => (⟨i, a.tag, a.reference, a.bagType, a.serviceClass, a.lines, expected, validMinute,
        state⟩ : AdviceEntry)
      let waits := fun x : Record => decide (x.verdict = .unadvised) && !x.late && decide (x.tag = some a.tag) &&
        (decide (x.state = .judged) || decide (x.state = .inTransfer) || decide (x.state = .stored) ||
          decide (x.state = .transferFault))
      (full → refused .tableFull) ∧
      (¬full → illFormed → refused .badFormat) ∧
      (¬full → ¬illFormed → disabled → refused .denomDisabled) ∧
      (¬full → ¬illFormed → ¬disabled → heavy → refused .massRange) ∧
      (¬full → ¬illFormed → ¬disabled → ¬heavy → outside → refused .badWindow) ∧
      (¬full → ¬illFormed → ¬disabled → ¬heavy → ¬outside → twice → refused .duplicateTag) ∧
      (¬full → ¬illFormed → ¬disabled → ¬heavy → ¬outside → ¬twice →
        ∃ i, (∀ e ∈ s.advices.entries, e.index ≠ i) ∧
        (∀ j < i, ∃ e ∈ s.advices.entries, e.index = j) ∧
        (s.log.records.find? waits = none →
          exec (.advise r a) s = .next ({ u with advices := { u.advices with
            entries := insertEntry (entry i .pending) u.advices.entries } }.replied r (.ok (.entered i expected)))) ∧
        (∀ x, s.log.records.find? waits = some x → (∀ h, (s.head h).staging.head? ≠ some x.seq) →
          let tolerance := max ((s.judge.tolerances[a.serviceClass]?).getD ⟨0, 0⟩).floor
            ((expected * ((s.judge.tolerances[a.serviceClass]?).getD ⟨0, 0⟩).perMille + 999) / 1000)
          let m := x.measured.getD 0
          let verdict : Verdict := if m + tolerance < expected then .shortMass
            else if expected + tolerance < m then .overMass else .accepted
          let state : AdviceState := if verdict = .accepted then .lodged x.seq else .lodgedException x.seq
          exec (.advise r a) s = .next ({ u with
            log := { u.log with records := u.log.records.map fun (y : Record) => if y.seq = x.seq then
              { y with verdict := verdict, late := true, advice := some i, expected := some expected,
                       tolerance := some tolerance } else y }
            advices := ⟨insertEntry (entry i state) u.advices.entries, u.advices.order ++ [i]⟩ }.replied r
              (.ok (.lateMatch i expected x.seq verdict)))))) ∧
    (∀ tag, 1 ≤ tag → tag ≤ 999999999 →
      let u := s.holding r (.withdraw r tag)
      (∀ e, s.advices.entries.find? (fun e => decide (e.state = .pending) && decide (e.tag = tag)) = some e →
        exec (.withdraw r tag) s = .next ({ u with advices :=
          ⟨u.advices.entries.filter fun (x : AdviceEntry) => x.index != e.index, u.advices.order.filter fun i => i != e.index⟩
          }.replied r (.ok (.freed e.index)))) ∧
      ((∀ e ∈ s.advices.entries, e.tag = tag → e.state ≠ .pending) →
        ((∃ e ∈ s.advices.entries, e.tag = tag) →
          exec (.withdraw r tag) s = .next (u.replied r (.refused .adviceLodged))) ∧
        ((∀ e ∈ s.advices.entries, e.tag ≠ tag) →
          exec (.withdraw r tag) s = .next (u.replied r (.refused .notFound))))) ∧
    (∀ tag, tag = 0 ∨ 999999999 < tag → exec (.withdraw r tag) s =
      .next ((s.holding r (.withdraw r tag)).replied r (.refused .badFormat)))

/-- LIFT_RESOLVE of a faulted lift: DELIVERED stores the record at the clock, RETRIEVED withdraws it and relieves its bin;
either way the lift is IDLE (stated with every staging queue empty, and outside DAY_PENDING). A lift that is not in FAULT is
left alone. -/
def Obligations.LiftResolveEndsTheFault : Prop :=
  ∀ (s : State) (r : Req), s.takes r → r.port = .service →
    (∀ o, (∀ cause f, s.lift.state ≠ .fault cause f) → exec (.liftResolve r (some o)) s =
      .next ((s.holding r (.liftResolve r (some o))).replied r (.refused .liftNotFault))) ∧
    (∀ cause f now, s.lift.state = .fault cause f → s.clock = some now → (∀ h, (s.head h).staging = []) →
      s.mode ≠ .dayPending →
      let idle := fun u : State =>
        { u with lift := { u.lift with state := .idle, transferTimer := none, moveOutstanding := none } }
      let marked := fun (u : State) (g : Record → Record) =>
        { u with log := { u.log with records := u.log.records.map fun x => if x.seq = f.seq then g x else x } }
      (let u := s.holding r (.liftResolve r (some .delivered))
       exec (.liftResolve r (some .delivered)) s = .next ((notify (.depositStored f.seq f.head f.bin now .resolved)
        (idle (marked u fun x => { x with state := .stored, storedTime := some now }))).replied r
          (.ok (.resolved f.seq .stored)))) ∧
      (let u := s.holding r (.liftResolve r (some .retrieved))
       let mass := ((s.log.records.find? fun x => x.seq == f.seq).map fun x => x.measured.getD 20000000).getD 0
       exec (.liftResolve r (some .retrieved)) s = .next ((idle { marked u fun x => { x with state := .withdrawn } with
        rack := { u.rack with bins := u.rack.bins.modify f.bin fun b =>
          { b with count := b.count - 1, mass := b.mass - mass } } }).replied r (.ok (.resolved f.seq .withdrawn)))))

/-- MODE_SET NIGHT from DAY is refused while a bin is UNLOCKING or UNLOCKED, or with the clock UNSET; otherwise NIGHT is
entered with the pending window active, every reservation cancelled and no service state held. MODE_SET DAY from NIGHT
enters DAY_PENDING, and DAY at once where every head is CLOSED with nothing in staging and the lift IDLE. -/
def Obligations.ModesAreSet : Prop :=
  ∀ (s : State) (r : Req), s.takes r → s.Sized →
    (s.mode ≠ .night → 0 < s.rack.openBins → exec (.modeSetNight r) s =
      .next ((s.holding r (.modeSetNight r)).replied r (.refused .binsOpen))) ∧
    (s.mode ≠ .night → s.rack.openBins = 0 → s.clock = none → exec (.modeSetNight r) s =
      .next ((s.holding r (.modeSetNight r)).replied r (.refused .clockUnset))) ∧
    (s.mode = .night → exec (.modeSetNight r) s =
      .next ((s.holding r (.modeSetNight r)).replied r (.ok (.mode .night [])))) ∧
    (s.mode = .day → s.rack.openBins = 0 → s.clock.isSome = true → (∀ h, (s.head h).settings.autoOpen = false) →
      (∀ h, (s.head h).staging = []) →
      ∃ t, exec (.modeSetNight r) s = .next t ∧ t.release = { s.release with
          mode := .night
          active := s.release.pending.getD s.release.active
          pending := none
          reservations := [] } ∧
        (∀ v ∈ s.release.reservations, v.bin < 60 → t.lock v.bin = some .locked) ∧
        (∀ b, (∀ v ∈ s.release.reservations, v.bin ≠ b) → t.bin b = s.bin b) ∧
        t.service.state = .none ∧ t.heads = s.heads ∧ t.log = s.log) ∧
    (s.mode ≠ .night → exec (.modeSetDay r) s =
      .next ((s.holding r (.modeSetDay r)).replied r (.ok (.mode s.mode [])))) ∧
    (s.mode = .night → (∀ h, (s.head h).state = .closed ∧ (s.head h).staging = []) → s.lift.state = .idle →
      let u := s.holding r (.modeSetDay r)
      exec (.modeSetDay r) s = .next ((notify (.modeChanged .day .dayPending .request)
        (notify (.modeChanged .dayPending .night .request)
          { u with release := { u.release with mode := .day } })).replied r (.ok (.mode .dayPending [])))) ∧
    (s.mode = .night → s.lift.state ≠ .idle → (∀ h, (s.head h).state = .intake ∨ (s.head h).state = .descent) →
      ∃ t, exec (.modeSetDay r) s = .next t ∧ t.release = { s.release with mode := .dayPending .request } ∧
        t.log = s.log ∧ ∀ h, t.head h = { s.head h with
          closePending := some ((s.head h).closePending.getD .mode) })

/-- Dual control. Inside the active window lies a minute of day at or above the open minute and below the close minute, or,
where the open minute is above the close minute, one that is either; with the clock UNSET nothing is inside. A request
inside the window reserves a LOCKED bin that holds bags; a confirm by a second known officer, one of the two a supervisor
where the bin is a quarantine bin, spends the reservation and gives the UNLOCK order; a confirm by the same officer cancels
the reservation, and so does a RELEASE_CANCEL. Outside the window a request is refused TIME_LOCKED, and a confirm too, with
its reservation cancelled. OFFICER_SET stores a slot. The cancellations are stated with every staging queue empty. (That
unlock records and unlock list are kept oldest first is the model's choice: notes/assumptions/36.) -/
def Obligations.ReleaseNeedsTwoOfficers : Prop :=
  ∀ (s : State) (r : Req), s.takes r →
    let w := s.release.active
    let inside : Prop := ∃ now, s.clock = some now ∧
      if w.openMinute < w.closeMinute then w.openMinute ≤ now / 60 % 1440 ∧ now / 60 % 1440 < w.closeMinute
      else w.openMinute ≤ now / 60 % 1440 ∨ now / 60 % 1440 < w.closeMinute
    let cancelled := fun (u : State) (bin : Nat) (v : Reservation) =>
      notify (.reservationEnded bin v.officer .cancelled) { u with
        release := { u.release with reservations := u.release.reservations.filter fun x => x.bin != bin }
        rack := { u.rack with bins := u.rack.bins.modify bin fun b => { b with lock := .locked } } }
    (∀ slot number role enabled, slot ≤ 15 → 1 ≤ number → number ≤ 9999 →
      (∀ i o, i ≠ slot → s.release.officers[i]? = some (some o) → o.number ≠ number) →
      s.release.officers[slot]? = some none →
      let u := s.holding r (.officerSet r slot number (some role) enabled)
      exec (.officerSet r slot number (some role) enabled) s = .next ({ u with release := { u.release with
        officers := u.release.officers.set slot (some (Officer.mk number role enabled)) } }.replied r (.ok .done))) ∧
    (∀ bin officer now b, s.mode = .day → s.clock = some now → inside →
      s.release.knows officer = true → s.bin bin = some b → b.count ≠ 0 → b.lock = .locked →
      (∀ v ∈ s.release.reservations, v.officer ≠ officer) → s.release.reservations.length < 4 →
      let u := s.holding r (.releaseRequest r bin officer)
      exec (.releaseRequest r bin officer) s = .next ({ u with
        release := { u.release with
          reservations := u.release.reservations ++ [Reservation.mk bin officer now s.release.settings.confirmTime] }
        rack := { u.rack with bins := u.rack.bins.modify bin fun b => { b with lock := .reserved } } }.replied r
          (.ok (.reserved bin s.release.settings.confirmTime)))) ∧
    (∀ bin officer v, s.mode = .day → s.release.reservations.find? (fun v => v.bin == bin) = some v →
      inside →
      (officer ≠ v.officer → s.release.knows officer = true →
        ((∃ b, s.bin bin = some b ∧ b.cls = .quarantine) →
          s.release.isSupervisor v.officer = true ∨ s.release.isSupervisor officer = true) →
        s.rack.openBins < 2 →
        let u := s.holding r (.releaseConfirm r bin officer)
        exec (.releaseConfirm r bin officer) s = .next ({ u with
          release := { u.release with
            reservations := u.release.reservations.filter fun x => x.bin != bin
            unlocks := u.release.unlocks ++
            [UnlockRecord.mk bin v.officer officer (some s.release.settings.unlockTime) false] }
          rack := { u.rack with bins := u.rack.bins.modify bin fun b => { b with lock := .unlocking } }
          lift := { u.lift with
            unlockList := u.lift.unlockList ++ [bin]
            orders := u.lift.orders ++ [DriveOrder.unlock bin] } }.replied r (.ok (.bin bin)))) ∧
      (officer = v.officer → (∀ h, (s.head h).staging = []) →
        let u := s.holding r (.releaseConfirm r bin officer)
        exec (.releaseConfirm r bin officer) s = .next ((cancelled u bin v).replied r (.refused .sameOfficer)))) ∧
    (∀ bin officer v, s.release.reservations.find? (fun v => v.bin == bin) = some v →
      s.release.knows officer = true → (∀ h, (s.head h).staging = []) →
      let u := s.holding r (.releaseCancel r bin officer)
      exec (.releaseCancel r bin officer) s = .next ((cancelled u bin v).replied r (.ok (.bin bin)))) ∧
    (s.mode = .day → ¬inside →
      (∀ bin officer, exec (.releaseRequest r bin officer) s =
        .next ((s.holding r (.releaseRequest r bin officer)).replied r (.refused .timeLocked))) ∧
      (∀ bin officer v, s.release.reservations.find? (fun v => v.bin == bin) = some v → (∀ h, (s.head h).staging = []) →
        exec (.releaseConfirm r bin officer) s =
          .next ((cancelled (s.holding r (.releaseConfirm r bin officer)) bin v).replied r (.refused .timeLocked))))

/-- LINE_ACK clears the event flags it lists; LINE_SET stores polarity and debounce time, an unchanged polarity touching
nothing else, a changed one inverting the raw level with its debounce (stated for the lines no head owns, with a debounce
time above 0); OUTPUT_SET hands a GP output its level; CLOCK_SET sets the clock (stated with no advice to sweep and the
schedule disabled); ALARM_ACK clears the causes whose condition has gone; ALARM_SET stores the settings. The ALARM line is
electrically high where it is driven energised with polarity ACTIVE_HIGH or de-energised with ACTIVE_LOW: a change of
polarity alone inverts it at once, and changes no driven level and starts no check (stated where the line already follows
its rule). -/
def Obligations.LinesClockAndAlarmAreSet : Prop :=
  ∀ (s : State) (r : Req), s.takes r →
    (∀ lines : List Nat, 1 ≤ lines.length → lines.length ≤ 16 → lines.Nodup → (∀ n ∈ lines, n ≤ 15) →
      ∃ t, exec (.lineAck r lines) s = .next (State.replied t r (.ok .done)) ∧
        t = { s.holding r (.lineAck r lines) with inputs := t.inputs } ∧ t.inputs.length = s.inputs.length ∧
        ∀ n < 16, t.inputs[n]? = (s.inputs[n]?).map fun l => if n ∈ lines then { l with event := false } else l) ∧
    (∀ n polarity debounce, r.port = .service → s.Sized → 12 ≤ n → n ≤ 15 → 1 ≤ debounce → debounce ≤ 255 →
      let l := s.input n
      let u := s.holding r (.lineSet r n polarity debounce)
      exec (.lineSet r n polarity debounce) s = .next ((u.setInput n { l with
        polarity := polarity
        debounce := debounce
        timer := if polarity = l.polarity then l.timer
          else if l.debounced = some (!l.raw) then none else some debounce }).replied r (.ok .done))) ∧
    (∀ n level, (n = 13 ∨ n = 14) → s.Sized → s.service.state = .none →
      let o := s.output n
      let u := s.holding r (.outputSet r n level)
      exec (.outputSet r n level) s = .next ((u.setOutput n { o with
        owner := level
        driven := level
        check := if o.driven = level then o.check else some 50 }).replied r (.ok .done))) ∧
    (∀ value : BitVec 32, r.port = .service ∨ s.clock = none → s.advices.entries = [] →
      s.release.schedule.enabled = false →
      let u := s.holding r (.clockSet r value)
      exec (.clockSet r value) s = .next ({ u with clock := some value.toNat }.replied r (.ok .done))) ∧
    (let f := s.alarm.latched
     let kept : AlarmFlags := {
        linkLost := f.linkLost && s.link.lost && decide (r.port = .service)
        tamper := f.tamper && s.active 13
        headFault := f.headFault && ((s.head .a).state.isFault || (s.head .b).state.isFault || (s.head .c).state.isFault)
        liftFault := f.liftFault && (match s.lift.state with
          | .fault _ _ => true
          | .idle | .moving _ _ => false)
        binOpenLong := f.binOpenLong && s.release.unlocks.any fun u => u.openLong && (s.openSince u.bin).isSome
        tempHigh := f.tempHigh && s.scanner.tempHigh
        refFault := f.refFault &&
          ((s.channel .a).refFault || (s.channel .b).refFault || (s.channel .c).refFault) }
     ∃ t, exec (.alarmAck r) s = .next (State.replied t r (.ok (.latched kept))) ∧
      t.alarm = { s.alarm with latched := kept } ∧
      (s.Sized → s.alarm.mode = .level → (t.output 12).owner = anyCause (bothCauses kept s.alarm.enables)) ∧
      (s.alarm.mode = .pulse → t.outputs = s.outputs) ∧
      (∀ n, n ≠ 12 → t.output n = s.output n) ∧ t.heads = s.heads ∧ t.log = s.log) ∧
    (∀ mode width polarity enables, width = 100 ∨ width = 500 ∨ width = 2000 ∨ width = 10000 →
      ∃ t, exec (.alarmSet r ⟨some mode, width, some polarity, enables⟩) s = .next t ∧
        t.alarm = { s.alarm with
          mode := mode
          width := width
          polarity := polarity
          enables := enables
          pulseTimer := if mode = s.alarm.mode then s.alarm.pulseTimer else none } ∧
        (s.Sized → mode = .level → (t.output 12).owner = anyCause (bothCauses s.alarm.latched enables)) ∧
        (s.Sized → mode = .pulse → s.alarm.mode = .level → (t.output 12).owner = false) ∧
        t.outputHigh 12 = (if polarity = .activeHigh then (t.output 12).driven else !(t.output 12).driven) ∧
        (∀ n, n ≠ 12 → t.output n = s.output n ∧ t.outputHigh n = s.outputHigh n) ∧ t.heads = s.heads ∧ t.log = s.log) ∧
    (let a := s.alarm
     ∀ polarity, a.width = 100 ∨ a.width = 500 ∨ a.width = 2000 ∨ a.width = 10000 →
      (a.mode = .level → (s.output 12).owner = anyCause (bothCauses a.latched a.enables)) →
      (s.service.state = .none → (s.output 12).driven = (s.output 12).owner) →
      ∃ t, exec (.alarmSet r ⟨some a.mode, a.width, some polarity, a.enables⟩) s = .next t ∧ t.outputs = s.outputs ∧
        t.alarm = { a with polarity := polarity } ∧
        (polarity ≠ a.polarity → t.outputHigh 12 = !s.outputHigh 12))

/-- SERVICE_ENTER, in DAY with the door open, drives the outputs by the state entered and stops every check timer; it is
refused outside DAY and with the door shut. SERVICE_EXIT gives every output back to its owner with a check timer;
PATTERN_SET stores its fifteen levels, which drive at once while PATTERN is held. Stated with no calibration step. -/
def Obligations.ServiceStatesAreHeld : Prop :=
  ∀ (s : State) (r : Req), s.takes r → r.port = .service → s.Sized → s.service.step = none →
    (∀ k, s.mode ≠ .day → exec (.serviceEnter r (some k)) s =
      .next ((s.holding r (.serviceEnter r (some k))).replied r (.refused .wrongMode))) ∧
    (∀ k, s.mode = .day → s.active 12 = true → exec (.serviceEnter r (some k)) s =
      .next ((s.holding r (.serviceEnter r (some k))).replied r (.refused .doorShut))) ∧
    (∀ k, s.mode = .day → s.active 12 = false →
      ∃ t, exec (.serviceEnter r (some k)) s = .next t ∧
        t.service.state = (match k with
          | .hold => .hold
          | .pattern => .pattern
          | .limp => .limp) ∧
        t.service.pattern = s.service.pattern ∧ t.heads = s.heads ∧ t.log = s.log ∧
        ∀ n < 15, t.output n = { s.output n with
          check := none
          driven := match k with
            | .hold => (s.output n).driven
            | .pattern => (s.service.pattern[n]?).getD false
            | .limp => false }) ∧
    (s.service.state ≠ .none → ∃ t, exec (.serviceExit r) s = .next t ∧ t.service.state = .none ∧
      t.heads = s.heads ∧ t.log = s.log ∧
      ∀ n < 15, t.output n = { s.output n with driven := (s.output n).owner, check := some 50 }) ∧
    (s.service.state = .none → exec (.serviceExit r) s =
      .next ((s.holding r (.serviceExit r)).replied r (.ok (.service .none)))) ∧
    (∀ levels : List Bool, levels.length = 15 →
      ∃ t, exec (.patternSet r (levels.map some)) s = .next t ∧ t.service = { s.service with pattern := levels } ∧
        t.heads = s.heads ∧ t.log = s.log ∧
        ∀ n < 15, t.output n = { s.output n with
          driven := if s.service.state = .pattern then (levels[n]?).getD false else (s.output n).driven })

/-- A calibration request, in DAY with no service state held and its head CLOSED, starts its step: on an OFF channel it
powers it, on an IDLE one it asks for the weighing; it is refused by the first check that fails. STATS_CLEAR puts every
counter at 0; RESTART is answered at once, and COLD_INITIALISE too, in DAY with nothing but RELEASED and WITHDRAWN records,
neither doing anything yet. -/
def Obligations.CalibrationAndStatistics : Prop :=
  ∀ (s : State) (r : Req) (n : Nat) (h : HeadId), s.takes r → r.port = .service → s.Sized → headOfCode n = some h →
    s.service.step = none →
    (∀ c kind, (c = .calZero r n ∧ kind = .zero) ∨
        (∃ m, 100000 ≤ m ∧ m ≤ 25000000 ∧ c = .calSpan r n m ∧ kind = .span m) ∨
        (∃ m d, 100000 ≤ m ∧ m ≤ 25000000 ∧ d ≤ 1000000 ∧ c = .calVerify r n m d ∧ kind = .verify m d) →
      let refused := fun code => exec c s = .next ((s.holding r c).replied r (.refused code))
      let fit := (s.head h).state = .closed ∨
        ((s.head h).state = .fault .unexpectedCradle ∧ (s.head h).cradleRecord = none)
      (s.mode ≠ .day → refused .wrongMode) ∧
      (s.mode = .day → s.service.state ≠ .none → refused .inService) ∧
      (s.mode = .day → s.service.state = .none → ¬fit → refused .headNotClosed) ∧
      (s.mode = .day → s.service.state = .none → fit → kind = .zero → s.cradle h = true →
        refused .cradleOccupied) ∧
      (s.mode = .day → s.service.state = .none → fit → (kind = .zero → s.cradle h = false) →
        ((s.channel h).state = .off → ∃ t, exec c s = .next t ∧
          t.service = { s.service with step := some ⟨h, kind, .warming⟩ } ∧
          (t.channel h).state = .warming .running ∧
          (t.channel h).warmUpTimer = some (s.channel h).settings.warmUpTime ∧
          (t.channel h).zero = (s.channel h).zero ∧ (t.channel h).span = (s.channel h).span ∧
          t.heads = s.heads ∧ t.log = s.log ∧ (∀ k, k ≠ h → t.channel k = s.channel k)) ∧
        ((s.channel h).state = .idle → (s.channel h).refFault = false → ∃ t, exec c s = .next t ∧
          t.service = { s.service with step := some ⟨h, kind, .weighing⟩ } ∧
          (∃ w, (t.channel h).state = .weighing w ∧ w.requester = .service ∧ w.stable = 0 ∧ w.previous = none) ∧
          (t.channel h).settleTimer = some (s.channel h).settings.settleTimeout ∧
          (t.channel h).zero = (s.channel h).zero ∧ (t.channel h).span = (s.channel h).span ∧
          t.heads = s.heads ∧ t.log = s.log ∧ (∀ k, k ≠ h → t.channel k = s.channel k)))) ∧
    (let u := s.holding r (.statsClear r)
     let zero : HeadStats := ⟨0, 0, 0, 0, 0, 0, 0, 0, 0, 0⟩
     exec (.statsClear r) s = .next ({ u with service := { u.service with
      stats := ⟨⟨zero, zero, zero⟩, 0, 0, 0, 0, 0⟩ } }.replied r (.ok .done))) ∧
    exec (.restart r) s = .next ((s.holding r (.restart r)).replied r (.ok .done)) ∧
    (s.mode ≠ .day → exec (.coldInitialise r) s =
      .next ((s.holding r (.coldInitialise r)).replied r (.refused .wrongMode))) ∧
    (s.mode = .day → (∃ x ∈ s.log.records, x.state ≠ .released ∧ x.state ≠ .withdrawn) →
      exec (.coldInitialise r) s = .next ((s.holding r (.coldInitialise r)).replied r (.refused .custodyOpen))) ∧
    (s.mode = .day → (∀ x ∈ s.log.records, x.state = .released ∨ x.state = .withdrawn) →
      exec (.coldInitialise r) s = .next ((s.holding r (.coldInitialise r)).replied r (.ok .done)))

/-- A calibration weighing that settles ends its step: a zero step stores the settling reading's average code as the zero, a
span step stores the new span, and a verify step changes nothing; each sends CAL_DONE on the service port. -/
def Obligations.CalibrationEndsWithItsResult : Prop :=
  ∀ (s : State) (h : HeadId) (w : WeighRecord) (kind : CalKind) (code : ConverterCode) (v : Conversion) (p : Reading),
    let c := s.channel h
    let average := averageCode w.exponent (c.gathered.sum + code.toInt)
    let r := makeReading average c.zero c.span
      (c.gathered.saturated || isSaturated code.toInt) (c.gathered.clear && v.clear) false
    c.state = .weighing w → w.requester = .service → s.service.step = some ⟨h, kind, .weighing⟩ →
    c.conversion = some v → v.dropped = false → 2 ^ w.exponent ≤ c.gathered.count + 1 → w.delayRun = true →
    w.previous = some p → w.count ≤ w.stable + 1 → p.saturated = false → p.flag ≠ .high → r.saturated = false →
    r.flag ≠ .high → r.mass ≤ p.mass + w.band → p.mass ≤ r.mass + w.band →
    ∃ t outcome, exec (.conversionComplete h code) s = .next t ∧
      (t.channel h).state = .idle ∧ t.service = { s.service with step := none } ∧ t.heads = s.heads ∧ t.log = s.log ∧
      (s.link.service.notices.length < 8 → t.link.service.notices = s.link.service.notices ++
        [.calDone h kind.name outcome]) ∧
      match kind with
      | .zero =>
        (t.channel h).zero = (if r.clear = true then average else c.zero) ∧ (t.channel h).span = c.span ∧
          outcome = (if r.clear = true then .zeroDone c.zero average else .cradleOccupied c.zero average)
      | .span reference =>
        let d := average - c.zero
        let candidate := (roundAway (reference * 65536) d.toNat).toNat
        (t.channel h).zero = c.zero ∧
          (d < 2000 → (t.channel h).span = c.span ∧ outcome = .spanRange d c.span none) ∧
          (2000 ≤ d → 1 ≤ candidate → candidate ≤ 16777215 →
            (t.channel h).span = candidate ∧ outcome = .spanDone d c.span candidate) ∧
          (2000 ≤ d → candidate < 1 ∨ 16777215 < candidate →
            (t.channel h).span = c.span ∧ outcome = .spanRange d c.span (some candidate))
      | .verify reference tolerance =>
        let d := (r.mass : Int) - reference
        (t.channel h).zero = c.zero ∧ (t.channel h).span = c.span ∧
          outcome = (if d.natAbs ≤ tolerance then .pass r.mass d else .fail r.mass d)

/-- The last byte of the reply to RESTART, or to a COLD_INITIALISE answered OK, begins its effects. For RESTART they are
those of a supply restart, in every block, with the clock and the line levels as they stand, and RESTARTED(REQUEST) is sent
first; for COLD_INITIALISE they are those of a cold start with the line levels as they stand. RESTART is stated, as the
supply restart is, where no line has a debounce time of 0 and every bin is LOCKED. (That orders not yet wholly sent are
lost, and that a frame abandoned in a receiver adds nothing to the frame error counts among the statistics, are the model's
choices: notes/assumptions/16 and 17.) -/
def Obligations.RestartsFollowTheirReply : Prop :=
  ∀ (p : PortId) (s : State) (r : Req) (body : ReplyBody) (rest : List Instr) (levels : BitVec 16), s.Sized →
    (s.port p).transmitter = .sendingReply → (s.port p).reply = some (.ok body) →
    (∀ n < 16, levels.getLsbD n = (s.input n).high) →
    ((s.port p).requests = .coldInitialise r :: rest → exec (.frameSent p) s = exec (.coldStart levels) s) ∧
    ((s.port p).requests = .restart r :: rest → (∀ l ∈ s.inputs, 0 < l.debounce) →
      (∀ b ∈ s.rack.bins, b.lock = .locked) → s.release.reservations = [] → s.release.unlocks = [] →
      ∃ t, exec (.frameSent p) s = .next t ∧ s.RestartedFrom t .request levels ∧ t.clock = s.clock)

/-! ### Laws that every step keeps -/

/-- Every table keeps its size, and every queue of a port stays within its capacity. -/
def Obligations.ShapesAreKept : Prop :=
  ∀ s t : State, s.Sized → s.link.Bounded → step s = .next t → t.Sized ∧ t.link.Bounded

/-- Every bag is accounted for, after every step: records and reservations never overrun the log, no two records share a
sequence number, a record is JUDGED exactly while one head has its bag, no staging queue holds more than two, and every bin's
count and mass are those of the records that count in it. In DAY no bag is in hand, and no step ends that but one that enters
DAY while a head awaits its restart decision with a bag on its cradle (the model's reading: notes/assumptions/10). -/
def Obligations.EveryBagIsAccountedFor : Prop :=
  ∀ s t : State, s.LogLaw → s.log.Distinct → s.CustodyLaw → s.RackLaw → s.DayLaw → s.ReleaseLaw → step s = .next t →
    t.LogLaw ∧ t.log.Distinct ∧ t.CustodyLaw ∧ t.RackLaw ∧
      ((∀ h, (t.head h).starting = true → (t.head h).cradleRecord = none) → t.DayLaw)

/-- Nothing but a cold start loses a record or the clock: in any other step a record keeps what it was created with, moves
only as the manual's table of states allows, and does not change once it is RELEASED or WITHDRAWN; it leaves the log only
then, and only in DAY; and a clock that is set stays set. -/
def Obligations.RecordsAndClockAreKept : Prop :=
  ∀ (s t : State) (c : Instr), s.LogLaw → s.log.Distinct → s.CustodyLaw → exec c s = .next t →
    (∀ levels, c ≠ .coldStart levels) →
    (∀ p, c = .frameSent p → ∀ r, (s.port p).requests.head? ≠ some (.coldInitialise r)) →
    (s.clock.isSome = true → t.clock.isSome = true) ∧
    ∀ x ∈ s.log.records,
      (∃ y ∈ t.log.records, y.fixed = x.fixed ∧ x.state.mayBecome y.state = true ∧ (x.final = true → y = x)) ∨
        (x.final = true ∧ s.mode = .day)

/-- The law of release is kept: no bin is opened and no record released without two different officers, no more than four
bins are reserved and two open, and none outside DAY. -/
def Obligations.ReleaseLawIsKept : Prop :=
  ∀ s t : State, s.Sized → s.ReleaseLaw → step s = .next t → t.ReleaseLaw

/-- The advice table stays in order: one entry to an index, one PENDING entry to a tag, and each lodged entry once in the
lodging order. -/
def Obligations.AdviceTableIsKept : Prop :=
  ∀ s t : State, s.advices.Lawful → step s = .next t → t.advices.Lawful

/-- The outputs follow: each head's four outputs are commanded by its state, and while no service state is held every
output is driven at its owner's level. -/
def Obligations.OutputsFollowTheirOwners : Prop :=
  ∀ s t : State, s.Sized → s.Commanded → s.Driven → step s = .next t → t.Commanded ∧ t.Driven
end

