-- ==== Sys2Proof/Laws/Frames.lean ====
section
/-! SUPPORT. Laws/Frames.lean: the payloads of the frames sent: their lengths, within the 240 bytes of a frame (R194), and the
result byte with which a reply begins (R198, R206). -/

namespace Sys2Proof.Machine

@[simp] theorem littleEndian_length (size n : Nat) : (littleEndian size n).length = size := by
  induction size generalizing n with
  | zero => rfl
  | succ k ih => simp [littleEndian, ih]

@[simp] theorem padded_length (size : Nat) (l : List Byte) : (padded size l).length = max l.length size := by
  simp [padded]; omega

@[simp] theorem replyPayload_refused (code : Refuse) : replyPayload (.refused code) = [BitVec.ofNat 8 (refuseCode code)] := rfl

@[simp] theorem replyPayload_records (images : List (List Byte)) (next : Nat) :
    replyPayload (.ok (.records images next)) = recordsPayload images next := rfl

@[simp] theorem replyPayload_adviceImage (bytes : List Byte) : replyPayload (.ok (.adviceImage bytes)) = 0 :: bytes := rfl

@[simp] theorem outcomeByte_none : outcomeByte none = 0 := rfl

@[simp] theorem outcomeByte_some (code : Refuse) : outcomeByte (some code) = BitVec.ofNat 8 (refuseCode code) := rfl

@[simp] theorem outcomeBytes_length (outcomes : List (HeadId × Option Refuse)) :
    (outcomeBytes outcomes).length = outcomes.length := by simp [outcomeBytes]

@[simp] theorem replyPayload_headOutcomes (outcomes : List (HeadId × Option Refuse)) :
    replyPayload (.ok (.headOutcomes outcomes)) = 0 :: outcomeBytes outcomes := rfl

/-- A LOG_READ reply: six bytes and its images (R206). -/
theorem recordsPayload_length (images : List (List Byte)) (next : Nat) :
    (recordsPayload images next).length = 6 + images.flatten.length := by
  simp [recordsPayload]; omega

/-- The first payload byte of a reply answered OK is the result 0 (R198). -/
theorem okPayload_head (body : ReplyBody) : (okPayload body).head? = some 0 := by cases body <;> rfl

/-- A notice's payload fits its frame (R194). -/
theorem noticePayload_length (n : Notice) : (noticePayload n).length ≤ 240 := by
  cases n <;> simp [noticePayload, payloadMax]

/-- What a port's transmitter sends: nothing, the reply to the request in hand, or the front notice (R199). -/
theorem Port.sending_cases {p : Port} {frame : List Byte} (h : p.sending = some frame) :
    (∃ c rest rep, p.transmitter = .sendingReply ∧ p.requests = c :: rest ∧ p.reply = some rep ∧
        frame = replyFrame c rep) ∨
      ∃ n rest, p.transmitter = .sendingNotice ∧ p.notices = n :: rest ∧ frame = noticeFrame n := by
  unfold Port.sending at h
  split at h
  · next ht hq hr => exact .inl ⟨_, _, _, ht, hq, hr, (Option.some.inj h).symm⟩
  · next ht hn => exact .inr ⟨_, _, ht, hn, (Option.some.inj h).symm⟩
  · cases h

end Sys2Proof.Machine
end

