-- ==== Sys2Proof/Laws/State.lean ====
section
/-! SUPPORT. Laws/State.lean: the small lemmas of the updates of a state: what each leaves of every field, and what reading a
head, channel, port, line or output gives after it. All of them are simp lemmas, so that no proof unfolds an update. -/

namespace Sys2Proof.Machine

variable (s : State)

/-! ### One value for each head -/

@[simp] theorem PerHead.get_set_same {α : Type} (p : PerHead α) (h : HeadId) (v : α) : (p.set h v).get h = v := by
  cases h <;> rfl

theorem PerHead.get_set_of_ne {α : Type} (p : PerHead α) {h k : HeadId} (v : α) (ne : k ≠ h) :
    (p.set h v).get k = p.get k := by
  cases h <;> cases k <;> first | rfl | exact absurd rfl ne

@[simp] theorem PerHead.set_set {α : Type} (p : PerHead α) (h : HeadId) (v w : α) :
    (p.set h v).set h w = p.set h w := by
  cases h <;> rfl

@[simp] theorem PerHead.set_get {α : Type} (p : PerHead α) (h : HeadId) : p.set h (p.get h) = p := by
  cases h <;> rfl

@[simp] theorem PerHead.get_map {α β : Type} (p : PerHead α) (f : α → β) (h : HeadId) :
    (p.map f).get h = f (p.get h) := by
  cases h <;> rfl

/-! ### Heads and channels -/

@[simp] theorem State.setHead_channels (h : HeadId) (v : Head) : (s.setHead h v).channels = s.channels := rfl
@[simp] theorem State.setHead_scanner (h : HeadId) (v : Head) : (s.setHead h v).scanner = s.scanner := rfl
@[simp] theorem State.setHead_advices (h : HeadId) (v : Head) : (s.setHead h v).advices = s.advices := rfl
@[simp] theorem State.setHead_judge (h : HeadId) (v : Head) : (s.setHead h v).judge = s.judge := rfl
@[simp] theorem State.setHead_log (h : HeadId) (v : Head) : (s.setHead h v).log = s.log := rfl
@[simp] theorem State.setHead_rack (h : HeadId) (v : Head) : (s.setHead h v).rack = s.rack := rfl
@[simp] theorem State.setHead_lift (h : HeadId) (v : Head) : (s.setHead h v).lift = s.lift := rfl
@[simp] theorem State.setHead_release (h : HeadId) (v : Head) : (s.setHead h v).release = s.release := rfl
@[simp] theorem State.setHead_inputs (h : HeadId) (v : Head) : (s.setHead h v).inputs = s.inputs := rfl
@[simp] theorem State.setHead_outputs (h : HeadId) (v : Head) : (s.setHead h v).outputs = s.outputs := rfl
@[simp] theorem State.setHead_clock (h : HeadId) (v : Head) : (s.setHead h v).clock = s.clock := rfl
@[simp] theorem State.setHead_alarm (h : HeadId) (v : Head) : (s.setHead h v).alarm = s.alarm := rfl
@[simp] theorem State.setHead_service (h : HeadId) (v : Head) : (s.setHead h v).service = s.service := rfl
@[simp] theorem State.setHead_link (h : HeadId) (v : Head) : (s.setHead h v).link = s.link := rfl
@[simp] theorem State.setHead_free (h : HeadId) (v : Head) : (s.setHead h v).free = s.free := rfl
@[simp] theorem State.setHead_pending (h : HeadId) (v : Head) : (s.setHead h v).pending = s.pending := rfl

@[simp] theorem State.setHead_head (h : HeadId) (v : Head) : (s.setHead h v).head h = v := PerHead.get_set_same _ _ _

theorem State.setHead_head_of_ne {h k : HeadId} (v : Head) (ne : k ≠ h) : (s.setHead h v).head k = s.head k :=
  PerHead.get_set_of_ne _ _ ne

@[simp] theorem State.setHead_setHead (h : HeadId) (v w : Head) : (s.setHead h v).setHead h w = s.setHead h w := by
  simp [State.setHead]

@[simp] theorem State.setHead_self (h : HeadId) : s.setHead h (s.head h) = s := by
  simp [State.setHead, State.head]

@[simp] theorem State.setChannel_heads (h : HeadId) (v : Channel) : (s.setChannel h v).heads = s.heads := rfl
@[simp] theorem State.setChannel_scanner (h : HeadId) (v : Channel) : (s.setChannel h v).scanner = s.scanner := rfl
@[simp] theorem State.setChannel_advices (h : HeadId) (v : Channel) : (s.setChannel h v).advices = s.advices := rfl
@[simp] theorem State.setChannel_judge (h : HeadId) (v : Channel) : (s.setChannel h v).judge = s.judge := rfl
@[simp] theorem State.setChannel_log (h : HeadId) (v : Channel) : (s.setChannel h v).log = s.log := rfl
@[simp] theorem State.setChannel_rack (h : HeadId) (v : Channel) : (s.setChannel h v).rack = s.rack := rfl
@[simp] theorem State.setChannel_lift (h : HeadId) (v : Channel) : (s.setChannel h v).lift = s.lift := rfl
@[simp] theorem State.setChannel_release (h : HeadId) (v : Channel) : (s.setChannel h v).release = s.release := rfl
@[simp] theorem State.setChannel_inputs (h : HeadId) (v : Channel) : (s.setChannel h v).inputs = s.inputs := rfl
@[simp] theorem State.setChannel_outputs (h : HeadId) (v : Channel) : (s.setChannel h v).outputs = s.outputs := rfl
@[simp] theorem State.setChannel_clock (h : HeadId) (v : Channel) : (s.setChannel h v).clock = s.clock := rfl
@[simp] theorem State.setChannel_alarm (h : HeadId) (v : Channel) : (s.setChannel h v).alarm = s.alarm := rfl
@[simp] theorem State.setChannel_service (h : HeadId) (v : Channel) : (s.setChannel h v).service = s.service := rfl
@[simp] theorem State.setChannel_link (h : HeadId) (v : Channel) : (s.setChannel h v).link = s.link := rfl
@[simp] theorem State.setChannel_free (h : HeadId) (v : Channel) : (s.setChannel h v).free = s.free := rfl
@[simp] theorem State.setChannel_pending (h : HeadId) (v : Channel) : (s.setChannel h v).pending = s.pending := rfl

@[simp] theorem State.setChannel_channel (h : HeadId) (v : Channel) : (s.setChannel h v).channel h = v :=
  PerHead.get_set_same _ _ _

theorem State.setChannel_channel_of_ne {h k : HeadId} (v : Channel) (ne : k ≠ h) :
    (s.setChannel h v).channel k = s.channel k :=
  PerHead.get_set_of_ne _ _ ne

@[simp] theorem State.setChannel_setChannel (h : HeadId) (v w : Channel) :
    (s.setChannel h v).setChannel h w = s.setChannel h w := by
  simp [State.setChannel]

@[simp] theorem State.setChannel_self (h : HeadId) : s.setChannel h (s.channel h) = s := by
  simp [State.setChannel, State.channel]

/-! ### Ports -/

@[simp] theorem State.setPort_heads (p : PortId) (v : Port) : (s.setPort p v).heads = s.heads := by cases p <;> rfl
@[simp] theorem State.setPort_channels (p : PortId) (v : Port) :
    (s.setPort p v).channels = s.channels := by cases p <;> rfl
@[simp] theorem State.setPort_scanner (p : PortId) (v : Port) :
    (s.setPort p v).scanner = s.scanner := by cases p <;> rfl
@[simp] theorem State.setPort_advices (p : PortId) (v : Port) :
    (s.setPort p v).advices = s.advices := by cases p <;> rfl
@[simp] theorem State.setPort_judge (p : PortId) (v : Port) : (s.setPort p v).judge = s.judge := by cases p <;> rfl
@[simp] theorem State.setPort_log (p : PortId) (v : Port) : (s.setPort p v).log = s.log := by cases p <;> rfl
@[simp] theorem State.setPort_rack (p : PortId) (v : Port) : (s.setPort p v).rack = s.rack := by cases p <;> rfl
@[simp] theorem State.setPort_lift (p : PortId) (v : Port) : (s.setPort p v).lift = s.lift := by cases p <;> rfl
@[simp] theorem State.setPort_release (p : PortId) (v : Port) :
    (s.setPort p v).release = s.release := by cases p <;> rfl
@[simp] theorem State.setPort_inputs (p : PortId) (v : Port) : (s.setPort p v).inputs = s.inputs := by cases p <;> rfl
@[simp] theorem State.setPort_outputs (p : PortId) (v : Port) :
    (s.setPort p v).outputs = s.outputs := by cases p <;> rfl
@[simp] theorem State.setPort_clock (p : PortId) (v : Port) : (s.setPort p v).clock = s.clock := by cases p <;> rfl
@[simp] theorem State.setPort_alarm (p : PortId) (v : Port) : (s.setPort p v).alarm = s.alarm := by cases p <;> rfl
@[simp] theorem State.setPort_service (p : PortId) (v : Port) :
    (s.setPort p v).service = s.service := by cases p <;> rfl
@[simp] theorem State.setPort_free (p : PortId) (v : Port) : (s.setPort p v).free = s.free := by cases p <;> rfl
@[simp] theorem State.setPort_pending (p : PortId) (v : Port) :
    (s.setPort p v).pending = s.pending := by cases p <;> rfl

@[simp] theorem State.setPort_port (p : PortId) (v : Port) : (s.setPort p v).port p = v := by cases p <;> rfl

theorem State.setPort_port_of_ne {p q : PortId} (v : Port) (ne : q ≠ p) : (s.setPort p v).port q = s.port q := by
  cases p <;> cases q <;> first | rfl | exact absurd rfl ne

@[simp] theorem State.setPort_setPort (p : PortId) (v w : Port) : (s.setPort p v).setPort p w = s.setPort p w := by
  cases p <;> rfl

@[simp] theorem State.setPort_self (p : PortId) : s.setPort p (s.port p) = s := by cases p <;> rfl

@[simp] theorem State.setPort_link_count (p : PortId) (v : Port) : (s.setPort p v).link.count = s.link.count := by
  cases p <;> rfl
@[simp] theorem State.setPort_link_unit (p : PortId) (v : Port) : (s.setPort p v).link.unit = s.link.unit := by
  cases p <;> rfl
@[simp] theorem State.setPort_link_policy (p : PortId) (v : Port) : (s.setPort p v).link.policy = s.link.policy := by
  cases p <;> rfl
@[simp] theorem State.setPort_link_lost (p : PortId) (v : Port) : (s.setPort p v).link.lost = s.link.lost := by
  cases p <;> rfl
@[simp] theorem State.setPort_link_timer (p : PortId) (v : Port) : (s.setPort p v).link.timer = s.link.timer := by
  cases p <;> rfl

@[simp] theorem pump_heads : (pump s).heads = s.heads := rfl
@[simp] theorem pump_channels : (pump s).channels = s.channels := rfl
@[simp] theorem pump_scanner : (pump s).scanner = s.scanner := rfl
@[simp] theorem pump_advices : (pump s).advices = s.advices := rfl
@[simp] theorem pump_judge : (pump s).judge = s.judge := rfl
@[simp] theorem pump_log : (pump s).log = s.log := rfl
@[simp] theorem pump_rack : (pump s).rack = s.rack := rfl
@[simp] theorem pump_lift : (pump s).lift = s.lift := rfl
@[simp] theorem pump_release : (pump s).release = s.release := rfl
@[simp] theorem pump_inputs : (pump s).inputs = s.inputs := rfl
@[simp] theorem pump_outputs : (pump s).outputs = s.outputs := rfl
@[simp] theorem pump_clock : (pump s).clock = s.clock := rfl
@[simp] theorem pump_alarm : (pump s).alarm = s.alarm := rfl
@[simp] theorem pump_service : (pump s).service = s.service := rfl
@[simp] theorem pump_free : (pump s).free = s.free := rfl
@[simp] theorem pump_pending : (pump s).pending = s.pending := rfl

@[simp] theorem pump_link_count : (pump s).link.count = s.link.count := rfl
@[simp] theorem pump_link_unit : (pump s).link.unit = s.link.unit := rfl
@[simp] theorem pump_link_policy : (pump s).link.policy = s.link.policy := rfl
@[simp] theorem pump_link_lost : (pump s).link.lost = s.link.lost := rfl
@[simp] theorem pump_link_timer : (pump s).link.timer = s.link.timer := rfl

@[simp] theorem Port.pump_receiver (p : Port) : p.pump.receiver = p.receiver := by unfold Port.pump; split <;> rfl
@[simp] theorem Port.pump_requests (p : Port) : p.pump.requests = p.requests := by unfold Port.pump; split <;> rfl
@[simp] theorem Port.pump_reply (p : Port) : p.pump.reply = p.reply := by unfold Port.pump; split <;> rfl
@[simp] theorem Port.pump_notices (p : Port) : p.pump.notices = p.notices := by unfold Port.pump; split <;> rfl
@[simp] theorem Port.pump_receiveOver (p : Port) : p.pump.receiveOver = p.receiveOver := by
  unfold Port.pump; split <;> rfl
@[simp] theorem Port.pump_noticeOver (p :
    Port) : p.pump.noticeOver = p.noticeOver := by unfold Port.pump; split <;> rfl

@[simp] theorem pump_port (p : PortId) : (pump s).port p = (s.port p).pump := by cases p <;> rfl

/-! ### Lines and outputs -/

@[simp] theorem State.setInput_heads (n : Nat) (v : InputLine) : (s.setInput n v).heads = s.heads := rfl
@[simp] theorem State.setInput_channels (n : Nat) (v : InputLine) : (s.setInput n v).channels = s.channels := rfl
@[simp] theorem State.setInput_scanner (n : Nat) (v : InputLine) : (s.setInput n v).scanner = s.scanner := rfl
@[simp] theorem State.setInput_advices (n : Nat) (v : InputLine) : (s.setInput n v).advices = s.advices := rfl
@[simp] theorem State.setInput_judge (n : Nat) (v : InputLine) : (s.setInput n v).judge = s.judge := rfl
@[simp] theorem State.setInput_log (n : Nat) (v : InputLine) : (s.setInput n v).log = s.log := rfl
@[simp] theorem State.setInput_rack (n : Nat) (v : InputLine) : (s.setInput n v).rack = s.rack := rfl
@[simp] theorem State.setInput_lift (n : Nat) (v : InputLine) : (s.setInput n v).lift = s.lift := rfl
@[simp] theorem State.setInput_release (n : Nat) (v : InputLine) : (s.setInput n v).release = s.release := rfl
@[simp] theorem State.setInput_outputs (n : Nat) (v : InputLine) : (s.setInput n v).outputs = s.outputs := rfl
@[simp] theorem State.setInput_clock (n : Nat) (v : InputLine) : (s.setInput n v).clock = s.clock := rfl
@[simp] theorem State.setInput_alarm (n : Nat) (v : InputLine) : (s.setInput n v).alarm = s.alarm := rfl
@[simp] theorem State.setInput_service (n : Nat) (v : InputLine) : (s.setInput n v).service = s.service := rfl
@[simp] theorem State.setInput_link (n : Nat) (v : InputLine) : (s.setInput n v).link = s.link := rfl
@[simp] theorem State.setInput_free (n : Nat) (v : InputLine) : (s.setInput n v).free = s.free := rfl
@[simp] theorem State.setInput_pending (n : Nat) (v : InputLine) : (s.setInput n v).pending = s.pending := rfl

theorem State.setInput_input {n : Nat} (v : InputLine) (lt : n < s.inputs.length) : (s.setInput n v).input n = v := by
  simp [State.input, State.setInput, lt]

theorem State.setInput_input_of_ne {n m : Nat} (v : InputLine) (ne : m ≠ n) : (s.setInput n v).input m = s.input m := by
  simp [State.input, State.setInput, List.getElem?_set_ne (Ne.symm ne)]

@[simp] theorem State.setInput_inputs_length (n : Nat) (v : InputLine) :
    (s.setInput n v).inputs.length = s.inputs.length := by
  simp [State.setInput]

@[simp] theorem State.setOutput_heads (n : Nat) (v : OutputLine) : (s.setOutput n v).heads = s.heads := rfl
@[simp] theorem State.setOutput_channels (n : Nat) (v : OutputLine) : (s.setOutput n v).channels = s.channels := rfl
@[simp] theorem State.setOutput_scanner (n : Nat) (v : OutputLine) : (s.setOutput n v).scanner = s.scanner := rfl
@[simp] theorem State.setOutput_advices (n : Nat) (v : OutputLine) : (s.setOutput n v).advices = s.advices := rfl
@[simp] theorem State.setOutput_judge (n : Nat) (v : OutputLine) : (s.setOutput n v).judge = s.judge := rfl
@[simp] theorem State.setOutput_log (n : Nat) (v : OutputLine) : (s.setOutput n v).log = s.log := rfl
@[simp] theorem State.setOutput_rack (n : Nat) (v : OutputLine) : (s.setOutput n v).rack = s.rack := rfl
@[simp] theorem State.setOutput_lift (n : Nat) (v : OutputLine) : (s.setOutput n v).lift = s.lift := rfl
@[simp] theorem State.setOutput_release (n : Nat) (v : OutputLine) : (s.setOutput n v).release = s.release := rfl
@[simp] theorem State.setOutput_inputs (n : Nat) (v : OutputLine) : (s.setOutput n v).inputs = s.inputs := rfl
@[simp] theorem State.setOutput_clock (n : Nat) (v : OutputLine) : (s.setOutput n v).clock = s.clock := rfl
@[simp] theorem State.setOutput_alarm (n : Nat) (v : OutputLine) : (s.setOutput n v).alarm = s.alarm := rfl
@[simp] theorem State.setOutput_service (n : Nat) (v : OutputLine) : (s.setOutput n v).service = s.service := rfl
@[simp] theorem State.setOutput_link (n : Nat) (v : OutputLine) : (s.setOutput n v).link = s.link := rfl
@[simp] theorem State.setOutput_free (n : Nat) (v : OutputLine) : (s.setOutput n v).free = s.free := rfl
@[simp] theorem State.setOutput_pending (n : Nat) (v : OutputLine) : (s.setOutput n v).pending = s.pending := rfl

theorem State.setOutput_output {n : Nat} (v : OutputLine) (lt : n < s.outputs.length) :
    (s.setOutput n v).output n = v := by
  simp [State.output, State.setOutput, lt]

theorem State.setOutput_output_of_ne {n m : Nat} (v : OutputLine) (ne : m ≠ n) :
    (s.setOutput n v).output m = s.output m := by
  simp [State.output, State.setOutput, List.getElem?_set_ne (Ne.symm ne)]

@[simp] theorem State.setOutput_outputs_length (n : Nat) (v : OutputLine) :
    (s.setOutput n v).outputs.length = s.outputs.length := by
  simp [State.setOutput]

/-! ### Records, bins and free values -/

@[simp] theorem State.updateRecord_heads (seq : Nat) (f : Record → Record) :
    (s.updateRecord seq f).heads = s.heads := rfl
@[simp] theorem State.updateRecord_channels (seq : Nat) (f : Record → Record) :
    (s.updateRecord seq f).channels = s.channels := rfl
@[simp] theorem State.updateRecord_scanner (seq : Nat) (f : Record → Record) :
    (s.updateRecord seq f).scanner = s.scanner := rfl
@[simp] theorem State.updateRecord_advices (seq : Nat) (f : Record → Record) :
    (s.updateRecord seq f).advices = s.advices := rfl
@[simp] theorem State.updateRecord_judge (seq : Nat) (f : Record → Record) :
    (s.updateRecord seq f).judge = s.judge := rfl
@[simp] theorem State.updateRecord_rack (seq : Nat) (f : Record → Record) :
    (s.updateRecord seq f).rack = s.rack := rfl
@[simp] theorem State.updateRecord_lift (seq : Nat) (f : Record → Record) :
    (s.updateRecord seq f).lift = s.lift := rfl
@[simp] theorem State.updateRecord_release (seq : Nat) (f : Record → Record) :
    (s.updateRecord seq f).release = s.release := rfl
@[simp] theorem State.updateRecord_inputs (seq : Nat) (f : Record → Record) :
    (s.updateRecord seq f).inputs = s.inputs := rfl
@[simp] theorem State.updateRecord_outputs (seq : Nat) (f : Record → Record) :
    (s.updateRecord seq f).outputs = s.outputs := rfl
@[simp] theorem State.updateRecord_clock (seq : Nat) (f : Record → Record) :
    (s.updateRecord seq f).clock = s.clock := rfl
@[simp] theorem State.updateRecord_alarm (seq : Nat) (f : Record → Record) :
    (s.updateRecord seq f).alarm = s.alarm := rfl
@[simp] theorem State.updateRecord_service (seq : Nat) (f : Record → Record) :
    (s.updateRecord seq f).service = s.service := rfl
@[simp] theorem State.updateRecord_link (seq : Nat) (f : Record → Record) :
    (s.updateRecord seq f).link = s.link := rfl
@[simp] theorem State.updateRecord_free (seq : Nat) (f : Record → Record) :
    (s.updateRecord seq f).free = s.free := rfl
@[simp] theorem State.updateRecord_pending (seq : Nat) (f : Record → Record) :
    (s.updateRecord seq f).pending = s.pending := rfl

@[simp] theorem State.updateRecord_log_nextSeq (seq : Nat) (g : Record → Record) :
    (s.updateRecord seq g).log.nextSeq = s.log.nextSeq := rfl
@[simp] theorem State.updateRecord_log_reservations (seq : Nat) (g : Record → Record) :
    (s.updateRecord seq g).log.reservations = s.log.reservations := rfl
@[simp] theorem State.updateRecord_log_lowWater (seq : Nat) (g : Record → Record) :
    (s.updateRecord seq g).log.lowWater = s.log.lowWater := rfl
@[simp] theorem State.updateRecord_log_lowFlag (seq : Nat) (g : Record → Record) :
    (s.updateRecord seq g).log.lowFlag = s.log.lowFlag := rfl

@[simp] theorem State.updateRecord_records_length (seq : Nat) (f : Record → Record) :
    (s.updateRecord seq f).log.records.length = s.log.records.length := by
  simp [State.updateRecord]

@[simp] theorem State.updateBin_heads (n : Nat) (f : Bin → Bin) : (s.updateBin n f).heads = s.heads := rfl
@[simp] theorem State.updateBin_channels (n : Nat) (f : Bin → Bin) : (s.updateBin n f).channels = s.channels := rfl
@[simp] theorem State.updateBin_scanner (n : Nat) (f : Bin → Bin) : (s.updateBin n f).scanner = s.scanner := rfl
@[simp] theorem State.updateBin_advices (n : Nat) (f : Bin → Bin) : (s.updateBin n f).advices = s.advices := rfl
@[simp] theorem State.updateBin_judge (n : Nat) (f : Bin → Bin) : (s.updateBin n f).judge = s.judge := rfl
@[simp] theorem State.updateBin_log (n : Nat) (f : Bin → Bin) : (s.updateBin n f).log = s.log := rfl
@[simp] theorem State.updateBin_lift (n : Nat) (f : Bin → Bin) : (s.updateBin n f).lift = s.lift := rfl
@[simp] theorem State.updateBin_release (n : Nat) (f : Bin → Bin) : (s.updateBin n f).release = s.release := rfl
@[simp] theorem State.updateBin_inputs (n : Nat) (f : Bin → Bin) : (s.updateBin n f).inputs = s.inputs := rfl
@[simp] theorem State.updateBin_outputs (n : Nat) (f : Bin → Bin) : (s.updateBin n f).outputs = s.outputs := rfl
@[simp] theorem State.updateBin_clock (n : Nat) (f : Bin → Bin) : (s.updateBin n f).clock = s.clock := rfl
@[simp] theorem State.updateBin_alarm (n : Nat) (f : Bin → Bin) : (s.updateBin n f).alarm = s.alarm := rfl
@[simp] theorem State.updateBin_service (n : Nat) (f : Bin → Bin) : (s.updateBin n f).service = s.service := rfl
@[simp] theorem State.updateBin_link (n : Nat) (f : Bin → Bin) : (s.updateBin n f).link = s.link := rfl
@[simp] theorem State.updateBin_free (n : Nat) (f : Bin → Bin) : (s.updateBin n f).free = s.free := rfl
@[simp] theorem State.updateBin_pending (n : Nat) (f : Bin → Bin) : (s.updateBin n f).pending = s.pending := rfl

@[simp] theorem State.updateBin_rack_zoneMap (n : Nat) (g : Bin → Bin) :
    (s.updateBin n g).rack.zoneMap = s.rack.zoneMap := rfl
@[simp] theorem State.updateBin_rack_zoneFull (n : Nat) (g : Bin → Bin) :
    (s.updateBin n g).rack.zoneFull = s.rack.zoneFull := rfl
@[simp] theorem State.updateBin_rack_rackFull (n : Nat) (g : Bin → Bin) :
    (s.updateBin n g).rack.rackFull = s.rack.rackFull := rfl

@[simp] theorem State.updateBin_bins_length (n : Nat) (f : Bin → Bin) :
    (s.updateBin n f).rack.bins.length = s.rack.bins.length := by
  simp [State.updateBin]

theorem State.updateBin_bin (n m : Nat) (f : Bin → Bin) :
    (s.updateBin n f).bin m = if n = m then (s.bin m).map f else s.bin m := by
  simp only [State.bin, State.updateBin, List.getElem?_modify]
  split <;> simp

@[simp] theorem State.drawn_heads : (s.drawn).heads = s.heads := rfl
@[simp] theorem State.drawn_channels : (s.drawn).channels = s.channels := rfl
@[simp] theorem State.drawn_scanner : (s.drawn).scanner = s.scanner := rfl
@[simp] theorem State.drawn_advices : (s.drawn).advices = s.advices := rfl
@[simp] theorem State.drawn_judge : (s.drawn).judge = s.judge := rfl
@[simp] theorem State.drawn_log : (s.drawn).log = s.log := rfl
@[simp] theorem State.drawn_rack : (s.drawn).rack = s.rack := rfl
@[simp] theorem State.drawn_lift : (s.drawn).lift = s.lift := rfl
@[simp] theorem State.drawn_release : (s.drawn).release = s.release := rfl
@[simp] theorem State.drawn_inputs : (s.drawn).inputs = s.inputs := rfl
@[simp] theorem State.drawn_outputs : (s.drawn).outputs = s.outputs := rfl
@[simp] theorem State.drawn_clock : (s.drawn).clock = s.clock := rfl
@[simp] theorem State.drawn_alarm : (s.drawn).alarm = s.alarm := rfl
@[simp] theorem State.drawn_service : (s.drawn).service = s.service := rfl
@[simp] theorem State.drawn_link : (s.drawn).link = s.link := rfl
@[simp] theorem State.drawn_pending : (s.drawn).pending = s.pending := rfl

/-! ### What is read through other fields -/

@[simp] theorem State.setHead_channel (h : HeadId) (v : Head) (k : HeadId) :
    (s.setHead h v).channel k = s.channel k := rfl
@[simp] theorem State.setHead_port (h : HeadId) (v : Head) (q : PortId) : (s.setHead h v).port q = s.port q := rfl
@[simp] theorem State.setHead_input (h : HeadId) (v : Head) (m : Nat) : (s.setHead h v).input m = s.input m := rfl
@[simp] theorem State.setHead_output (h : HeadId) (v : Head) (m : Nat) : (s.setHead h v).output m = s.output m := rfl
@[simp] theorem State.setHead_active (h : HeadId) (v : Head) (m : Nat) : (s.setHead h v).active m = s.active m := rfl
@[simp] theorem State.setHead_cradle (h : HeadId) (v : Head) (k : HeadId) :
    (s.setHead h v).cradle k = s.cradle k := rfl
@[simp] theorem State.setHead_record (h : HeadId) (v : Head) (q : Nat) : (s.setHead h v).record q = s.record q := rfl
@[simp] theorem State.setHead_bin (h : HeadId) (v : Head) (m : Nat) : (s.setHead h v).bin m = s.bin m := rfl
@[simp] theorem State.setHead_mode (h : HeadId) (v : Head) : (s.setHead h v).mode = s.mode := rfl
@[simp] theorem State.setHead_now (h : HeadId) (v : Head) : (s.setHead h v).now = s.now := rfl

@[simp] theorem State.setChannel_head (h : HeadId) (v : Channel) (k : HeadId) :
    (s.setChannel h v).head k = s.head k := rfl
@[simp] theorem State.setChannel_port (h : HeadId) (v : Channel) (q : PortId) :
    (s.setChannel h v).port q = s.port q := rfl
@[simp] theorem State.setChannel_input (h : HeadId) (v : Channel) (m : Nat) :
    (s.setChannel h v).input m = s.input m := rfl
@[simp] theorem State.setChannel_output (h : HeadId) (v : Channel) (m : Nat) :
    (s.setChannel h v).output m = s.output m := rfl
@[simp] theorem State.setChannel_active (h : HeadId) (v : Channel) (m : Nat) :
    (s.setChannel h v).active m = s.active m := rfl
@[simp] theorem State.setChannel_cradle (h : HeadId) (v : Channel) (k : HeadId) :
    (s.setChannel h v).cradle k = s.cradle k := rfl
@[simp] theorem State.setChannel_record (h : HeadId) (v : Channel) (q : Nat) :
    (s.setChannel h v).record q = s.record q := rfl
@[simp] theorem State.setChannel_bin (h : HeadId) (v : Channel) (m : Nat) : (s.setChannel h v).bin m = s.bin m := rfl
@[simp] theorem State.setChannel_mode (h : HeadId) (v : Channel) : (s.setChannel h v).mode = s.mode := rfl
@[simp] theorem State.setChannel_now (h : HeadId) (v : Channel) : (s.setChannel h v).now = s.now := rfl

@[simp] theorem State.setPort_head (p : PortId) (v : Port) (k : HeadId) :
    (s.setPort p v).head k = s.head k := by cases p <;> rfl
@[simp] theorem State.setPort_channel (p : PortId) (v : Port) (k : HeadId) :
    (s.setPort p v).channel k = s.channel k := by cases p <;> rfl
@[simp] theorem State.setPort_input (p : PortId) (v : Port) (m : Nat) :
    (s.setPort p v).input m = s.input m := by cases p <;> rfl
@[simp] theorem State.setPort_output (p : PortId) (v : Port) (m : Nat) :
    (s.setPort p v).output m = s.output m := by cases p <;> rfl
@[simp] theorem State.setPort_active (p : PortId) (v : Port) (m : Nat) :
    (s.setPort p v).active m = s.active m := by cases p <;> rfl
@[simp] theorem State.setPort_cradle (p : PortId) (v : Port) (k : HeadId) :
    (s.setPort p v).cradle k = s.cradle k := by cases p <;> rfl
@[simp] theorem State.setPort_record (p : PortId) (v : Port) (q : Nat) :
    (s.setPort p v).record q = s.record q := by cases p <;> rfl
@[simp] theorem State.setPort_bin (p : PortId) (v : Port) (m : Nat) :
    (s.setPort p v).bin m = s.bin m := by cases p <;> rfl
@[simp] theorem State.setPort_mode (p : PortId) (v : Port) : (s.setPort p v).mode = s.mode := by cases p <;> rfl
@[simp] theorem State.setPort_now (p : PortId) (v : Port) : (s.setPort p v).now = s.now := by cases p <;> rfl

@[simp] theorem State.setInput_head (n : Nat) (v : InputLine) (k : HeadId) : (s.setInput n v).head k = s.head k := rfl
@[simp] theorem State.setInput_channel (n : Nat) (v : InputLine) (k : HeadId) :
    (s.setInput n v).channel k = s.channel k := rfl
@[simp] theorem State.setInput_port (n : Nat) (v : InputLine) (q : PortId) : (s.setInput n v).port q = s.port q := rfl
@[simp] theorem State.setInput_output (n : Nat) (v : InputLine) (m : Nat) :
    (s.setInput n v).output m = s.output m := rfl
@[simp] theorem State.setInput_record (n : Nat) (v : InputLine) (q : Nat) :
    (s.setInput n v).record q = s.record q := rfl
@[simp] theorem State.setInput_bin (n : Nat) (v : InputLine) (m : Nat) : (s.setInput n v).bin m = s.bin m := rfl
@[simp] theorem State.setInput_mode (n : Nat) (v : InputLine) : (s.setInput n v).mode = s.mode := rfl
@[simp] theorem State.setInput_now (n : Nat) (v : InputLine) : (s.setInput n v).now = s.now := rfl

@[simp] theorem State.setOutput_head (n : Nat) (v : OutputLine) (k : HeadId) :
    (s.setOutput n v).head k = s.head k := rfl
@[simp] theorem State.setOutput_channel (n : Nat) (v : OutputLine) (k : HeadId) :
    (s.setOutput n v).channel k = s.channel k := rfl
@[simp] theorem State.setOutput_port (n : Nat) (v : OutputLine) (q : PortId) :
    (s.setOutput n v).port q = s.port q := rfl
@[simp] theorem State.setOutput_input (n : Nat) (v : OutputLine) (m : Nat) :
    (s.setOutput n v).input m = s.input m := rfl
@[simp] theorem State.setOutput_active (n : Nat) (v : OutputLine) (m : Nat) :
    (s.setOutput n v).active m = s.active m := rfl
@[simp] theorem State.setOutput_cradle (n : Nat) (v : OutputLine) (k : HeadId) :
    (s.setOutput n v).cradle k = s.cradle k := rfl
@[simp] theorem State.setOutput_record (n : Nat) (v : OutputLine) (q : Nat) :
    (s.setOutput n v).record q = s.record q := rfl
@[simp] theorem State.setOutput_bin (n : Nat) (v : OutputLine) (m : Nat) : (s.setOutput n v).bin m = s.bin m := rfl
@[simp] theorem State.setOutput_mode (n : Nat) (v : OutputLine) : (s.setOutput n v).mode = s.mode := rfl
@[simp] theorem State.setOutput_now (n : Nat) (v : OutputLine) : (s.setOutput n v).now = s.now := rfl

@[simp] theorem State.updateRecord_head (n : Nat) (f : Record → Record) (k : HeadId) :
    (s.updateRecord n f).head k = s.head k := rfl
@[simp] theorem State.updateRecord_channel (n : Nat) (f : Record → Record) (k : HeadId) :
    (s.updateRecord n f).channel k = s.channel k := rfl
@[simp] theorem State.updateRecord_port (n : Nat) (f : Record → Record) (q : PortId) :
    (s.updateRecord n f).port q = s.port q := rfl
@[simp] theorem State.updateRecord_input (n : Nat) (f : Record → Record) (m : Nat) :
    (s.updateRecord n f).input m = s.input m := rfl
@[simp] theorem State.updateRecord_output (n : Nat) (f : Record → Record) (m : Nat) :
    (s.updateRecord n f).output m = s.output m := rfl
@[simp] theorem State.updateRecord_active (n : Nat) (f : Record → Record) (m : Nat) :
    (s.updateRecord n f).active m = s.active m := rfl
@[simp] theorem State.updateRecord_cradle (n : Nat) (f : Record → Record) (k : HeadId) :
    (s.updateRecord n f).cradle k = s.cradle k := rfl
@[simp] theorem State.updateRecord_bin (n : Nat) (f : Record → Record) (m : Nat) :
    (s.updateRecord n f).bin m = s.bin m := rfl
@[simp] theorem State.updateRecord_mode (n : Nat) (f : Record → Record) : (s.updateRecord n f).mode = s.mode := rfl
@[simp] theorem State.updateRecord_now (n : Nat) (f : Record → Record) : (s.updateRecord n f).now = s.now := rfl

@[simp] theorem State.updateBin_head (n : Nat) (f : Bin → Bin) (k : HeadId) :
    (s.updateBin n f).head k = s.head k := rfl
@[simp] theorem State.updateBin_channel (n : Nat) (f : Bin → Bin) (k : HeadId) :
    (s.updateBin n f).channel k = s.channel k := rfl
@[simp] theorem State.updateBin_port (n : Nat) (f : Bin → Bin) (q : PortId) :
    (s.updateBin n f).port q = s.port q := rfl
@[simp] theorem State.updateBin_input (n : Nat) (f : Bin → Bin) (m : Nat) :
    (s.updateBin n f).input m = s.input m := rfl
@[simp] theorem State.updateBin_output (n : Nat) (f : Bin → Bin) (m : Nat) :
    (s.updateBin n f).output m = s.output m := rfl
@[simp] theorem State.updateBin_active (n : Nat) (f : Bin → Bin) (m : Nat) :
    (s.updateBin n f).active m = s.active m := rfl
@[simp] theorem State.updateBin_cradle (n : Nat) (f : Bin → Bin) (k : HeadId) :
    (s.updateBin n f).cradle k = s.cradle k := rfl
@[simp] theorem State.updateBin_record (n : Nat) (f : Bin → Bin) (q : Nat) :
    (s.updateBin n f).record q = s.record q := rfl
@[simp] theorem State.updateBin_mode (n : Nat) (f : Bin → Bin) : (s.updateBin n f).mode = s.mode := rfl
@[simp] theorem State.updateBin_now (n : Nat) (f : Bin → Bin) : (s.updateBin n f).now = s.now := rfl

@[simp] theorem State.drawn_head (k : HeadId) : (s.drawn).head k = s.head k := rfl
@[simp] theorem State.drawn_channel (k : HeadId) : (s.drawn).channel k = s.channel k := rfl
@[simp] theorem State.drawn_port (q : PortId) : (s.drawn).port q = s.port q := rfl
@[simp] theorem State.drawn_input (m : Nat) : (s.drawn).input m = s.input m := rfl
@[simp] theorem State.drawn_output (m : Nat) : (s.drawn).output m = s.output m := rfl
@[simp] theorem State.drawn_active (m : Nat) : (s.drawn).active m = s.active m := rfl
@[simp] theorem State.drawn_cradle (k : HeadId) : (s.drawn).cradle k = s.cradle k := rfl
@[simp] theorem State.drawn_record (q : Nat) : (s.drawn).record q = s.record q := rfl
@[simp] theorem State.drawn_bin (m : Nat) : (s.drawn).bin m = s.bin m := rfl
@[simp] theorem State.drawn_mode : (s.drawn).mode = s.mode := rfl
@[simp] theorem State.drawn_now : (s.drawn).now = s.now := rfl

@[simp] theorem pump_head (k : HeadId) : (pump s).head k = s.head k := rfl
@[simp] theorem pump_channel (k : HeadId) : (pump s).channel k = s.channel k := rfl
@[simp] theorem pump_input (m : Nat) : (pump s).input m = s.input m := rfl
@[simp] theorem pump_output (m : Nat) : (pump s).output m = s.output m := rfl
@[simp] theorem pump_active (m : Nat) : (pump s).active m = s.active m := rfl
@[simp] theorem pump_cradle (k : HeadId) : (pump s).cradle k = s.cradle k := rfl
@[simp] theorem pump_record (q : Nat) : (pump s).record q = s.record q := rfl
@[simp] theorem pump_bin (m : Nat) : (pump s).bin m = s.bin m := rfl
@[simp] theorem pump_mode : (pump s).mode = s.mode := rfl
@[simp] theorem pump_now : (pump s).now = s.now := rfl

end Sys2Proof.Machine
end

