-- ==== Sys2Proof/Laws/Ops.lean ====
section
/-! SUPPORT. Laws/Ops.lean: what the shared operations of Machine/Ops.lean can do: for each, every field it leaves as it is,
and what it makes of the others. -/

namespace Sys2Proof.Machine

variable (s : State)

/-! ### Notices -/

@[simp] theorem notify_frame (n : Notice) :
      (notify n s).heads = s.heads ∧ (notify n s).channels = s.channels ∧ (notify n s).scanner = s.scanner ∧
      (notify n s).advices = s.advices ∧ (notify n s).judge = s.judge ∧ (notify n s).log = s.log ∧
      (notify n s).rack = s.rack ∧ (notify n s).lift = s.lift ∧ (notify n s).release = s.release ∧
      (notify n s).inputs = s.inputs ∧ (notify n s).outputs = s.outputs ∧ (notify n s).clock = s.clock ∧
      (notify n s).alarm = s.alarm ∧ (notify n s).service = s.service ∧ (notify n s).free = s.free ∧
      (notify n s).pending = s.pending ∧ (∀ k : HeadId, (notify n s).head k = s.head k) ∧
      (∀ k : HeadId, (notify n s).channel k = s.channel k) ∧ (∀ m : Nat, (notify n s).input m = s.input m) ∧
      (∀ m : Nat, (notify n s).output m = s.output m) ∧ (∀ m : Nat, (notify n s).active m = s.active m) ∧
      (∀ k : HeadId, (notify n s).cradle k = s.cradle k) ∧ (∀ q : Nat, (notify n s).record q = s.record q) ∧
      (∀ m : Nat, (notify n s).bin m = s.bin m) ∧ (notify n s).mode = s.mode ∧ (notify n s).now = s.now := by
  simp [notify]

@[simp] theorem notify_link_count (n : Notice) : (notify n s).link.count = s.link.count := by simp [notify]
@[simp] theorem notify_link_unit (n : Notice) : (notify n s).link.unit = s.link.unit := by simp [notify]
@[simp] theorem notify_link_policy (n : Notice) : (notify n s).link.policy = s.link.policy := by simp [notify]
@[simp] theorem notify_link_lost (n : Notice) : (notify n s).link.lost = s.link.lost := by simp [notify]
@[simp] theorem notify_link_timer (n : Notice) : (notify n s).link.timer = s.link.timer := by simp [notify]

/-- A notice joins the tail of its port's queue, or is discarded with the flag set (R200). -/
theorem notify_port (n : Notice) (p : PortId) :
    (notify n s).port p = if p = n.port then (s.port p).offer (noticeCapacity p) n else s.port p := by
  unfold notify
  split
  · next e => subst e; simp
  · next ne => simp [State.setPort_port_of_ne _ _ ne]

@[simp] theorem Port.offer_receiver (p : Port) (c : Nat) (n : Notice) : (p.offer c n).receiver = p.receiver := by
  unfold Port.offer; split <;> rfl
@[simp] theorem Port.offer_requests (p : Port) (c : Nat) (n : Notice) : (p.offer c n).requests = p.requests := by
  unfold Port.offer; split <;> rfl
@[simp] theorem Port.offer_reply (p : Port) (c : Nat) (n : Notice) : (p.offer c n).reply = p.reply := by
  unfold Port.offer; split <;> rfl
@[simp] theorem Port.offer_transmitter (p : Port) (c : Nat) (n : Notice) :
    (p.offer c n).transmitter = p.transmitter := by
  unfold Port.offer; split <;> rfl
@[simp] theorem Port.offer_receiveOver (p : Port) (c : Nat) (n : Notice) :
    (p.offer c n).receiveOver = p.receiveOver := by
  unfold Port.offer; split <;> rfl

/-- The queue after an offer is within its capacity if it was before (R200). -/
theorem Port.offer_notices_length (p : Port) (c : Nat) (n : Notice) (le : p.notices.length ≤ c) :
    (p.offer c n).notices.length ≤ c := by
  unfold Port.offer
  split <;> simp <;> omega

/-- An offered notice is in the queue where there was room (R200). -/
theorem Port.mem_offer (p : Port) (c : Nat) (n : Notice) (lt : p.notices.length < c) : n ∈ (p.offer c n).notices := by
  simp [Port.offer, lt]

/-- An offer takes nothing out of the queue (R200). -/
theorem Port.mem_offer_of_mem (p : Port) (c : Nat) (n m : Notice) (mem : m ∈ p.notices) :
    m ∈ (p.offer c n).notices := by
  unfold Port.offer
  split <;> simp [mem]

/-- A notice takes nothing out of either queue (R200). -/
theorem mem_notices_notify (p : PortId) (n m : Notice) (mem : m ∈ (s.port p).notices) :
    m ∈ ((notify n s).port p).notices := by
  rw [notify_port]
  split
  · exact Port.mem_offer_of_mem _ _ _ _ mem
  · exact mem

/-! ### Outputs -/

@[simp] theorem handOutput_frame (n : Nat) (v : Bool) :
      (handOutput n v s).heads = s.heads ∧ (handOutput n v s).channels = s.channels ∧
      (handOutput n v s).scanner = s.scanner ∧ (handOutput n v s).advices = s.advices ∧
      (handOutput n v s).judge = s.judge ∧ (handOutput n v s).log = s.log ∧ (handOutput n v s).rack = s.rack ∧
      (handOutput n v s).lift = s.lift ∧ (handOutput n v s).release = s.release ∧ (handOutput n v s).inputs = s.inputs
      ∧ (handOutput n v s).clock = s.clock ∧ (handOutput n v s).alarm = s.alarm ∧
      (handOutput n v s).service = s.service ∧ (handOutput n v s).link = s.link ∧ (handOutput n v s).free = s.free ∧
      (handOutput n v s).pending = s.pending ∧ (∀ k : HeadId, (handOutput n v s).head k = s.head k) ∧
      (∀ k : HeadId, (handOutput n v s).channel k = s.channel k) ∧
      (∀ q : PortId, (handOutput n v s).port q = s.port q) ∧ (∀ m : Nat, (handOutput n v s).input m = s.input m) ∧
      (∀ m : Nat, (handOutput n v s).active m = s.active m) ∧ (∀ k : HeadId, (handOutput n v s).cradle k = s.cradle k)
      ∧ (∀ q : Nat, (handOutput n v s).record q = s.record q) ∧ (∀ m : Nat, (handOutput n v s).bin m = s.bin m) ∧
      (handOutput n v s).mode = s.mode ∧ (handOutput n v s).now = s.now := by
  simp [handOutput]

@[simp] theorem handOutput_outputs_length (n : Nat) (v : Bool) :
    (handOutput n v s).outputs.length = s.outputs.length := by
  simp [handOutput]

/-- The ALARM line is high where its driven level is its active level, by the alarm polarity (R177). -/
theorem outputHigh_alarm : s.outputHigh alarmOutput = ((s.output alarmOutput).driven == (s.alarm.polarity == .activeHigh)) := by
  simp [State.outputHigh, State.outputActiveHigh]

/-- The electrical level of every other output line follows its driven level alone (R170). -/
theorem outputHigh_of_ne {n : Nat} (ne : n ≠ alarmOutput) :
    s.outputHigh n = ((s.output n).driven == Config.outputActiveHigh n) := by
  simp [State.outputHigh, State.outputActiveHigh, ne]

@[simp] theorem OutputLine.drive_owner (o : OutputLine) (v : Bool) : (o.drive v).owner = o.owner := by
  unfold OutputLine.drive; split <;> rfl

/-- The owner level of an output after it has been commanded (R171). -/
theorem handOutput_output_owner {n : Nat} (v : Bool) (lt : n < s.outputs.length) :
    ((handOutput n v s).output n).owner = v := by
  unfold handOutput
  rw [State.setOutput_output _ _ lt]
  split <;> simp

theorem handOutput_output_of_ne {n m : Nat} (v : Bool) (ne : m ≠ n) : (handOutput n v s).output m = s.output m :=
  State.setOutput_output_of_ne _ _ ne

@[simp] theorem driveHead_frame (h : HeadId) :
      (driveHead h s).heads = s.heads ∧ (driveHead h s).channels = s.channels ∧ (driveHead h s).scanner = s.scanner ∧
      (driveHead h s).advices = s.advices ∧ (driveHead h s).judge = s.judge ∧ (driveHead h s).log = s.log ∧
      (driveHead h s).rack = s.rack ∧ (driveHead h s).lift = s.lift ∧ (driveHead h s).release = s.release ∧
      (driveHead h s).inputs = s.inputs ∧ (driveHead h s).clock = s.clock ∧ (driveHead h s).alarm = s.alarm ∧
      (driveHead h s).service = s.service ∧ (driveHead h s).link = s.link ∧ (driveHead h s).free = s.free ∧
      (driveHead h s).pending = s.pending ∧ (∀ k : HeadId, (driveHead h s).head k = s.head k) ∧
      (∀ k : HeadId, (driveHead h s).channel k = s.channel k) ∧ (∀ q : PortId, (driveHead h s).port q = s.port q) ∧
      (∀ m : Nat, (driveHead h s).input m = s.input m) ∧ (∀ m : Nat, (driveHead h s).active m = s.active m) ∧
      (∀ k : HeadId, (driveHead h s).cradle k = s.cradle k) ∧ (∀ q : Nat, (driveHead h s).record q = s.record q) ∧
      (∀ m : Nat, (driveHead h s).bin m = s.bin m) ∧ (driveHead h s).mode = s.mode ∧ (driveHead h s).now = s.now := by
  simp [driveHead]

@[simp] theorem driveHead_outputs_length (h : HeadId) : (driveHead h s).outputs.length = s.outputs.length := by
  simp [driveHead]

/-- Head `h` commands its four outputs from its state, and no other output (R2). -/
theorem driveHead_output (h : HeadId) (sized : s.outputs.length = 15) :
    ((driveHead h s).output (flapReleaseOutput h)).owner = (s.head h).flap ∧
      ((driveHead h s).output (gateOpenOutput h)).owner = (s.head h).gate ∧
      ((driveHead h s).output (intakeLampOutput h)).owner = (s.head h).lamp ∧
      ((driveHead h s).output (readerOnOutput h)).owner = (s.head h).reader := by
  have lt : 4 * headIndex h + 3 < s.outputs.length := by cases h <;> simp [headIndex, sized]
  simp only [driveHead, flapReleaseOutput, gateOpenOutput, intakeLampOutput, readerOnOutput]
  refine ⟨?_, ?_, ?_, ?_⟩
  · rw [handOutput_output_of_ne _ _ (by omega), handOutput_output_of_ne _ _ (by omega),
      handOutput_output_of_ne _ _ (by omega), handOutput_output_owner _ _ (by omega)]
  · rw [handOutput_output_of_ne _ _ (by omega), handOutput_output_of_ne _ _ (by omega),
      handOutput_output_owner _ _ (by simp; omega)]
  · rw [handOutput_output_of_ne _ _ (by omega), handOutput_output_owner _ _ (by simp; omega)]
  · rw [handOutput_output_owner _ _ (by simp; omega)]

theorem driveHead_output_of_ne {h : HeadId} {n : Nat} (ne : n / 4 ≠ headIndex h) :
    (driveHead h s).output n = s.output n := by
  simp only [driveHead, flapReleaseOutput, gateOpenOutput, intakeLampOutput, readerOnOutput]
  rw [handOutput_output_of_ne _ _ (by omega), handOutput_output_of_ne _ _ (by omega),
    handOutput_output_of_ne _ _ (by omega), handOutput_output_of_ne _ _ (by omega)]

@[simp] theorem updateHead_frame (h : HeadId) (f : Head → Head) :
      (updateHead h f s).channels = s.channels ∧ (updateHead h f s).scanner = s.scanner ∧
      (updateHead h f s).advices = s.advices ∧ (updateHead h f s).judge = s.judge ∧ (updateHead h f s).log = s.log ∧
      (updateHead h f s).rack = s.rack ∧ (updateHead h f s).lift = s.lift ∧ (updateHead h f s).release = s.release ∧
      (updateHead h f s).inputs = s.inputs ∧ (updateHead h f s).clock = s.clock ∧ (updateHead h f s).alarm = s.alarm ∧
      (updateHead h f s).service = s.service ∧ (updateHead h f s).link = s.link ∧ (updateHead h f s).free = s.free ∧
      (updateHead h f s).pending = s.pending ∧ (∀ k : HeadId, (updateHead h f s).channel k = s.channel k) ∧
      (∀ q : PortId, (updateHead h f s).port q = s.port q) ∧ (∀ m : Nat, (updateHead h f s).input m = s.input m) ∧
      (∀ m : Nat, (updateHead h f s).active m = s.active m) ∧ (∀ k : HeadId, (updateHead h f s).cradle k = s.cradle k)
      ∧ (∀ q : Nat, (updateHead h f s).record q = s.record q) ∧ (∀ m : Nat, (updateHead h f s).bin m = s.bin m) ∧
      (updateHead h f s).mode = s.mode ∧ (updateHead h f s).now = s.now := by
  simp [updateHead]

@[simp] theorem updateHead_head (h : HeadId) (f : Head → Head) : (updateHead h f s).head h = f (s.head h) := by
  simp [updateHead]

theorem updateHead_head_of_ne {h k : HeadId} (f : Head → Head) (ne : k ≠ h) :
    (updateHead h f s).head k = s.head k := by
  simp [updateHead, State.setHead_head_of_ne _ _ ne]

@[simp] theorem updateHead_outputs_length (h : HeadId) (f : Head → Head) :
    (updateHead h f s).outputs.length = s.outputs.length := by
  simp [updateHead]

/-! ### Alarm -/

@[simp] theorem alarmLevel_frame :
      (alarmLevel s).heads = s.heads ∧ (alarmLevel s).channels = s.channels ∧ (alarmLevel s).scanner = s.scanner ∧
      (alarmLevel s).advices = s.advices ∧ (alarmLevel s).judge = s.judge ∧ (alarmLevel s).log = s.log ∧
      (alarmLevel s).rack = s.rack ∧ (alarmLevel s).lift = s.lift ∧ (alarmLevel s).release = s.release ∧
      (alarmLevel s).inputs = s.inputs ∧ (alarmLevel s).clock = s.clock ∧ (alarmLevel s).alarm = s.alarm ∧
      (alarmLevel s).service = s.service ∧ (alarmLevel s).link = s.link ∧ (alarmLevel s).free = s.free ∧
      (alarmLevel s).pending = s.pending ∧ (∀ k : HeadId, (alarmLevel s).head k = s.head k) ∧
      (∀ k : HeadId, (alarmLevel s).channel k = s.channel k) ∧ (∀ q : PortId, (alarmLevel s).port q = s.port q) ∧
      (∀ m : Nat, (alarmLevel s).input m = s.input m) ∧ (∀ m : Nat, (alarmLevel s).active m = s.active m) ∧
      (∀ k : HeadId, (alarmLevel s).cradle k = s.cradle k) ∧ (∀ q : Nat, (alarmLevel s).record q = s.record q) ∧
      (∀ m : Nat, (alarmLevel s).bin m = s.bin m) ∧ (alarmLevel s).mode = s.mode ∧ (alarmLevel s).now = s.now := by
  unfold alarmLevel; split <;> simp

@[simp] theorem alarmLevel_outputs_length : (alarmLevel s).outputs.length = s.outputs.length := by
  unfold alarmLevel; split <;> simp

theorem alarmLevel_output_of_ne {m : Nat} (ne : m ≠ alarmOutput) : (alarmLevel s).output m = s.output m := by
  unfold alarmLevel
  split
  · exact handOutput_output_of_ne _ _ ne
  · rfl

@[simp] theorem reportAlarm_frame (c : AlarmCause) :
      (reportAlarm c s).heads = s.heads ∧ (reportAlarm c s).channels = s.channels ∧
      (reportAlarm c s).scanner = s.scanner ∧ (reportAlarm c s).advices = s.advices ∧
      (reportAlarm c s).judge = s.judge ∧ (reportAlarm c s).log = s.log ∧ (reportAlarm c s).rack = s.rack ∧
      (reportAlarm c s).lift = s.lift ∧ (reportAlarm c s).release = s.release ∧ (reportAlarm c s).inputs = s.inputs ∧
      (reportAlarm c s).clock = s.clock ∧ (reportAlarm c s).service = s.service ∧ (reportAlarm c s).link = s.link ∧
      (reportAlarm c s).free = s.free ∧ (reportAlarm c s).pending = s.pending ∧
      (∀ k : HeadId, (reportAlarm c s).head k = s.head k) ∧ (∀ k : HeadId, (reportAlarm c s).channel k = s.channel k)
      ∧ (∀ q : PortId, (reportAlarm c s).port q = s.port q) ∧ (∀ m : Nat, (reportAlarm c s).input m = s.input m) ∧
      (∀ m : Nat, (reportAlarm c s).active m = s.active m) ∧ (∀ k : HeadId, (reportAlarm c s).cradle k = s.cradle k) ∧
      (∀ q : Nat, (reportAlarm c s).record q = s.record q) ∧ (∀ m : Nat, (reportAlarm c s).bin m = s.bin m) ∧
      (reportAlarm c s).mode = s.mode ∧ (reportAlarm c s).now = s.now := by
  unfold reportAlarm; dsimp only
  repeat' split
  all_goals simp [State.head, State.channel, State.port, State.input, State.active, State.cradle, State.record, State.bin, State.mode, State.now]

@[simp] theorem reportAlarm_outputs_length (c : AlarmCause) :
    (reportAlarm c s).outputs.length = s.outputs.length := by
  unfold reportAlarm; dsimp only; repeat' split
  all_goals simp

theorem reportAlarm_output_of_ne (c : AlarmCause) {m : Nat} (ne : m ≠ alarmOutput) :
    (reportAlarm c s).output m = s.output m := by
  unfold reportAlarm; dsimp only; repeat' split
  all_goals first | rfl | exact alarmLevel_output_of_ne _ ne | exact handOutput_output_of_ne _ _ ne

/-- A reported cause is latched (R175). -/
theorem reportAlarm_latched (c : AlarmCause) : causeSet (reportAlarm c s).alarm.latched c = true := by
  unfold reportAlarm
  split
  · assumption
  · have set : causeSet (raiseCause s.alarm.latched c) c = true := by cases c <;> rfl
    dsimp only
    repeat' split
    all_goals simpa using set

/-! ### Statistics -/

@[simp] theorem updateStats_frame (f : Stats → Stats) :
      (updateStats f s).heads = s.heads ∧ (updateStats f s).channels = s.channels ∧
      (updateStats f s).scanner = s.scanner ∧ (updateStats f s).advices = s.advices ∧
      (updateStats f s).judge = s.judge ∧ (updateStats f s).log = s.log ∧ (updateStats f s).rack = s.rack ∧
      (updateStats f s).lift = s.lift ∧ (updateStats f s).release = s.release ∧ (updateStats f s).inputs = s.inputs ∧
      (updateStats f s).outputs = s.outputs ∧ (updateStats f s).clock = s.clock ∧ (updateStats f s).alarm = s.alarm ∧
      (updateStats f s).link = s.link ∧ (updateStats f s).free = s.free ∧ (updateStats f s).pending = s.pending ∧
      (∀ k : HeadId, (updateStats f s).head k = s.head k) ∧ (∀ k : HeadId, (updateStats f s).channel k = s.channel k)
      ∧ (∀ q : PortId, (updateStats f s).port q = s.port q) ∧ (∀ m : Nat, (updateStats f s).input m = s.input m) ∧
      (∀ m : Nat, (updateStats f s).output m = s.output m) ∧ (∀ m : Nat, (updateStats f s).active m = s.active m) ∧
      (∀ k : HeadId, (updateStats f s).cradle k = s.cradle k) ∧ (∀ q : Nat, (updateStats f s).record q = s.record q) ∧
      (∀ m : Nat, (updateStats f s).bin m = s.bin m) ∧ (updateStats f s).mode = s.mode ∧ (updateStats f s).now = s.now := by
  exact ⟨rfl, rfl, rfl, rfl, rfl, rfl, rfl, rfl, rfl, rfl, rfl, rfl, rfl, rfl, rfl, rfl, fun _ => rfl, fun _ => rfl, fun _ => rfl, fun _ => rfl, fun _ => rfl, fun _ => rfl, fun _ => rfl, fun _ => rfl, fun _ => rfl, rfl, rfl⟩

@[simp] theorem updateStats_service_state (f : Stats → Stats) :
    (updateStats f s).service.state = s.service.state := rfl
@[simp] theorem updateStats_service_pattern (f : Stats → Stats) :
    (updateStats f s).service.pattern = s.service.pattern := rfl
@[simp] theorem updateStats_service_step (f : Stats → Stats) : (updateStats f s).service.step = s.service.step := rfl

@[simp] theorem updateHeadStats_frame (h : HeadId) (f : HeadStats → HeadStats) :
      (updateHeadStats h f s).heads = s.heads ∧ (updateHeadStats h f s).channels = s.channels ∧
      (updateHeadStats h f s).scanner = s.scanner ∧ (updateHeadStats h f s).advices = s.advices ∧
      (updateHeadStats h f s).judge = s.judge ∧ (updateHeadStats h f s).log = s.log ∧
      (updateHeadStats h f s).rack = s.rack ∧ (updateHeadStats h f s).lift = s.lift ∧
      (updateHeadStats h f s).release = s.release ∧ (updateHeadStats h f s).inputs = s.inputs ∧
      (updateHeadStats h f s).outputs = s.outputs ∧ (updateHeadStats h f s).clock = s.clock ∧
      (updateHeadStats h f s).alarm = s.alarm ∧ (updateHeadStats h f s).link = s.link ∧
      (updateHeadStats h f s).free = s.free ∧ (updateHeadStats h f s).pending = s.pending ∧
      (∀ k : HeadId, (updateHeadStats h f s).head k = s.head k) ∧
      (∀ k : HeadId, (updateHeadStats h f s).channel k = s.channel k) ∧
      (∀ q : PortId, (updateHeadStats h f s).port q = s.port q) ∧
      (∀ m : Nat, (updateHeadStats h f s).input m = s.input m) ∧
      (∀ m : Nat, (updateHeadStats h f s).output m = s.output m) ∧
      (∀ m : Nat, (updateHeadStats h f s).active m = s.active m) ∧
      (∀ k : HeadId, (updateHeadStats h f s).cradle k = s.cradle k) ∧
      (∀ q : Nat, (updateHeadStats h f s).record q = s.record q) ∧
      (∀ m : Nat, (updateHeadStats h f s).bin m = s.bin m) ∧ (updateHeadStats h f s).mode = s.mode ∧
      (updateHeadStats h f s).now = s.now := by
  exact ⟨rfl, rfl, rfl, rfl, rfl, rfl, rfl, rfl, rfl, rfl, rfl, rfl, rfl, rfl, rfl, rfl, fun _ => rfl, fun _ => rfl, fun _ => rfl, fun _ => rfl, fun _ => rfl, fun _ => rfl, fun _ => rfl, fun _ => rfl, fun _ => rfl, rfl, rfl⟩

@[simp] theorem updateHeadStats_service_state (h : HeadId) (f : HeadStats → HeadStats) :
    (updateHeadStats h f s).service.state = s.service.state := rfl
@[simp] theorem updateHeadStats_service_pattern (h : HeadId) (f : HeadStats → HeadStats) :
    (updateHeadStats h f s).service.pattern = s.service.pattern := rfl
@[simp] theorem updateHeadStats_service_step (h : HeadId) (f : HeadStats → HeadStats) :
    (updateHeadStats h f s).service.step = s.service.step := rfl

@[simp] theorem driveError_frame :
      (driveError s).heads = s.heads ∧ (driveError s).channels = s.channels ∧ (driveError s).scanner = s.scanner ∧
      (driveError s).advices = s.advices ∧ (driveError s).judge = s.judge ∧ (driveError s).log = s.log ∧
      (driveError s).rack = s.rack ∧ (driveError s).lift = s.lift ∧ (driveError s).release = s.release ∧
      (driveError s).inputs = s.inputs ∧ (driveError s).outputs = s.outputs ∧ (driveError s).clock = s.clock ∧
      (driveError s).alarm = s.alarm ∧ (driveError s).link = s.link ∧ (driveError s).free = s.free ∧
      (driveError s).pending = s.pending ∧ (∀ k : HeadId, (driveError s).head k = s.head k) ∧
      (∀ k : HeadId, (driveError s).channel k = s.channel k) ∧ (∀ q : PortId, (driveError s).port q = s.port q) ∧
      (∀ m : Nat, (driveError s).input m = s.input m) ∧ (∀ m : Nat, (driveError s).output m = s.output m) ∧
      (∀ m : Nat, (driveError s).active m = s.active m) ∧ (∀ k : HeadId, (driveError s).cradle k = s.cradle k) ∧
      (∀ q : Nat, (driveError s).record q = s.record q) ∧ (∀ m : Nat, (driveError s).bin m = s.bin m) ∧
      (driveError s).mode = s.mode ∧ (driveError s).now = s.now := by
  exact ⟨rfl, rfl, rfl, rfl, rfl, rfl, rfl, rfl, rfl, rfl, rfl, rfl, rfl, rfl, rfl, rfl, fun _ => rfl, fun _ => rfl, fun _ => rfl, fun _ => rfl, fun _ => rfl, fun _ => rfl, fun _ => rfl, fun _ => rfl, fun _ => rfl, rfl, rfl⟩

@[simp] theorem driveError_service_state : (driveError s).service.state = s.service.state := rfl
@[simp] theorem driveError_service_pattern : (driveError s).service.pattern = s.service.pattern := rfl
@[simp] theorem driveError_service_step : (driveError s).service.step = s.service.step := rfl

@[simp] theorem frameError_frame (p : PortId) :
      (frameError p s).heads = s.heads ∧ (frameError p s).channels = s.channels ∧ (frameError p s).scanner = s.scanner
      ∧ (frameError p s).advices = s.advices ∧ (frameError p s).judge = s.judge ∧ (frameError p s).log = s.log ∧
      (frameError p s).rack = s.rack ∧ (frameError p s).lift = s.lift ∧ (frameError p s).release = s.release ∧
      (frameError p s).inputs = s.inputs ∧ (frameError p s).outputs = s.outputs ∧ (frameError p s).clock = s.clock ∧
      (frameError p s).alarm = s.alarm ∧ (frameError p s).link = s.link ∧ (frameError p s).free = s.free ∧
      (frameError p s).pending = s.pending ∧ (∀ k : HeadId, (frameError p s).head k = s.head k) ∧
      (∀ k : HeadId, (frameError p s).channel k = s.channel k) ∧ (∀ q : PortId, (frameError p s).port q = s.port q) ∧
      (∀ m : Nat, (frameError p s).input m = s.input m) ∧ (∀ m : Nat, (frameError p s).output m = s.output m) ∧
      (∀ m : Nat, (frameError p s).active m = s.active m) ∧ (∀ k : HeadId, (frameError p s).cradle k = s.cradle k) ∧
      (∀ q : Nat, (frameError p s).record q = s.record q) ∧ (∀ m : Nat, (frameError p s).bin m = s.bin m) ∧
      (frameError p s).mode = s.mode ∧ (frameError p s).now = s.now := by
  exact ⟨rfl, rfl, rfl, rfl, rfl, rfl, rfl, rfl, rfl, rfl, rfl, rfl, rfl, rfl, rfl, rfl, fun _ => rfl, fun _ => rfl, fun _ => rfl, fun _ => rfl, fun _ => rfl, fun _ => rfl, fun _ => rfl, fun _ => rfl, fun _ => rfl, rfl, rfl⟩

@[simp] theorem frameError_service_state (p : PortId) : (frameError p s).service.state = s.service.state := rfl
@[simp] theorem frameError_service_pattern (p : PortId) : (frameError p s).service.pattern = s.service.pattern := rfl
@[simp] theorem frameError_service_step (p : PortId) : (frameError p s).service.step = s.service.step := rfl

end Sys2Proof.Machine
end

