-- ==== Sys2Proof/Laws/Log.lean ====
section
/-! SUPPORT. Laws/Log.lean: what the operations of the custody log and of the cradle channels can do (Machine/Log.lean,
Machine/Weigh.lean): every field they leave, and the answers of the log's reservations. -/

namespace Sys2Proof.Machine

variable (s : State)

/-! ### The custody log -/

@[simp] theorem lowWaterFall_frame :
      (lowWaterFall s).heads = s.heads ∧ (lowWaterFall s).channels = s.channels ∧ (lowWaterFall s).scanner = s.scanner
      ∧ (lowWaterFall s).advices = s.advices ∧ (lowWaterFall s).judge = s.judge ∧ (lowWaterFall s).rack = s.rack ∧
      (lowWaterFall s).lift = s.lift ∧ (lowWaterFall s).release = s.release ∧ (lowWaterFall s).inputs = s.inputs ∧
      (lowWaterFall s).outputs = s.outputs ∧ (lowWaterFall s).clock = s.clock ∧ (lowWaterFall s).alarm = s.alarm ∧
      (lowWaterFall s).service = s.service ∧ (lowWaterFall s).free = s.free ∧ (lowWaterFall s).pending = s.pending ∧
      (∀ k : HeadId, (lowWaterFall s).head k = s.head k) ∧ (∀ k : HeadId, (lowWaterFall s).channel k = s.channel k) ∧
      (∀ m : Nat, (lowWaterFall s).input m = s.input m) ∧ (∀ m : Nat, (lowWaterFall s).output m = s.output m) ∧
      (∀ m : Nat, (lowWaterFall s).active m = s.active m) ∧ (∀ k : HeadId, (lowWaterFall s).cradle k = s.cradle k) ∧
      (∀ m : Nat, (lowWaterFall s).bin m = s.bin m) ∧ (lowWaterFall s).mode = s.mode ∧ (lowWaterFall s).now = s.now ∧
      (∀ k : HeadId, (lowWaterFall s).stepOn k = s.stepOn k) := by
  simp only [lowWaterFall]
  repeat' split
  all_goals simp [State.head, State.channel, State.input, State.output, State.active, State.cradle, State.bin, State.mode, State.now, State.stepOn]

/-- LOG_LOW and its flag alone: no record, reservation or sequence number changes (R95). -/
theorem lowWaterFall_log : ∃ flag, (lowWaterFall s).log = { s.log with lowFlag := flag } := by
  unfold lowWaterFall
  split
  · exact ⟨true, by simp⟩
  · exact ⟨s.log.lowFlag, rfl⟩

@[simp] theorem lowWaterFall_log_records : (lowWaterFall s).log.records = s.log.records := by
  obtain ⟨f, e⟩ := lowWaterFall_log s; rw [e]
@[simp] theorem lowWaterFall_log_reservations : (lowWaterFall s).log.reservations = s.log.reservations := by
  obtain ⟨f, e⟩ := lowWaterFall_log s; rw [e]
@[simp] theorem lowWaterFall_log_nextSeq : (lowWaterFall s).log.nextSeq = s.log.nextSeq := by
  obtain ⟨f, e⟩ := lowWaterFall_log s; rw [e]
@[simp] theorem lowWaterFall_logFree : (lowWaterFall s).logFree = s.logFree := by
  simp [State.logFree, CustodyLog.free]
@[simp] theorem lowWaterFall_record (seq : Nat) : (lowWaterFall s).record seq = s.record seq := by simp [State.record]

@[simp] theorem lowWaterRise_frame :
      (lowWaterRise s).heads = s.heads ∧ (lowWaterRise s).channels = s.channels ∧ (lowWaterRise s).scanner = s.scanner
      ∧ (lowWaterRise s).advices = s.advices ∧ (lowWaterRise s).judge = s.judge ∧ (lowWaterRise s).rack = s.rack ∧
      (lowWaterRise s).lift = s.lift ∧ (lowWaterRise s).release = s.release ∧ (lowWaterRise s).inputs = s.inputs ∧
      (lowWaterRise s).outputs = s.outputs ∧ (lowWaterRise s).clock = s.clock ∧ (lowWaterRise s).alarm = s.alarm ∧
      (lowWaterRise s).service = s.service ∧ (lowWaterRise s).link = s.link ∧ (lowWaterRise s).free = s.free ∧
      (lowWaterRise s).pending = s.pending ∧ (∀ k : HeadId, (lowWaterRise s).head k = s.head k) ∧
      (∀ k : HeadId, (lowWaterRise s).channel k = s.channel k) ∧ (∀ q : PortId, (lowWaterRise s).port q = s.port q) ∧
      (∀ m : Nat, (lowWaterRise s).input m = s.input m) ∧ (∀ m : Nat, (lowWaterRise s).output m = s.output m) ∧
      (∀ m : Nat, (lowWaterRise s).active m = s.active m) ∧ (∀ k : HeadId, (lowWaterRise s).cradle k = s.cradle k) ∧
      (∀ m : Nat, (lowWaterRise s).bin m = s.bin m) ∧ (lowWaterRise s).mode = s.mode ∧ (lowWaterRise s).now = s.now ∧
      (∀ k : HeadId, (lowWaterRise s).stepOn k = s.stepOn k) := by
  simp only [lowWaterRise]
  repeat' split
  all_goals simp [State.head, State.channel, State.port, State.input, State.output, State.active, State.cradle, State.bin, State.mode, State.now, State.stepOn]

/-- The flag alone (R95). -/
theorem lowWaterRise_log : ∃ flag, (lowWaterRise s).log = { s.log with lowFlag := flag } := by
  unfold lowWaterRise
  split
  · exact ⟨false, rfl⟩
  · exact ⟨s.log.lowFlag, rfl⟩

@[simp] theorem lowWaterRise_log_records : (lowWaterRise s).log.records = s.log.records := by
  obtain ⟨f, e⟩ := lowWaterRise_log s; rw [e]
@[simp] theorem lowWaterRise_log_reservations : (lowWaterRise s).log.reservations = s.log.reservations := by
  obtain ⟨f, e⟩ := lowWaterRise_log s; rw [e]
@[simp] theorem lowWaterRise_log_nextSeq : (lowWaterRise s).log.nextSeq = s.log.nextSeq := by
  obtain ⟨f, e⟩ := lowWaterRise_log s; rw [e]
@[simp] theorem lowWaterRise_logFree : (lowWaterRise s).logFree = s.logFree := by
  simp [State.logFree, CustodyLog.free]
@[simp] theorem lowWaterRise_record (seq : Nat) : (lowWaterRise s).record seq = s.record seq := by simp [State.record]

@[simp] theorem giveBack_frame (h : HeadId) :
      (giveBack h s).channels = s.channels ∧ (giveBack h s).scanner = s.scanner ∧ (giveBack h s).advices = s.advices ∧
      (giveBack h s).judge = s.judge ∧ (giveBack h s).rack = s.rack ∧ (giveBack h s).lift = s.lift ∧
      (giveBack h s).release = s.release ∧ (giveBack h s).inputs = s.inputs ∧ (giveBack h s).outputs = s.outputs ∧
      (giveBack h s).clock = s.clock ∧ (giveBack h s).alarm = s.alarm ∧ (giveBack h s).service = s.service ∧
      (giveBack h s).link = s.link ∧ (giveBack h s).free = s.free ∧ (giveBack h s).pending = s.pending ∧
      (∀ k : HeadId, (giveBack h s).channel k = s.channel k) ∧ (∀ q : PortId, (giveBack h s).port q = s.port q) ∧
      (∀ m : Nat, (giveBack h s).input m = s.input m) ∧ (∀ m : Nat, (giveBack h s).output m = s.output m) ∧
      (∀ m : Nat, (giveBack h s).active m = s.active m) ∧ (∀ k : HeadId, (giveBack h s).cradle k = s.cradle k) ∧
      (∀ m : Nat, (giveBack h s).bin m = s.bin m) ∧ (giveBack h s).mode = s.mode ∧ (giveBack h s).now = s.now ∧
      (∀ k : HeadId, (giveBack h s).stepOn k = s.stepOn k) := by
  simp only [giveBack]
  repeat' split
  all_goals simp [State.channel, State.port, State.input, State.output, State.active, State.cradle, State.bin, State.mode, State.now, State.stepOn]

/-- The reservation is given back, and nothing else of the head changes (R93). -/
@[simp] theorem giveBack_head (h : HeadId) : (giveBack h s).head h = { s.head h with reservation := false } := by
  unfold giveBack
  split
  · simp [State.head, State.setHead]
  · next no => simp only [Bool.not_eq_true] at no; rw [← no]

theorem giveBack_head_of_ne {h k : HeadId} (ne : k ≠ h) : (giveBack h s).head k = s.head k := by
  unfold giveBack
  split
  · simp [State.head, State.setHead, PerHead.get_set_of_ne _ _ ne]
  · rfl

@[simp] theorem giveBack_log_records (h : HeadId) : (giveBack h s).log.records = s.log.records := by
  unfold giveBack; split <;> simp

/-- The count falls by one where the head held a reservation (R93). -/
theorem giveBack_log_reservations (h : HeadId) :
    (giveBack h s).log.reservations =
      if (s.head h).reservation then s.log.reservations - 1 else s.log.reservations := by
  unfold giveBack; split <;> simp

/-- A reservation is granted exactly while the free count is not 0; it is then the head's, and the count rises (R93). -/
theorem takeReservation_eq_none (h : HeadId) : takeReservation h s = none ↔ s.logFree = 0 := by
  unfold takeReservation; split <;> simp_all

theorem takeReservation_spec {h : HeadId} {t : State} (taken : takeReservation h s = some t) :
    s.logFree ≠ 0 ∧ t.head h = { s.head h with reservation := true } ∧ (∀ k, k ≠ h → t.head k = s.head k) ∧
      t.log.records = s.log.records ∧ t.log.nextSeq = s.log.nextSeq ∧
      t.log.reservations = s.log.reservations + 1 := by
  unfold takeReservation at taken
  split at taken
  · cases taken
  · next free =>
    injection taken with e
    subst e
    refine ⟨free, by simp [State.head, State.setHead], fun k ne => ?_, by simp, by simp, by simp⟩
    simp [State.head, State.setHead, PerHead.get_set_of_ne _ _ ne]

theorem takeReservation_frame {h : HeadId} {t : State} (taken : takeReservation h s = some t) :
    t.channels = s.channels ∧ t.scanner = s.scanner ∧ t.advices = s.advices ∧ t.judge = s.judge ∧ t.rack = s.rack ∧ t.lift = s.lift ∧ t.release = s.release ∧ t.inputs = s.inputs ∧ t.outputs = s.outputs ∧ t.clock = s.clock ∧ t.alarm = s.alarm ∧ t.service = s.service ∧ t.free = s.free ∧ t.pending = s.pending := by
  unfold takeReservation at taken
  split at taken
  · cases taken
  · injection taken with e
    subst e
    simp

@[simp] theorem createRecord_frame (h : HeadId) (make : Nat → Record) :
      (createRecord h make s).channels = s.channels ∧ (createRecord h make s).scanner = s.scanner ∧
      (createRecord h make s).advices = s.advices ∧ (createRecord h make s).judge = s.judge ∧
      (createRecord h make s).rack = s.rack ∧ (createRecord h make s).lift = s.lift ∧
      (createRecord h make s).release = s.release ∧ (createRecord h make s).inputs = s.inputs ∧
      (createRecord h make s).outputs = s.outputs ∧ (createRecord h make s).clock = s.clock ∧
      (createRecord h make s).alarm = s.alarm ∧ (createRecord h make s).service = s.service ∧
      (createRecord h make s).link = s.link ∧ (createRecord h make s).free = s.free ∧
      (createRecord h make s).pending = s.pending ∧ (∀ k : HeadId, (createRecord h make s).channel k = s.channel k) ∧
      (∀ q : PortId, (createRecord h make s).port q = s.port q) ∧
      (∀ m : Nat, (createRecord h make s).input m = s.input m) ∧
      (∀ m : Nat, (createRecord h make s).output m = s.output m) ∧
      (∀ m : Nat, (createRecord h make s).active m = s.active m) ∧
      (∀ k : HeadId, (createRecord h make s).cradle k = s.cradle k) ∧
      (∀ m : Nat, (createRecord h make s).bin m = s.bin m) ∧ (createRecord h make s).mode = s.mode ∧
      (createRecord h make s).now = s.now ∧ (∀ k : HeadId, (createRecord h make s).stepOn k = s.stepOn k) := by
  exact ⟨rfl, rfl, rfl, rfl, rfl, rfl, rfl, rfl, rfl, rfl, rfl, rfl, rfl, rfl, rfl, fun _ => rfl, fun _ => rfl, fun _ => rfl, fun _ => rfl, fun _ => rfl, fun _ => rfl, fun _ => rfl, rfl, rfl, fun _ => rfl⟩

/-- A record joins the tail of the log, and its sequence number is the head's cradle record (R86). -/
@[simp] theorem createRecord_records (h : HeadId) (make : Nat → Record) :
    (createRecord h make s).log.records = s.log.records ++ [make s.log.nextSeq] := rfl

@[simp] theorem createRecord_head (h : HeadId) (make : Nat → Record) :
    (createRecord h make s).head h =
      { s.head h with reservation := false, cradleRecord := some s.log.nextSeq, landed := none } := by
  simp [createRecord, State.head, State.setHead]

theorem createRecord_head_of_ne {h k : HeadId} (make : Nat → Record) (ne : k ≠ h) :
    (createRecord h make s).head k = s.head k := by
  simp [createRecord, State.head, State.setHead, PerHead.get_set_of_ne _ _ ne]

/-! ### Cradle channels -/

@[simp] theorem updateChannel_frame (h : HeadId) (f : Channel → Channel) :
      (updateChannel h f s).heads = s.heads ∧ (updateChannel h f s).scanner = s.scanner ∧
      (updateChannel h f s).advices = s.advices ∧ (updateChannel h f s).judge = s.judge ∧
      (updateChannel h f s).log = s.log ∧ (updateChannel h f s).rack = s.rack ∧ (updateChannel h f s).lift = s.lift ∧
      (updateChannel h f s).release = s.release ∧ (updateChannel h f s).inputs = s.inputs ∧
      (updateChannel h f s).outputs = s.outputs ∧ (updateChannel h f s).clock = s.clock ∧
      (updateChannel h f s).alarm = s.alarm ∧ (updateChannel h f s).service = s.service ∧
      (updateChannel h f s).link = s.link ∧ (updateChannel h f s).free = s.free ∧
      (updateChannel h f s).pending = s.pending ∧ (∀ k : HeadId, (updateChannel h f s).head k = s.head k) ∧
      (∀ q : PortId, (updateChannel h f s).port q = s.port q) ∧ (∀ m : Nat, (updateChannel h f s).input m = s.input m)
      ∧ (∀ m : Nat, (updateChannel h f s).output m = s.output m) ∧
      (∀ m : Nat, (updateChannel h f s).active m = s.active m) ∧
      (∀ k : HeadId, (updateChannel h f s).cradle k = s.cradle k) ∧
      (∀ q : Nat, (updateChannel h f s).record q = s.record q) ∧ (∀ m : Nat, (updateChannel h f s).bin m = s.bin m) ∧
      (updateChannel h f s).mode = s.mode ∧ (updateChannel h f s).now = s.now ∧
      (updateChannel h f s).logFree = s.logFree ∧ (∀ k : HeadId, (updateChannel h f s).stepOn k = s.stepOn k) := by
  exact ⟨rfl, rfl, rfl, rfl, rfl, rfl, rfl, rfl, rfl, rfl, rfl, rfl, rfl, rfl, rfl, rfl, fun _ => rfl, fun _ => rfl, fun _ => rfl, fun _ => rfl, fun _ => rfl, fun _ => rfl, fun _ => rfl, fun _ => rfl, rfl, rfl, rfl, fun _ => rfl⟩

@[simp] theorem updateChannel_channel (h : HeadId) (f : Channel → Channel) :
    (updateChannel h f s).channel h = f (s.channel h) := by
  simp [updateChannel]

theorem updateChannel_channel_of_ne {h k : HeadId} (f : Channel → Channel) (ne : k ≠ h) :
    (updateChannel h f s).channel k = s.channel k :=
  State.setChannel_channel_of_ne _ _ ne

@[simp] theorem refreshIdle_frame (h : HeadId) :
      (refreshIdle h s).heads = s.heads ∧ (refreshIdle h s).scanner = s.scanner ∧
      (refreshIdle h s).advices = s.advices ∧ (refreshIdle h s).judge = s.judge ∧ (refreshIdle h s).log = s.log ∧
      (refreshIdle h s).rack = s.rack ∧ (refreshIdle h s).lift = s.lift ∧ (refreshIdle h s).release = s.release ∧
      (refreshIdle h s).inputs = s.inputs ∧ (refreshIdle h s).outputs = s.outputs ∧ (refreshIdle h s).clock = s.clock
      ∧ (refreshIdle h s).alarm = s.alarm ∧ (refreshIdle h s).service = s.service ∧ (refreshIdle h s).link = s.link ∧
      (refreshIdle h s).free = s.free ∧ (refreshIdle h s).pending = s.pending ∧
      (∀ k : HeadId, (refreshIdle h s).head k = s.head k) ∧ (∀ q : PortId, (refreshIdle h s).port q = s.port q) ∧
      (∀ m : Nat, (refreshIdle h s).input m = s.input m) ∧ (∀ m : Nat, (refreshIdle h s).output m = s.output m) ∧
      (∀ m : Nat, (refreshIdle h s).active m = s.active m) ∧ (∀ k : HeadId, (refreshIdle h s).cradle k = s.cradle k) ∧
      (∀ q : Nat, (refreshIdle h s).record q = s.record q) ∧ (∀ m : Nat, (refreshIdle h s).bin m = s.bin m) ∧
      (refreshIdle h s).mode = s.mode ∧ (refreshIdle h s).now = s.now ∧ (refreshIdle h s).logFree = s.logFree ∧
      (∀ k : HeadId, (refreshIdle h s).stepOn k = s.stepOn k) := by
  exact ⟨rfl, rfl, rfl, rfl, rfl, rfl, rfl, rfl, rfl, rfl, rfl, rfl, rfl, rfl, rfl, rfl, fun _ => rfl, fun _ => rfl, fun _ => rfl, fun _ => rfl, fun _ => rfl, fun _ => rfl, fun _ => rfl, fun _ => rfl, rfl, rfl, rfl, fun _ => rfl⟩

/-- The idle timer alone (R32). -/
theorem refreshIdle_channel (h : HeadId) :
    ∃ timer, (refreshIdle h s).channel h = { s.channel h with idleTimer := timer } := by
  simp only [refreshIdle, updateChannel_channel]
  split
  · exact ⟨_, rfl⟩
  · exact ⟨_, rfl⟩

theorem refreshIdle_channel_of_ne {h k : HeadId} (ne : k ≠ h) : (refreshIdle h s).channel k = s.channel k :=
  updateChannel_channel_of_ne _ _ ne

@[simp] theorem refreshIdle_channel_state (h : HeadId) :
    ((refreshIdle h s).channel h).state = (s.channel h).state := by
  obtain ⟨t, e⟩ := refreshIdle_channel s h; rw [e]
@[simp] theorem refreshIdle_channel_zero (h : HeadId) : ((refreshIdle h s).channel h).zero = (s.channel h).zero := by
  obtain ⟨t, e⟩ := refreshIdle_channel s h; rw [e]
@[simp] theorem refreshIdle_channel_span (h : HeadId) : ((refreshIdle h s).channel h).span = (s.channel h).span := by
  obtain ⟨t, e⟩ := refreshIdle_channel s h; rw [e]
@[simp] theorem refreshIdle_channel_settings (h : HeadId) :
    ((refreshIdle h s).channel h).settings = (s.channel h).settings := by
  obtain ⟨t, e⟩ := refreshIdle_channel s h; rw [e]
@[simp] theorem refreshIdle_channel_latest (h : HeadId) :
    ((refreshIdle h s).channel h).latest = (s.channel h).latest := by
  obtain ⟨t, e⟩ := refreshIdle_channel s h; rw [e]
@[simp] theorem refreshIdle_channel_gathered (h : HeadId) :
    ((refreshIdle h s).channel h).gathered = (s.channel h).gathered := by
  obtain ⟨t, e⟩ := refreshIdle_channel s h; rw [e]
@[simp] theorem refreshIdle_channel_conversion (h : HeadId) :
    ((refreshIdle h s).channel h).conversion = (s.channel h).conversion := by
  obtain ⟨t, e⟩ := refreshIdle_channel s h; rw [e]
@[simp] theorem refreshIdle_channel_waiting (h : HeadId) :
    ((refreshIdle h s).channel h).waiting = (s.channel h).waiting := by
  obtain ⟨t, e⟩ := refreshIdle_channel s h; rw [e]
@[simp] theorem refreshIdle_channel_refFault (h : HeadId) :
    ((refreshIdle h s).channel h).refFault = (s.channel h).refFault := by
  obtain ⟨t, e⟩ := refreshIdle_channel s h; rw [e]
@[simp] theorem refreshIdle_channel_zeroDrift (h : HeadId) :
    ((refreshIdle h s).channel h).zeroDrift = (s.channel h).zeroDrift := by
  obtain ⟨t, e⟩ := refreshIdle_channel s h; rw [e]
@[simp] theorem refreshIdle_channel_warmUpTimer (h : HeadId) :
    ((refreshIdle h s).channel h).warmUpTimer = (s.channel h).warmUpTimer := by
  obtain ⟨t, e⟩ := refreshIdle_channel s h; rw [e]
@[simp] theorem refreshIdle_channel_paceTimer (h : HeadId) :
    ((refreshIdle h s).channel h).paceTimer = (s.channel h).paceTimer := by
  obtain ⟨t, e⟩ := refreshIdle_channel s h; rw [e]
@[simp] theorem refreshIdle_channel_acquireTimer (h : HeadId) :
    ((refreshIdle h s).channel h).acquireTimer = (s.channel h).acquireTimer := by
  obtain ⟨t, e⟩ := refreshIdle_channel s h; rw [e]
@[simp] theorem refreshIdle_channel_zeroTimer (h : HeadId) :
    ((refreshIdle h s).channel h).zeroTimer = (s.channel h).zeroTimer := by
  obtain ⟨t, e⟩ := refreshIdle_channel s h; rw [e]
@[simp] theorem refreshIdle_channel_delayTimer (h : HeadId) :
    ((refreshIdle h s).channel h).delayTimer = (s.channel h).delayTimer := by
  obtain ⟨t, e⟩ := refreshIdle_channel s h; rw [e]
@[simp] theorem refreshIdle_channel_settleTimer (h : HeadId) :
    ((refreshIdle h s).channel h).settleTimer = (s.channel h).settleTimer := by
  obtain ⟨t, e⟩ := refreshIdle_channel s h; rw [e]

@[simp] theorem abandonWeighing_frame (h : HeadId) :
      (abandonWeighing h s).heads = s.heads ∧ (abandonWeighing h s).scanner = s.scanner ∧
      (abandonWeighing h s).advices = s.advices ∧ (abandonWeighing h s).judge = s.judge ∧
      (abandonWeighing h s).log = s.log ∧ (abandonWeighing h s).rack = s.rack ∧ (abandonWeighing h s).lift = s.lift ∧
      (abandonWeighing h s).release = s.release ∧ (abandonWeighing h s).inputs = s.inputs ∧
      (abandonWeighing h s).outputs = s.outputs ∧ (abandonWeighing h s).clock = s.clock ∧
      (abandonWeighing h s).alarm = s.alarm ∧ (abandonWeighing h s).service = s.service ∧
      (abandonWeighing h s).link = s.link ∧ (abandonWeighing h s).free = s.free ∧
      (abandonWeighing h s).pending = s.pending ∧ (∀ k : HeadId, (abandonWeighing h s).head k = s.head k) ∧
      (∀ q : PortId, (abandonWeighing h s).port q = s.port q) ∧ (∀ m : Nat, (abandonWeighing h s).input m = s.input m)
      ∧ (∀ m : Nat, (abandonWeighing h s).output m = s.output m) ∧
      (∀ m : Nat, (abandonWeighing h s).active m = s.active m) ∧
      (∀ k : HeadId, (abandonWeighing h s).cradle k = s.cradle k) ∧
      (∀ q : Nat, (abandonWeighing h s).record q = s.record q) ∧ (∀ m : Nat, (abandonWeighing h s).bin m = s.bin m) ∧
      (abandonWeighing h s).mode = s.mode ∧ (abandonWeighing h s).now = s.now ∧
      (abandonWeighing h s).logFree = s.logFree ∧ (∀ k : HeadId, (abandonWeighing h s).stepOn k = s.stepOn k) := by
  exact ⟨rfl, rfl, rfl, rfl, rfl, rfl, rfl, rfl, rfl, rfl, rfl, rfl, rfl, rfl, rfl, rfl, fun _ => rfl, fun _ => rfl, fun _ => rfl, fun _ => rfl, fun _ => rfl, fun _ => rfl, fun _ => rfl, fun _ => rfl, rfl, rfl, rfl, fun _ => rfl⟩

theorem abandonWeighing_channel_of_ne {h k : HeadId} (ne : k ≠ h) : (abandonWeighing h s).channel k = s.channel k := by
  rw [abandonWeighing, refreshIdle_channel_of_ne _ ne, updateChannel_channel_of_ne _ _ ne]

/-- Abandoned, a weighing's channel is no longer WEIGHING (R41). -/
theorem abandonWeighing_state (h : HeadId) (w : WeighRecord) : ((abandonWeighing h s).channel h).state ≠ .weighing w := by
  simp only [abandonWeighing, refreshIdle_channel_state, updateChannel_channel, Channel.returnToIdle]
  split
  · simp
  · next no => exact no w

@[simp] theorem stopStep_frame :
      (stopStep s).heads = s.heads ∧ (stopStep s).scanner = s.scanner ∧ (stopStep s).advices = s.advices ∧
      (stopStep s).judge = s.judge ∧ (stopStep s).log = s.log ∧ (stopStep s).rack = s.rack ∧
      (stopStep s).lift = s.lift ∧ (stopStep s).release = s.release ∧ (stopStep s).inputs = s.inputs ∧
      (stopStep s).outputs = s.outputs ∧ (stopStep s).clock = s.clock ∧ (stopStep s).alarm = s.alarm ∧
      (stopStep s).free = s.free ∧ (stopStep s).pending = s.pending ∧ (∀ k : HeadId, (stopStep s).head k = s.head k) ∧
      (∀ m : Nat, (stopStep s).input m = s.input m) ∧ (∀ m : Nat, (stopStep s).output m = s.output m) ∧
      (∀ m : Nat, (stopStep s).active m = s.active m) ∧ (∀ k : HeadId, (stopStep s).cradle k = s.cradle k) ∧
      (∀ q : Nat, (stopStep s).record q = s.record q) ∧ (∀ m : Nat, (stopStep s).bin m = s.bin m) ∧
      (stopStep s).mode = s.mode ∧ (stopStep s).now = s.now ∧ (stopStep s).logFree = s.logFree := by
  simp only [stopStep]
  repeat' split
  all_goals simp [State.head, State.input, State.output, State.active, State.cradle, State.record, State.bin, State.mode, State.now, State.logFree]

/-- No calibration step is in progress after one has been stopped (R186). -/
@[simp] theorem stopStep_service : (stopStep s).service = { s.service with step := none } := by
  simp only [stopStep]
  split
  · next e => rw [← e]
  · repeat' split
    all_goals simp

/-- Without a step in progress nothing is stopped. -/
theorem stopStep_of_none (none : s.service.step = none) : stopStep s = s := by
  simp [stopStep, none]

@[simp] theorem askWarm_frame (h : HeadId) :
      (askWarm h s).heads = s.heads ∧ (askWarm h s).scanner = s.scanner ∧ (askWarm h s).advices = s.advices ∧
      (askWarm h s).judge = s.judge ∧ (askWarm h s).log = s.log ∧ (askWarm h s).rack = s.rack ∧
      (askWarm h s).lift = s.lift ∧ (askWarm h s).release = s.release ∧ (askWarm h s).inputs = s.inputs ∧
      (askWarm h s).outputs = s.outputs ∧ (askWarm h s).clock = s.clock ∧ (askWarm h s).alarm = s.alarm ∧
      (askWarm h s).free = s.free ∧ (askWarm h s).pending = s.pending ∧
      (∀ k : HeadId, (askWarm h s).head k = s.head k) ∧ (∀ m : Nat, (askWarm h s).input m = s.input m) ∧
      (∀ m : Nat, (askWarm h s).output m = s.output m) ∧ (∀ m : Nat, (askWarm h s).active m = s.active m) ∧
      (∀ k : HeadId, (askWarm h s).cradle k = s.cradle k) ∧ (∀ q : Nat, (askWarm h s).record q = s.record q) ∧
      (∀ m : Nat, (askWarm h s).bin m = s.bin m) ∧ (askWarm h s).mode = s.mode ∧ (askWarm h s).now = s.now ∧
      (askWarm h s).logFree = s.logFree := by
  simp only [askWarm]
  repeat' split
  all_goals simp [State.head, State.input, State.output, State.active, State.cradle, State.record, State.bin, State.mode, State.now, State.logFree]

@[simp] theorem endUnwantedWarmUp_frame (h : HeadId) :
      (endUnwantedWarmUp h s).heads = s.heads ∧ (endUnwantedWarmUp h s).scanner = s.scanner ∧
      (endUnwantedWarmUp h s).advices = s.advices ∧ (endUnwantedWarmUp h s).judge = s.judge ∧
      (endUnwantedWarmUp h s).log = s.log ∧ (endUnwantedWarmUp h s).rack = s.rack ∧
      (endUnwantedWarmUp h s).lift = s.lift ∧ (endUnwantedWarmUp h s).release = s.release ∧
      (endUnwantedWarmUp h s).inputs = s.inputs ∧ (endUnwantedWarmUp h s).outputs = s.outputs ∧
      (endUnwantedWarmUp h s).clock = s.clock ∧ (endUnwantedWarmUp h s).alarm = s.alarm ∧
      (endUnwantedWarmUp h s).service = s.service ∧ (endUnwantedWarmUp h s).link = s.link ∧
      (endUnwantedWarmUp h s).free = s.free ∧ (endUnwantedWarmUp h s).pending = s.pending ∧
      (∀ k : HeadId, (endUnwantedWarmUp h s).head k = s.head k) ∧
      (∀ q : PortId, (endUnwantedWarmUp h s).port q = s.port q) ∧
      (∀ m : Nat, (endUnwantedWarmUp h s).input m = s.input m) ∧
      (∀ m : Nat, (endUnwantedWarmUp h s).output m = s.output m) ∧
      (∀ m : Nat, (endUnwantedWarmUp h s).active m = s.active m) ∧
      (∀ k : HeadId, (endUnwantedWarmUp h s).cradle k = s.cradle k) ∧
      (∀ q : Nat, (endUnwantedWarmUp h s).record q = s.record q) ∧
      (∀ m : Nat, (endUnwantedWarmUp h s).bin m = s.bin m) ∧ (endUnwantedWarmUp h s).mode = s.mode ∧
      (endUnwantedWarmUp h s).now = s.now ∧ (endUnwantedWarmUp h s).logFree = s.logFree ∧
      (∀ k : HeadId, (endUnwantedWarmUp h s).stepOn k = s.stepOn k) := by
  simp only [endUnwantedWarmUp]
  repeat' split
  all_goals simp [State.head, State.port, State.input, State.output, State.active, State.cradle, State.record, State.bin, State.mode, State.now, State.logFree, State.stepOn]

@[simp] theorem zeroFailed_frame (h : HeadId) (mass : Option Int) :
      (zeroFailed h mass s).heads = s.heads ∧ (zeroFailed h mass s).scanner = s.scanner ∧
      (zeroFailed h mass s).advices = s.advices ∧ (zeroFailed h mass s).judge = s.judge ∧
      (zeroFailed h mass s).log = s.log ∧ (zeroFailed h mass s).rack = s.rack ∧ (zeroFailed h mass s).lift = s.lift ∧
      (zeroFailed h mass s).release = s.release ∧ (zeroFailed h mass s).inputs = s.inputs ∧
      (zeroFailed h mass s).outputs = s.outputs ∧ (zeroFailed h mass s).clock = s.clock ∧
      (zeroFailed h mass s).alarm = s.alarm ∧ (zeroFailed h mass s).service = s.service ∧
      (zeroFailed h mass s).free = s.free ∧ (zeroFailed h mass s).pending = s.pending ∧
      (∀ k : HeadId, (zeroFailed h mass s).head k = s.head k) ∧ (∀ m : Nat, (zeroFailed h mass s).input m = s.input m)
      ∧ (∀ m : Nat, (zeroFailed h mass s).output m = s.output m) ∧
      (∀ m : Nat, (zeroFailed h mass s).active m = s.active m) ∧
      (∀ k : HeadId, (zeroFailed h mass s).cradle k = s.cradle k) ∧
      (∀ q : Nat, (zeroFailed h mass s).record q = s.record q) ∧ (∀ m : Nat, (zeroFailed h mass s).bin m = s.bin m) ∧
      (zeroFailed h mass s).mode = s.mode ∧ (zeroFailed h mass s).now = s.now ∧
      (zeroFailed h mass s).logFree = s.logFree ∧ (∀ k : HeadId, (zeroFailed h mass s).stepOn k = s.stepOn k) := by
  simp only [zeroFailed]
  repeat' split
  all_goals simp [State.head, State.input, State.output, State.active, State.cradle, State.record, State.bin, State.mode, State.now, State.logFree, State.stepOn]

@[simp] theorem evaluateZero_frame (h : HeadId) :
      (evaluateZero h s).heads = s.heads ∧ (evaluateZero h s).scanner = s.scanner ∧
      (evaluateZero h s).advices = s.advices ∧ (evaluateZero h s).judge = s.judge ∧ (evaluateZero h s).log = s.log ∧
      (evaluateZero h s).rack = s.rack ∧ (evaluateZero h s).lift = s.lift ∧ (evaluateZero h s).release = s.release ∧
      (evaluateZero h s).inputs = s.inputs ∧ (evaluateZero h s).outputs = s.outputs ∧
      (evaluateZero h s).clock = s.clock ∧ (evaluateZero h s).alarm = s.alarm ∧ (evaluateZero h s).service = s.service
      ∧ (evaluateZero h s).free = s.free ∧ (evaluateZero h s).pending = s.pending ∧
      (∀ k : HeadId, (evaluateZero h s).head k = s.head k) ∧ (∀ m : Nat, (evaluateZero h s).input m = s.input m) ∧
      (∀ m : Nat, (evaluateZero h s).output m = s.output m) ∧ (∀ m : Nat, (evaluateZero h s).active m = s.active m) ∧
      (∀ k : HeadId, (evaluateZero h s).cradle k = s.cradle k) ∧ (∀ q : Nat, (evaluateZero h s).record q = s.record q)
      ∧ (∀ m : Nat, (evaluateZero h s).bin m = s.bin m) ∧ (evaluateZero h s).mode = s.mode ∧
      (evaluateZero h s).now = s.now ∧ (evaluateZero h s).logFree = s.logFree ∧
      (∀ k : HeadId, (evaluateZero h s).stepOn k = s.stepOn k) := by
  simp only [evaluateZero]
  repeat' split
  all_goals simp [State.head, State.input, State.output, State.active, State.cradle, State.record, State.bin, State.mode, State.now, State.logFree, State.stepOn]

end Sys2Proof.Machine
end

