-- ==== Sys2Proof/Laws/Heads.lean ====
section
/-! SUPPORT. Laws/Heads.lean: what the operations of the drop heads, the judgement and the weighings can do
(Machine/Heads.lean): every field each of them leaves as it is, and what the plainest make of a head. -/

namespace Sys2Proof.Machine

variable (s : State)

/-! ### Closing and faults -/

@[simp] theorem moveHead_frame (h : HeadId) (f : Head → Head) :
      (moveHead h f s).scanner = s.scanner ∧ (moveHead h f s).advices = s.advices ∧ (moveHead h f s).judge = s.judge ∧
      (moveHead h f s).log = s.log ∧ (moveHead h f s).rack = s.rack ∧ (moveHead h f s).lift = s.lift ∧
      (moveHead h f s).release = s.release ∧ (moveHead h f s).inputs = s.inputs ∧ (moveHead h f s).clock = s.clock ∧
      (moveHead h f s).alarm = s.alarm ∧ (moveHead h f s).free = s.free ∧ (moveHead h f s).pending = s.pending ∧
      (∀ m : Nat, (moveHead h f s).input m = s.input m) ∧ (∀ m : Nat, (moveHead h f s).active m = s.active m) ∧
      (∀ k : HeadId, (moveHead h f s).cradle k = s.cradle k) ∧ (∀ q : Nat, (moveHead h f s).record q = s.record q) ∧
      (∀ m : Nat, (moveHead h f s).bin m = s.bin m) ∧ (moveHead h f s).mode = s.mode ∧ (moveHead h f s).now = s.now ∧
      (moveHead h f s).logFree = s.logFree := by
  simp only [moveHead]
  repeat' split
  all_goals simp [State.input, State.active, State.cradle, State.record, State.bin, State.mode, State.now, State.logFree]

@[simp] theorem moveHead_head (h : HeadId) (f : Head → Head) : (moveHead h f s).head h = f (s.head h) := by
  simp only [moveHead]
  split <;> simp

theorem moveHead_head_of_ne {h k : HeadId} (f : Head → Head) (ne : k ≠ h) : (moveHead h f s).head k = s.head k := by
  simp only [moveHead]
  split <;> simp [updateHead_head_of_ne _ _ ne]

@[simp] theorem closeHead_frame (h : HeadId) (cause : ClosedCause) :
      (closeHead h cause s).scanner = s.scanner ∧ (closeHead h cause s).advices = s.advices ∧
      (closeHead h cause s).judge = s.judge ∧ (closeHead h cause s).log = s.log ∧ (closeHead h cause s).rack = s.rack
      ∧ (closeHead h cause s).lift = s.lift ∧ (closeHead h cause s).release = s.release ∧
      (closeHead h cause s).inputs = s.inputs ∧ (closeHead h cause s).clock = s.clock ∧
      (closeHead h cause s).alarm = s.alarm ∧ (closeHead h cause s).free = s.free ∧
      (closeHead h cause s).pending = s.pending ∧ (∀ m : Nat, (closeHead h cause s).input m = s.input m) ∧
      (∀ m : Nat, (closeHead h cause s).active m = s.active m) ∧
      (∀ k : HeadId, (closeHead h cause s).cradle k = s.cradle k) ∧
      (∀ q : Nat, (closeHead h cause s).record q = s.record q) ∧ (∀ m : Nat, (closeHead h cause s).bin m = s.bin m) ∧
      (closeHead h cause s).mode = s.mode ∧ (closeHead h cause s).now = s.now ∧
      (closeHead h cause s).logFree = s.logFree := by
  simp only [closeHead]
  simp [State.input, State.active, State.cradle, State.record, State.bin, State.mode, State.now, State.logFree]

/-- The head is CLOSED, close pending cleared, and nothing else of it changes (R19). -/
@[simp] theorem closeHead_head (h : HeadId) (cause : ClosedCause) :
    (closeHead h cause s).head h = { s.head h with state := .closed, closePending := none } := by
  simp [closeHead]

theorem closeHead_head_of_ne {h k : HeadId} (cause : ClosedCause) (ne : k ≠ h) :
    (closeHead h cause s).head k = s.head k := by
  simp [closeHead, moveHead_head_of_ne _ _ ne]

@[simp] theorem closeReady_frame (h : HeadId) (cause : CloseCause) :
      (closeReady h cause s).scanner = s.scanner ∧ (closeReady h cause s).advices = s.advices ∧
      (closeReady h cause s).judge = s.judge ∧ (closeReady h cause s).rack = s.rack ∧
      (closeReady h cause s).lift = s.lift ∧ (closeReady h cause s).release = s.release ∧
      (closeReady h cause s).inputs = s.inputs ∧ (closeReady h cause s).clock = s.clock ∧
      (closeReady h cause s).alarm = s.alarm ∧ (closeReady h cause s).free = s.free ∧
      (closeReady h cause s).pending = s.pending ∧ (∀ m : Nat, (closeReady h cause s).input m = s.input m) ∧
      (∀ m : Nat, (closeReady h cause s).active m = s.active m) ∧
      (∀ k : HeadId, (closeReady h cause s).cradle k = s.cradle k) ∧
      (∀ m : Nat, (closeReady h cause s).bin m = s.bin m) ∧ (closeReady h cause s).mode = s.mode ∧
      (closeReady h cause s).now = s.now := by
  simp only [closeReady]
  simp [State.input, State.active, State.cradle, State.bin, State.mode, State.now]

@[simp] theorem receiveClose_frame (h : HeadId) (c : CloseCause) :
      (receiveClose h c s).scanner = s.scanner ∧ (receiveClose h c s).advices = s.advices ∧
      (receiveClose h c s).judge = s.judge ∧ (receiveClose h c s).rack = s.rack ∧ (receiveClose h c s).lift = s.lift ∧
      (receiveClose h c s).release = s.release ∧ (receiveClose h c s).inputs = s.inputs ∧
      (receiveClose h c s).clock = s.clock ∧ (receiveClose h c s).alarm = s.alarm ∧ (receiveClose h c s).free = s.free
      ∧ (receiveClose h c s).pending = s.pending ∧ (∀ m : Nat, (receiveClose h c s).input m = s.input m) ∧
      (∀ m : Nat, (receiveClose h c s).active m = s.active m) ∧
      (∀ k : HeadId, (receiveClose h c s).cradle k = s.cradle k) ∧ (∀ m : Nat, (receiveClose h c s).bin m = s.bin m) ∧
      (receiveClose h c s).mode = s.mode ∧ (receiveClose h c s).now = s.now := by
  simp only [receiveClose]
  repeat' split
  all_goals simp [State.input, State.active, State.cradle, State.bin, State.mode, State.now]

theorem receiveClose_head_of_ne {h k : HeadId} (c : CloseCause) (ne : k ≠ h) :
    (receiveClose h c s).head k = s.head k := by
  simp only [receiveClose, closeReady]
  repeat' split
  all_goals simp [closeHead_head_of_ne _ _ ne, giveBack_head_of_ne _ ne, updateHead_head_of_ne _ _ ne]

/-- What close pending makes of the head it reaches (R19, R20, R21). -/
theorem receiveClose_head (h : HeadId) (c : CloseCause) :
    (receiveClose h c s).head h =
      match (s.head h).state with
      | .closed => s.head h
      | .warming => { s.head h with state := .closed, closePending := none }
      | .ready =>
        if s.active (intakeShutLine h) then
          { s.head h with state := .closed, closePending := none, reservation := false }
        else { s.head h with closePending := some ((s.head h).closePending.getD c) }
      | _ => { s.head h with closePending := some ((s.head h).closePending.getD c) } := by
  simp only [receiveClose, closeReady, updateHead_head, updateHead_frame]
  cases e : (s.head h).state <;> simp [e]
  split <;> simp [e]

@[simp] theorem closeAll_frame (c : CloseCause) :
      (closeAll c s).scanner = s.scanner ∧ (closeAll c s).advices = s.advices ∧ (closeAll c s).judge = s.judge ∧
      (closeAll c s).rack = s.rack ∧ (closeAll c s).lift = s.lift ∧ (closeAll c s).release = s.release ∧
      (closeAll c s).inputs = s.inputs ∧ (closeAll c s).clock = s.clock ∧ (closeAll c s).alarm = s.alarm ∧
      (closeAll c s).free = s.free ∧ (closeAll c s).pending = s.pending ∧
      (∀ m : Nat, (closeAll c s).input m = s.input m) ∧ (∀ m : Nat, (closeAll c s).active m = s.active m) ∧
      (∀ k : HeadId, (closeAll c s).cradle k = s.cradle k) ∧ (∀ m : Nat, (closeAll c s).bin m = s.bin m) ∧
      (closeAll c s).mode = s.mode ∧ (closeAll c s).now = s.now := by
  simp [closeAll, HeadId.all]

/-- Every head receives close pending, each by its own state (R19). -/
theorem closeAll_head (c : CloseCause) (h : HeadId) : (closeAll c s).head h = (receiveClose h c s).head h := by
  have ab : HeadId.a ≠ .b := by decide
  have ac : HeadId.a ≠ .c := by decide
  have ba : HeadId.b ≠ .a := by decide
  have bc : HeadId.b ≠ .c := by decide
  have ca : HeadId.c ≠ .a := by decide
  have cb : HeadId.c ≠ .b := by decide
  cases h <;>
    simp [closeAll, HeadId.all, receiveClose_head, receiveClose_head_of_ne, ab, ac, ba, bc, ca, cb]

@[simp] theorem logFullSignal_frame :
      (logFullSignal s).scanner = s.scanner ∧ (logFullSignal s).advices = s.advices ∧
      (logFullSignal s).judge = s.judge ∧ (logFullSignal s).rack = s.rack ∧ (logFullSignal s).lift = s.lift ∧
      (logFullSignal s).release = s.release ∧ (logFullSignal s).inputs = s.inputs ∧ (logFullSignal s).clock = s.clock
      ∧ (logFullSignal s).alarm = s.alarm ∧ (logFullSignal s).free = s.free ∧ (logFullSignal s).pending = s.pending ∧
      (∀ m : Nat, (logFullSignal s).input m = s.input m) ∧ (∀ m : Nat, (logFullSignal s).active m = s.active m) ∧
      (∀ k : HeadId, (logFullSignal s).cradle k = s.cradle k) ∧ (∀ m : Nat, (logFullSignal s).bin m = s.bin m) ∧
      (logFullSignal s).mode = s.mode ∧ (logFullSignal s).now = s.now := by
  simp only [logFullSignal, HeadId.all, List.foldl]
  repeat' split
  all_goals simp

@[simp] theorem signalIfFull_frame :
      (signalIfFull s).scanner = s.scanner ∧ (signalIfFull s).advices = s.advices ∧ (signalIfFull s).judge = s.judge ∧
      (signalIfFull s).rack = s.rack ∧ (signalIfFull s).lift = s.lift ∧ (signalIfFull s).release = s.release ∧
      (signalIfFull s).inputs = s.inputs ∧ (signalIfFull s).clock = s.clock ∧ (signalIfFull s).alarm = s.alarm ∧
      (signalIfFull s).free = s.free ∧ (signalIfFull s).pending = s.pending ∧
      (∀ m : Nat, (signalIfFull s).input m = s.input m) ∧ (∀ m : Nat, (signalIfFull s).active m = s.active m) ∧
      (∀ k : HeadId, (signalIfFull s).cradle k = s.cradle k) ∧ (∀ m : Nat, (signalIfFull s).bin m = s.bin m) ∧
      (signalIfFull s).mode = s.mode ∧ (signalIfFull s).now = s.now := by
  simp only [signalIfFull]
  repeat' split
  all_goals simp [State.input, State.active, State.cradle, State.bin, State.mode, State.now]

/-- With a free place left nothing is signalled (R94). -/
theorem signalIfFull_of_free (free : s.logFree ≠ 0) : signalIfFull s = s := by simp [signalIfFull, free]

@[simp] theorem enterFault_frame (h : HeadId) (cause : HeadFaultCause) :
      (enterFault h cause s).scanner = s.scanner ∧ (enterFault h cause s).advices = s.advices ∧
      (enterFault h cause s).judge = s.judge ∧ (enterFault h cause s).log = s.log ∧
      (enterFault h cause s).rack = s.rack ∧ (enterFault h cause s).lift = s.lift ∧
      (enterFault h cause s).release = s.release ∧ (enterFault h cause s).inputs = s.inputs ∧
      (enterFault h cause s).clock = s.clock ∧ (enterFault h cause s).free = s.free ∧
      (enterFault h cause s).pending = s.pending ∧ (∀ m : Nat, (enterFault h cause s).input m = s.input m) ∧
      (∀ m : Nat, (enterFault h cause s).active m = s.active m) ∧
      (∀ k : HeadId, (enterFault h cause s).cradle k = s.cradle k) ∧
      (∀ q : Nat, (enterFault h cause s).record q = s.record q) ∧ (∀ m : Nat, (enterFault h cause s).bin m = s.bin m)
      ∧ (enterFault h cause s).mode = s.mode ∧ (enterFault h cause s).now = s.now ∧
      (enterFault h cause s).logFree = s.logFree := by
  simp only [enterFault]
  repeat' split
  all_goals simp [State.input, State.active, State.cradle, State.record, State.bin, State.mode, State.now, State.logFree]

/-- The entry actions of FAULT (R23). -/
@[simp] theorem enterFault_head (h : HeadId) (cause : HeadFaultCause) :
    (enterFault h cause s).head h = { s.head h with
      state := .fault cause
      intakeTimer := none
      descentTimer := none
      windowTimer := none
      gateTimer := none
      tags := []
      windowDone := false
      weighing := none
      landed := none } := by
  simp only [enterFault]
  split <;> simp

theorem enterFault_head_of_ne {h k : HeadId} (cause : HeadFaultCause) (ne : k ≠ h) :
    (enterFault h cause s).head k = s.head k := by
  simp only [enterFault]
  split <;> simp [moveHead_head_of_ne _ _ ne]

/-- A fault of a head is latched as an alarm cause (R23, R175). -/
theorem enterFault_latched (h : HeadId) (cause : HeadFaultCause) :
    (enterFault h cause s).alarm.latched.headFault = true := by
  show causeSet (enterFault h cause s).alarm.latched .headFault = true
  simp only [enterFault, updateHeadStats_frame]
  exact reportAlarm_latched _ .headFault

/-! ### Discharge, staging and judgement -/

/-- What a granted reservation leaves (R93). -/
theorem takeReservation_keeps {h : HeadId} {t : State} (taken : takeReservation h s = some t) :
    t.channels = s.channels ∧ t.scanner = s.scanner ∧ t.advices = s.advices ∧ t.judge = s.judge ∧ t.rack = s.rack ∧
      t.lift = s.lift ∧ t.release = s.release ∧ t.inputs = s.inputs ∧ t.outputs = s.outputs ∧ t.clock = s.clock ∧
      t.alarm = s.alarm ∧ t.service = s.service ∧ t.free = s.free ∧ t.pending = s.pending := by
  have frame := takeReservation_frame s taken
  simp_all

@[simp] theorem endDischarge_frame (h : HeadId) :
      (endDischarge h s).scanner = s.scanner ∧ (endDischarge h s).advices = s.advices ∧
      (endDischarge h s).judge = s.judge ∧ (endDischarge h s).rack = s.rack ∧ (endDischarge h s).lift = s.lift ∧
      (endDischarge h s).release = s.release ∧ (endDischarge h s).inputs = s.inputs ∧
      (endDischarge h s).clock = s.clock ∧ (endDischarge h s).alarm = s.alarm ∧ (endDischarge h s).free = s.free ∧
      (endDischarge h s).pending = s.pending ∧ (∀ m : Nat, (endDischarge h s).input m = s.input m) ∧
      (∀ m : Nat, (endDischarge h s).active m = s.active m) ∧ (∀ k : HeadId, (endDischarge h s).cradle k = s.cradle k)
      ∧ (∀ m : Nat, (endDischarge h s).bin m = s.bin m) ∧ (endDischarge h s).mode = s.mode ∧
      (endDischarge h s).now = s.now := by
  simp only [endDischarge]
  repeat' split
  on_goal 3 => next t taken => have frame := takeReservation_frame _ taken; simp_all [State.input, State.active, State.cradle, State.bin, State.mode, State.now]
  all_goals simp

@[simp] theorem cradleCleared_frame (h : HeadId) :
      (cradleCleared h s).scanner = s.scanner ∧ (cradleCleared h s).advices = s.advices ∧
      (cradleCleared h s).judge = s.judge ∧ (cradleCleared h s).rack = s.rack ∧ (cradleCleared h s).lift = s.lift ∧
      (cradleCleared h s).release = s.release ∧ (cradleCleared h s).inputs = s.inputs ∧
      (cradleCleared h s).clock = s.clock ∧ (cradleCleared h s).alarm = s.alarm ∧ (cradleCleared h s).free = s.free ∧
      (cradleCleared h s).pending = s.pending ∧ (∀ m : Nat, (cradleCleared h s).input m = s.input m) ∧
      (∀ m : Nat, (cradleCleared h s).active m = s.active m) ∧
      (∀ k : HeadId, (cradleCleared h s).cradle k = s.cradle k) ∧ (∀ m : Nat, (cradleCleared h s).bin m = s.bin m) ∧
      (cradleCleared h s).mode = s.mode ∧ (cradleCleared h s).now = s.now := by
  simp only [cradleCleared]
  repeat' split
  all_goals simp [State.input, State.active, State.cradle, State.bin, State.mode, State.now]

@[simp] theorem openGate_frame (h : HeadId) :
      (openGate h s).scanner = s.scanner ∧ (openGate h s).advices = s.advices ∧ (openGate h s).judge = s.judge ∧
      (openGate h s).rack = s.rack ∧ (openGate h s).lift = s.lift ∧ (openGate h s).release = s.release ∧
      (openGate h s).inputs = s.inputs ∧ (openGate h s).clock = s.clock ∧ (openGate h s).alarm = s.alarm ∧
      (openGate h s).free = s.free ∧ (openGate h s).pending = s.pending ∧
      (∀ m : Nat, (openGate h s).input m = s.input m) ∧ (∀ m : Nat, (openGate h s).active m = s.active m) ∧
      (∀ k : HeadId, (openGate h s).cradle k = s.cradle k) ∧ (∀ m : Nat, (openGate h s).bin m = s.bin m) ∧
      (openGate h s).mode = s.mode ∧ (openGate h s).now = s.now := by
  simp only [openGate]
  repeat' split
  all_goals simp [State.input, State.active, State.cradle, State.bin, State.mode, State.now]

@[simp] theorem enterDischarge_frame (h : HeadId) :
      (enterDischarge h s).scanner = s.scanner ∧ (enterDischarge h s).advices = s.advices ∧
      (enterDischarge h s).judge = s.judge ∧ (enterDischarge h s).rack = s.rack ∧ (enterDischarge h s).lift = s.lift ∧
      (enterDischarge h s).release = s.release ∧ (enterDischarge h s).inputs = s.inputs ∧
      (enterDischarge h s).clock = s.clock ∧ (enterDischarge h s).alarm = s.alarm ∧ (enterDischarge h s).free = s.free
      ∧ (enterDischarge h s).pending = s.pending ∧ (∀ m : Nat, (enterDischarge h s).input m = s.input m) ∧
      (∀ m : Nat, (enterDischarge h s).active m = s.active m) ∧
      (∀ k : HeadId, (enterDischarge h s).cradle k = s.cradle k) ∧ (∀ m : Nat, (enterDischarge h s).bin m = s.bin m) ∧
      (enterDischarge h s).mode = s.mode ∧ (enterDischarge h s).now = s.now := by
  simp only [enterDischarge]
  repeat' split
  all_goals simp [State.input, State.active, State.cradle, State.bin, State.mode, State.now]

@[simp] theorem enterHold_frame (h : HeadId) :
      (enterHold h s).scanner = s.scanner ∧ (enterHold h s).advices = s.advices ∧ (enterHold h s).judge = s.judge ∧
      (enterHold h s).rack = s.rack ∧ (enterHold h s).lift = s.lift ∧ (enterHold h s).release = s.release ∧
      (enterHold h s).inputs = s.inputs ∧ (enterHold h s).clock = s.clock ∧ (enterHold h s).alarm = s.alarm ∧
      (enterHold h s).free = s.free ∧ (enterHold h s).pending = s.pending ∧
      (∀ m : Nat, (enterHold h s).input m = s.input m) ∧ (∀ m : Nat, (enterHold h s).active m = s.active m) ∧
      (∀ k : HeadId, (enterHold h s).cradle k = s.cradle k) ∧ (∀ m : Nat, (enterHold h s).bin m = s.bin m) ∧
      (enterHold h s).mode = s.mode ∧ (enterHold h s).now = s.now := by
  simp only [enterHold]
  repeat' split
  all_goals simp [State.input, State.active, State.cradle, State.bin, State.mode, State.now]

@[simp] theorem leaveHold_frame (h : HeadId) :
      (leaveHold h s).scanner = s.scanner ∧ (leaveHold h s).advices = s.advices ∧ (leaveHold h s).judge = s.judge ∧
      (leaveHold h s).rack = s.rack ∧ (leaveHold h s).lift = s.lift ∧ (leaveHold h s).release = s.release ∧
      (leaveHold h s).inputs = s.inputs ∧ (leaveHold h s).clock = s.clock ∧ (leaveHold h s).alarm = s.alarm ∧
      (leaveHold h s).free = s.free ∧ (leaveHold h s).pending = s.pending ∧
      (∀ m : Nat, (leaveHold h s).input m = s.input m) ∧ (∀ m : Nat, (leaveHold h s).active m = s.active m) ∧
      (∀ k : HeadId, (leaveHold h s).cradle k = s.cradle k) ∧ (∀ m : Nat, (leaveHold h s).bin m = s.bin m) ∧
      (leaveHold h s).mode = s.mode ∧ (leaveHold h s).now = s.now := by
  simp only [leaveHold]
  repeat' split
  all_goals simp [State.input, State.active, State.cradle, State.bin, State.mode, State.now]

@[simp] theorem judge_frame (h : HeadId) (w : WeighOutcome) :
      (judge h w s).scanner = s.scanner ∧ (judge h w s).judge = s.judge ∧ (judge h w s).rack = s.rack ∧
      (judge h w s).lift = s.lift ∧ (judge h w s).release = s.release ∧ (judge h w s).inputs = s.inputs ∧
      (judge h w s).clock = s.clock ∧ (judge h w s).alarm = s.alarm ∧ (judge h w s).free = s.free ∧
      (judge h w s).pending = s.pending ∧ (∀ m : Nat, (judge h w s).input m = s.input m) ∧
      (∀ m : Nat, (judge h w s).active m = s.active m) ∧ (∀ k : HeadId, (judge h w s).cradle k = s.cradle k) ∧
      (∀ m : Nat, (judge h w s).bin m = s.bin m) ∧ (judge h w s).mode = s.mode ∧ (judge h w s).now = s.now := by
  simp only [judge]
  repeat' split
  all_goals simp [State.input, State.active, State.cradle, State.bin, State.mode, State.now]

@[simp] theorem headOutcome_frame (h : HeadId) (w : WeighOutcome) :
      (headOutcome h w s).scanner = s.scanner ∧ (headOutcome h w s).judge = s.judge ∧
      (headOutcome h w s).rack = s.rack ∧ (headOutcome h w s).lift = s.lift ∧ (headOutcome h w s).release = s.release
      ∧ (headOutcome h w s).inputs = s.inputs ∧ (headOutcome h w s).clock = s.clock ∧
      (headOutcome h w s).alarm = s.alarm ∧ (headOutcome h w s).free = s.free ∧
      (headOutcome h w s).pending = s.pending ∧ (∀ m : Nat, (headOutcome h w s).input m = s.input m) ∧
      (∀ m : Nat, (headOutcome h w s).active m = s.active m) ∧
      (∀ k : HeadId, (headOutcome h w s).cradle k = s.cradle k) ∧ (∀ m : Nat, (headOutcome h w s).bin m = s.bin m) ∧
      (headOutcome h w s).mode = s.mode ∧ (headOutcome h w s).now = s.now := by
  simp only [headOutcome]
  repeat' split
  all_goals simp [State.input, State.active, State.cradle, State.bin, State.mode, State.now]

/-! ### Weighings -/

@[simp] theorem endStep_frame (h : HeadId) (w : WeighOutcome) (average : Int) :
      (endStep h w average s).heads = s.heads ∧ (endStep h w average s).scanner = s.scanner ∧
      (endStep h w average s).advices = s.advices ∧ (endStep h w average s).judge = s.judge ∧
      (endStep h w average s).log = s.log ∧ (endStep h w average s).rack = s.rack ∧
      (endStep h w average s).lift = s.lift ∧ (endStep h w average s).release = s.release ∧
      (endStep h w average s).inputs = s.inputs ∧ (endStep h w average s).outputs = s.outputs ∧
      (endStep h w average s).clock = s.clock ∧ (endStep h w average s).alarm = s.alarm ∧
      (endStep h w average s).free = s.free ∧ (endStep h w average s).pending = s.pending ∧
      (∀ k : HeadId, (endStep h w average s).head k = s.head k) ∧
      (∀ m : Nat, (endStep h w average s).input m = s.input m) ∧
      (∀ m : Nat, (endStep h w average s).output m = s.output m) ∧
      (∀ m : Nat, (endStep h w average s).active m = s.active m) ∧
      (∀ k : HeadId, (endStep h w average s).cradle k = s.cradle k) ∧
      (∀ q : Nat, (endStep h w average s).record q = s.record q) ∧
      (∀ m : Nat, (endStep h w average s).bin m = s.bin m) ∧ (endStep h w average s).mode = s.mode ∧
      (endStep h w average s).now = s.now ∧ (endStep h w average s).logFree = s.logFree := by
  simp only [endStep]
  repeat' split
  all_goals simp [State.head, State.input, State.output, State.active, State.cradle, State.record, State.bin, State.mode, State.now, State.logFree]

@[simp] theorem finishWeighing_frame (h : HeadId) (w : WeighOutcome) (average : Int) :
      (finishWeighing h w average s).scanner = s.scanner ∧ (finishWeighing h w average s).judge = s.judge ∧
      (finishWeighing h w average s).rack = s.rack ∧ (finishWeighing h w average s).lift = s.lift ∧
      (finishWeighing h w average s).release = s.release ∧ (finishWeighing h w average s).inputs = s.inputs ∧
      (finishWeighing h w average s).clock = s.clock ∧ (finishWeighing h w average s).alarm = s.alarm ∧
      (finishWeighing h w average s).free = s.free ∧ (finishWeighing h w average s).pending = s.pending ∧
      (∀ m : Nat, (finishWeighing h w average s).input m = s.input m) ∧
      (∀ m : Nat, (finishWeighing h w average s).active m = s.active m) ∧
      (∀ k : HeadId, (finishWeighing h w average s).cradle k = s.cradle k) ∧
      (∀ m : Nat, (finishWeighing h w average s).bin m = s.bin m) ∧ (finishWeighing h w average s).mode = s.mode ∧
      (finishWeighing h w average s).now = s.now := by
  simp only [finishWeighing]
  repeat' split
  all_goals simp [State.input, State.active, State.cradle, State.bin, State.mode, State.now]

@[simp] theorem startWeighing_frame (h : HeadId) (q : Requester) :
      (startWeighing h q s).scanner = s.scanner ∧ (startWeighing h q s).judge = s.judge ∧
      (startWeighing h q s).rack = s.rack ∧ (startWeighing h q s).lift = s.lift ∧
      (startWeighing h q s).release = s.release ∧ (startWeighing h q s).inputs = s.inputs ∧
      (startWeighing h q s).clock = s.clock ∧ (startWeighing h q s).alarm = s.alarm ∧
      (startWeighing h q s).free = s.free ∧ (startWeighing h q s).pending = s.pending ∧
      (∀ m : Nat, (startWeighing h q s).input m = s.input m) ∧
      (∀ m : Nat, (startWeighing h q s).active m = s.active m) ∧
      (∀ k : HeadId, (startWeighing h q s).cradle k = s.cradle k) ∧ (∀ m : Nat, (startWeighing h q s).bin m = s.bin m)
      ∧ (startWeighing h q s).mode = s.mode ∧ (startWeighing h q s).now = s.now := by
  simp only [startWeighing]
  repeat' split
  all_goals simp [State.input, State.active, State.cradle, State.bin, State.mode, State.now]

@[simp] theorem enterExamine_frame (h : HeadId) :
      (enterExamine h s).scanner = s.scanner ∧ (enterExamine h s).judge = s.judge ∧ (enterExamine h s).rack = s.rack ∧
      (enterExamine h s).lift = s.lift ∧ (enterExamine h s).release = s.release ∧ (enterExamine h s).inputs = s.inputs
      ∧ (enterExamine h s).clock = s.clock ∧ (enterExamine h s).alarm = s.alarm ∧ (enterExamine h s).free = s.free ∧
      (enterExamine h s).pending = s.pending ∧ (∀ m : Nat, (enterExamine h s).input m = s.input m) ∧
      (∀ m : Nat, (enterExamine h s).active m = s.active m) ∧ (∀ k : HeadId, (enterExamine h s).cradle k = s.cradle k)
      ∧ (∀ m : Nat, (enterExamine h s).bin m = s.bin m) ∧ (enterExamine h s).mode = s.mode ∧
      (enterExamine h s).now = s.now := by
  simp only [enterExamine]
  simp [State.input, State.active, State.cradle, State.bin, State.mode, State.now]

@[simp] theorem enterRecover_frame (h : HeadId) :
      (enterRecover h s).scanner = s.scanner ∧ (enterRecover h s).judge = s.judge ∧ (enterRecover h s).rack = s.rack ∧
      (enterRecover h s).lift = s.lift ∧ (enterRecover h s).release = s.release ∧ (enterRecover h s).inputs = s.inputs
      ∧ (enterRecover h s).clock = s.clock ∧ (enterRecover h s).alarm = s.alarm ∧ (enterRecover h s).free = s.free ∧
      (enterRecover h s).pending = s.pending ∧ (∀ m : Nat, (enterRecover h s).input m = s.input m) ∧
      (∀ m : Nat, (enterRecover h s).active m = s.active m) ∧ (∀ k : HeadId, (enterRecover h s).cradle k = s.cradle k)
      ∧ (∀ m : Nat, (enterRecover h s).bin m = s.bin m) ∧ (enterRecover h s).mode = s.mode ∧
      (enterRecover h s).now = s.now := by
  simp only [enterRecover]
  repeat' split
  all_goals simp [State.input, State.active, State.cradle, State.bin, State.mode, State.now]

@[simp] theorem headChannelIdle_frame (h : HeadId) :
      (headChannelIdle h s).scanner = s.scanner ∧ (headChannelIdle h s).judge = s.judge ∧
      (headChannelIdle h s).rack = s.rack ∧ (headChannelIdle h s).lift = s.lift ∧
      (headChannelIdle h s).release = s.release ∧ (headChannelIdle h s).inputs = s.inputs ∧
      (headChannelIdle h s).clock = s.clock ∧ (headChannelIdle h s).free = s.free ∧
      (headChannelIdle h s).pending = s.pending ∧ (∀ m : Nat, (headChannelIdle h s).input m = s.input m) ∧
      (∀ m : Nat, (headChannelIdle h s).active m = s.active m) ∧
      (∀ k : HeadId, (headChannelIdle h s).cradle k = s.cradle k) ∧ (∀ m : Nat, (headChannelIdle h s).bin m = s.bin m)
      ∧ (headChannelIdle h s).mode = s.mode ∧ (headChannelIdle h s).now = s.now := by
  simp only [headChannelIdle]
  repeat' split
  on_goal 2 => next t taken => have frame := takeReservation_frame _ taken; simp_all [State.input, State.active, State.cradle, State.bin, State.mode, State.now]
  all_goals simp

@[simp] theorem stepChannelIdle_frame (h : HeadId) :
      (stepChannelIdle h s).scanner = s.scanner ∧ (stepChannelIdle h s).judge = s.judge ∧
      (stepChannelIdle h s).rack = s.rack ∧ (stepChannelIdle h s).lift = s.lift ∧
      (stepChannelIdle h s).release = s.release ∧ (stepChannelIdle h s).inputs = s.inputs ∧
      (stepChannelIdle h s).clock = s.clock ∧ (stepChannelIdle h s).alarm = s.alarm ∧
      (stepChannelIdle h s).free = s.free ∧ (stepChannelIdle h s).pending = s.pending ∧
      (∀ m : Nat, (stepChannelIdle h s).input m = s.input m) ∧
      (∀ m : Nat, (stepChannelIdle h s).active m = s.active m) ∧
      (∀ k : HeadId, (stepChannelIdle h s).cradle k = s.cradle k) ∧ (∀ m : Nat, (stepChannelIdle h s).bin m = s.bin m)
      ∧ (stepChannelIdle h s).mode = s.mode ∧ (stepChannelIdle h s).now = s.now := by
  simp only [stepChannelIdle]
  repeat' split
  all_goals simp [State.input, State.active, State.cradle, State.bin, State.mode, State.now]

@[simp] theorem countReading_frame (h : HeadId) (w : WeighRecord) (r : Reading) :
      (countReading h w r s).scanner = s.scanner ∧ (countReading h w r s).judge = s.judge ∧
      (countReading h w r s).rack = s.rack ∧ (countReading h w r s).lift = s.lift ∧
      (countReading h w r s).release = s.release ∧ (countReading h w r s).inputs = s.inputs ∧
      (countReading h w r s).clock = s.clock ∧ (countReading h w r s).alarm = s.alarm ∧
      (countReading h w r s).free = s.free ∧ (countReading h w r s).pending = s.pending ∧
      (∀ m : Nat, (countReading h w r s).input m = s.input m) ∧
      (∀ m : Nat, (countReading h w r s).active m = s.active m) ∧
      (∀ k : HeadId, (countReading h w r s).cradle k = s.cradle k) ∧
      (∀ m : Nat, (countReading h w r s).bin m = s.bin m) ∧ (countReading h w r s).mode = s.mode ∧
      (countReading h w r s).now = s.now := by
  simp only [countReading]
  repeat' split
  all_goals simp [State.input, State.active, State.cradle, State.bin, State.mode, State.now]

@[simp] theorem endWarmUp_frame (h : HeadId) (average : Int) (saturated clear : Bool) :
      (endWarmUp h average saturated clear s).scanner = s.scanner ∧
      (endWarmUp h average saturated clear s).judge = s.judge ∧ (endWarmUp h average saturated clear s).rack = s.rack
      ∧ (endWarmUp h average saturated clear s).lift = s.lift ∧
      (endWarmUp h average saturated clear s).release = s.release ∧
      (endWarmUp h average saturated clear s).inputs = s.inputs ∧
      (endWarmUp h average saturated clear s).clock = s.clock ∧ (endWarmUp h average saturated clear s).free = s.free
      ∧ (endWarmUp h average saturated clear s).pending = s.pending ∧
      (∀ m : Nat, (endWarmUp h average saturated clear s).input m = s.input m) ∧
      (∀ m : Nat, (endWarmUp h average saturated clear s).active m = s.active m) ∧
      (∀ k : HeadId, (endWarmUp h average saturated clear s).cradle k = s.cradle k) ∧
      (∀ m : Nat, (endWarmUp h average saturated clear s).bin m = s.bin m) ∧
      (endWarmUp h average saturated clear s).mode = s.mode ∧ (endWarmUp h average saturated clear s).now = s.now := by
  simp only [endWarmUp]
  repeat' split
  all_goals simp [State.input, State.active, State.cradle, State.bin, State.mode, State.now]

@[simp] theorem completeReading_frame (h : HeadId) :
      (completeReading h s).scanner = s.scanner ∧ (completeReading h s).judge = s.judge ∧
      (completeReading h s).rack = s.rack ∧ (completeReading h s).lift = s.lift ∧
      (completeReading h s).release = s.release ∧ (completeReading h s).inputs = s.inputs ∧
      (completeReading h s).clock = s.clock ∧ (completeReading h s).free = s.free ∧
      (completeReading h s).pending = s.pending ∧ (∀ m : Nat, (completeReading h s).input m = s.input m) ∧
      (∀ m : Nat, (completeReading h s).active m = s.active m) ∧
      (∀ k : HeadId, (completeReading h s).cradle k = s.cradle k) ∧ (∀ m : Nat, (completeReading h s).bin m = s.bin m)
      ∧ (completeReading h s).mode = s.mode ∧ (completeReading h s).now = s.now := by
  simp only [completeReading]
  repeat' split
  all_goals simp [State.input, State.active, State.cradle, State.bin, State.mode, State.now]

@[simp] theorem addConversion_frame (h : HeadId) (code : Int) :
      (addConversion h code s).scanner = s.scanner ∧ (addConversion h code s).judge = s.judge ∧
      (addConversion h code s).rack = s.rack ∧ (addConversion h code s).lift = s.lift ∧
      (addConversion h code s).release = s.release ∧ (addConversion h code s).inputs = s.inputs ∧
      (addConversion h code s).clock = s.clock ∧ (addConversion h code s).free = s.free ∧
      (addConversion h code s).pending = s.pending ∧ (∀ m : Nat, (addConversion h code s).input m = s.input m) ∧
      (∀ m : Nat, (addConversion h code s).active m = s.active m) ∧
      (∀ k : HeadId, (addConversion h code s).cradle k = s.cradle k) ∧
      (∀ m : Nat, (addConversion h code s).bin m = s.bin m) ∧ (addConversion h code s).mode = s.mode ∧
      (addConversion h code s).now = s.now := by
  simp only [addConversion]
  repeat' split
  all_goals simp [State.input, State.active, State.cradle, State.bin, State.mode, State.now]

@[simp] theorem settleExpired_frame (h : HeadId) :
      (settleExpired h s).scanner = s.scanner ∧ (settleExpired h s).judge = s.judge ∧
      (settleExpired h s).rack = s.rack ∧ (settleExpired h s).lift = s.lift ∧ (settleExpired h s).release = s.release
      ∧ (settleExpired h s).inputs = s.inputs ∧ (settleExpired h s).clock = s.clock ∧
      (settleExpired h s).alarm = s.alarm ∧ (settleExpired h s).free = s.free ∧
      (settleExpired h s).pending = s.pending ∧ (∀ m : Nat, (settleExpired h s).input m = s.input m) ∧
      (∀ m : Nat, (settleExpired h s).active m = s.active m) ∧
      (∀ k : HeadId, (settleExpired h s).cradle k = s.cradle k) ∧ (∀ m : Nat, (settleExpired h s).bin m = s.bin m) ∧
      (settleExpired h s).mode = s.mode ∧ (settleExpired h s).now = s.now := by
  simp only [settleExpired]
  repeat' split
  all_goals simp [State.input, State.active, State.cradle, State.bin, State.mode, State.now]

/-! ### Line events -/

@[simp] theorem startDeposit_frame (h : HeadId) :
      (startDeposit h s).scanner = s.scanner ∧ (startDeposit h s).advices = s.advices ∧
      (startDeposit h s).judge = s.judge ∧ (startDeposit h s).log = s.log ∧ (startDeposit h s).rack = s.rack ∧
      (startDeposit h s).lift = s.lift ∧ (startDeposit h s).release = s.release ∧ (startDeposit h s).inputs = s.inputs
      ∧ (startDeposit h s).clock = s.clock ∧ (startDeposit h s).alarm = s.alarm ∧ (startDeposit h s).free = s.free ∧
      (startDeposit h s).pending = s.pending ∧ (∀ m : Nat, (startDeposit h s).input m = s.input m) ∧
      (∀ m : Nat, (startDeposit h s).active m = s.active m) ∧ (∀ k : HeadId, (startDeposit h s).cradle k = s.cradle k)
      ∧ (∀ q : Nat, (startDeposit h s).record q = s.record q) ∧ (∀ m : Nat, (startDeposit h s).bin m = s.bin m) ∧
      (startDeposit h s).mode = s.mode ∧ (startDeposit h s).now = s.now ∧ (startDeposit h s).logFree = s.logFree := by
  simp only [startDeposit]
  simp [State.input, State.active, State.cradle, State.record, State.bin, State.mode, State.now, State.logFree]

@[simp] theorem intakeShut_frame (h : HeadId) :
      (intakeShut h s).scanner = s.scanner ∧ (intakeShut h s).judge = s.judge ∧ (intakeShut h s).rack = s.rack ∧
      (intakeShut h s).lift = s.lift ∧ (intakeShut h s).release = s.release ∧ (intakeShut h s).inputs = s.inputs ∧
      (intakeShut h s).clock = s.clock ∧ (intakeShut h s).alarm = s.alarm ∧ (intakeShut h s).free = s.free ∧
      (intakeShut h s).pending = s.pending ∧ (∀ m : Nat, (intakeShut h s).input m = s.input m) ∧
      (∀ m : Nat, (intakeShut h s).active m = s.active m) ∧ (∀ k : HeadId, (intakeShut h s).cradle k = s.cradle k) ∧
      (∀ m : Nat, (intakeShut h s).bin m = s.bin m) ∧ (intakeShut h s).mode = s.mode ∧ (intakeShut h s).now = s.now := by
  simp only [intakeShut]
  repeat' split
  all_goals simp [State.input, State.active, State.cradle, State.bin, State.mode, State.now]

@[simp] theorem countBeam_frame (h : HeadId) :
      (countBeam h s).channels = s.channels ∧ (countBeam h s).scanner = s.scanner ∧
      (countBeam h s).advices = s.advices ∧ (countBeam h s).judge = s.judge ∧ (countBeam h s).log = s.log ∧
      (countBeam h s).rack = s.rack ∧ (countBeam h s).lift = s.lift ∧ (countBeam h s).release = s.release ∧
      (countBeam h s).inputs = s.inputs ∧ (countBeam h s).clock = s.clock ∧ (countBeam h s).alarm = s.alarm ∧
      (countBeam h s).service = s.service ∧ (countBeam h s).link = s.link ∧ (countBeam h s).free = s.free ∧
      (countBeam h s).pending = s.pending ∧ (∀ k : HeadId, (countBeam h s).channel k = s.channel k) ∧
      (∀ q : PortId, (countBeam h s).port q = s.port q) ∧ (∀ m : Nat, (countBeam h s).input m = s.input m) ∧
      (∀ m : Nat, (countBeam h s).active m = s.active m) ∧ (∀ k : HeadId, (countBeam h s).cradle k = s.cradle k) ∧
      (∀ q : Nat, (countBeam h s).record q = s.record q) ∧ (∀ m : Nat, (countBeam h s).bin m = s.bin m) ∧
      (countBeam h s).mode = s.mode ∧ (countBeam h s).now = s.now ∧ (countBeam h s).logFree = s.logFree ∧
      (∀ k : HeadId, (countBeam h s).stepOn k = s.stepOn k) := by
  simp only [countBeam]
  simp [State.channel, State.port, State.input, State.active, State.cradle, State.record, State.bin, State.mode, State.now, State.logFree, State.stepOn]

@[simp] theorem chuteBeam_frame (h : HeadId) :
      (chuteBeam h s).scanner = s.scanner ∧ (chuteBeam h s).advices = s.advices ∧ (chuteBeam h s).judge = s.judge ∧
      (chuteBeam h s).log = s.log ∧ (chuteBeam h s).rack = s.rack ∧ (chuteBeam h s).lift = s.lift ∧
      (chuteBeam h s).release = s.release ∧ (chuteBeam h s).inputs = s.inputs ∧ (chuteBeam h s).clock = s.clock ∧
      (chuteBeam h s).alarm = s.alarm ∧ (chuteBeam h s).free = s.free ∧ (chuteBeam h s).pending = s.pending ∧
      (∀ m : Nat, (chuteBeam h s).input m = s.input m) ∧ (∀ m : Nat, (chuteBeam h s).active m = s.active m) ∧
      (∀ k : HeadId, (chuteBeam h s).cradle k = s.cradle k) ∧ (∀ q : Nat, (chuteBeam h s).record q = s.record q) ∧
      (∀ m : Nat, (chuteBeam h s).bin m = s.bin m) ∧ (chuteBeam h s).mode = s.mode ∧ (chuteBeam h s).now = s.now ∧
      (chuteBeam h s).logFree = s.logFree := by
  simp only [chuteBeam]
  repeat' split
  all_goals simp [State.input, State.active, State.cradle, State.record, State.bin, State.mode, State.now, State.logFree]

@[simp] theorem cradleActivated_frame (h : HeadId) :
      (cradleActivated h s).scanner = s.scanner ∧ (cradleActivated h s).judge = s.judge ∧
      (cradleActivated h s).rack = s.rack ∧ (cradleActivated h s).lift = s.lift ∧
      (cradleActivated h s).release = s.release ∧ (cradleActivated h s).inputs = s.inputs ∧
      (cradleActivated h s).clock = s.clock ∧ (cradleActivated h s).free = s.free ∧
      (cradleActivated h s).pending = s.pending ∧ (∀ m : Nat, (cradleActivated h s).input m = s.input m) ∧
      (∀ m : Nat, (cradleActivated h s).active m = s.active m) ∧
      (∀ k : HeadId, (cradleActivated h s).cradle k = s.cradle k) ∧ (∀ m : Nat, (cradleActivated h s).bin m = s.bin m)
      ∧ (cradleActivated h s).mode = s.mode ∧ (cradleActivated h s).now = s.now := by
  simp only [cradleActivated]
  repeat' split
  all_goals simp [State.input, State.active, State.cradle, State.bin, State.mode, State.now]

@[simp] theorem cradleDeactivated_frame (h : HeadId) :
      (cradleDeactivated h s).scanner = s.scanner ∧ (cradleDeactivated h s).judge = s.judge ∧
      (cradleDeactivated h s).rack = s.rack ∧ (cradleDeactivated h s).lift = s.lift ∧
      (cradleDeactivated h s).release = s.release ∧ (cradleDeactivated h s).inputs = s.inputs ∧
      (cradleDeactivated h s).clock = s.clock ∧ (cradleDeactivated h s).free = s.free ∧
      (cradleDeactivated h s).pending = s.pending ∧ (∀ m : Nat, (cradleDeactivated h s).input m = s.input m) ∧
      (∀ m : Nat, (cradleDeactivated h s).active m = s.active m) ∧
      (∀ k : HeadId, (cradleDeactivated h s).cradle k = s.cradle k) ∧
      (∀ m : Nat, (cradleDeactivated h s).bin m = s.bin m) ∧ (cradleDeactivated h s).mode = s.mode ∧
      (cradleDeactivated h s).now = s.now := by
  simp only [cradleDeactivated]
  repeat' split
  all_goals simp [State.input, State.active, State.cradle, State.bin, State.mode, State.now]

@[simp] theorem gateShut_frame (h : HeadId) :
      (gateShut h s).scanner = s.scanner ∧ (gateShut h s).advices = s.advices ∧ (gateShut h s).judge = s.judge ∧
      (gateShut h s).rack = s.rack ∧ (gateShut h s).lift = s.lift ∧ (gateShut h s).release = s.release ∧
      (gateShut h s).inputs = s.inputs ∧ (gateShut h s).clock = s.clock ∧ (gateShut h s).alarm = s.alarm ∧
      (gateShut h s).free = s.free ∧ (gateShut h s).pending = s.pending ∧
      (∀ m : Nat, (gateShut h s).input m = s.input m) ∧ (∀ m : Nat, (gateShut h s).active m = s.active m) ∧
      (∀ k : HeadId, (gateShut h s).cradle k = s.cradle k) ∧ (∀ m : Nat, (gateShut h s).bin m = s.bin m) ∧
      (gateShut h s).mode = s.mode ∧ (gateShut h s).now = s.now := by
  simp only [gateShut]
  repeat' split
  all_goals simp [State.input, State.active, State.cradle, State.bin, State.mode, State.now]

@[simp] theorem headEdge_frame (h : HeadId) (role : Nat) (activation : Bool) :
      (headEdge h role activation s).scanner = s.scanner ∧ (headEdge h role activation s).judge = s.judge ∧
      (headEdge h role activation s).rack = s.rack ∧ (headEdge h role activation s).lift = s.lift ∧
      (headEdge h role activation s).release = s.release ∧ (headEdge h role activation s).inputs = s.inputs ∧
      (headEdge h role activation s).clock = s.clock ∧ (headEdge h role activation s).free = s.free ∧
      (headEdge h role activation s).pending = s.pending ∧
      (∀ m : Nat, (headEdge h role activation s).input m = s.input m) ∧
      (∀ m : Nat, (headEdge h role activation s).active m = s.active m) ∧
      (∀ k : HeadId, (headEdge h role activation s).cradle k = s.cradle k) ∧
      (∀ m : Nat, (headEdge h role activation s).bin m = s.bin m) ∧ (headEdge h role activation s).mode = s.mode ∧
      (headEdge h role activation s).now = s.now := by
  simp only [headEdge]
  repeat' split
  all_goals simp [State.input, State.active, State.cradle, State.bin, State.mode, State.now]

@[simp] theorem outputMismatch_frame (h : HeadId) :
      (outputMismatch h s).scanner = s.scanner ∧ (outputMismatch h s).advices = s.advices ∧
      (outputMismatch h s).judge = s.judge ∧ (outputMismatch h s).log = s.log ∧ (outputMismatch h s).rack = s.rack ∧
      (outputMismatch h s).lift = s.lift ∧ (outputMismatch h s).release = s.release ∧
      (outputMismatch h s).inputs = s.inputs ∧ (outputMismatch h s).clock = s.clock ∧
      (outputMismatch h s).free = s.free ∧ (outputMismatch h s).pending = s.pending ∧
      (∀ m : Nat, (outputMismatch h s).input m = s.input m) ∧ (∀ m : Nat, (outputMismatch h s).active m = s.active m)
      ∧ (∀ k : HeadId, (outputMismatch h s).cradle k = s.cradle k) ∧
      (∀ q : Nat, (outputMismatch h s).record q = s.record q) ∧ (∀ m : Nat, (outputMismatch h s).bin m = s.bin m) ∧
      (outputMismatch h s).mode = s.mode ∧ (outputMismatch h s).now = s.now ∧ (outputMismatch h s).logFree = s.logFree := by
  simp only [outputMismatch]
  repeat' split
  all_goals simp [State.input, State.active, State.cradle, State.record, State.bin, State.mode, State.now, State.logFree]

end Sys2Proof.Machine
end

