-- ==== Sys2Proof/Laws/Lift.lean ====
section
/-! SUPPORT. Laws/Lift.lean: what the operations of the rack, of the lift and of release control can do (Machine/Rack.lean,
Machine/Lift.lean, Machine/Release.lean), and when an arbitration or a drain evaluation does nothing. -/

namespace Sys2Proof.Machine

variable (s : State)

/-! ### The rack -/

@[simp] theorem setLock_frame (bin : Nat) (l : LockState) :
      (setLock bin l s).heads = s.heads ∧ (setLock bin l s).channels = s.channels ∧
      (setLock bin l s).scanner = s.scanner ∧ (setLock bin l s).advices = s.advices ∧
      (setLock bin l s).judge = s.judge ∧ (setLock bin l s).log = s.log ∧ (setLock bin l s).lift = s.lift ∧
      (setLock bin l s).release = s.release ∧ (setLock bin l s).inputs = s.inputs ∧
      (setLock bin l s).outputs = s.outputs ∧ (setLock bin l s).clock = s.clock ∧ (setLock bin l s).alarm = s.alarm ∧
      (setLock bin l s).service = s.service ∧ (setLock bin l s).link = s.link ∧ (setLock bin l s).free = s.free ∧
      (setLock bin l s).pending = s.pending ∧ (∀ k : HeadId, (setLock bin l s).head k = s.head k) ∧
      (∀ k : HeadId, (setLock bin l s).channel k = s.channel k) ∧ (∀ q : PortId, (setLock bin l s).port q = s.port q)
      ∧ (∀ m : Nat, (setLock bin l s).input m = s.input m) ∧ (∀ m : Nat, (setLock bin l s).output m = s.output m) ∧
      (∀ m : Nat, (setLock bin l s).active m = s.active m) ∧ (∀ k : HeadId, (setLock bin l s).cradle k = s.cradle k) ∧
      (∀ q : Nat, (setLock bin l s).record q = s.record q) ∧ (setLock bin l s).mode = s.mode ∧
      (setLock bin l s).now = s.now ∧ (setLock bin l s).logFree = s.logFree ∧
      (∀ k : HeadId, (setLock bin l s).stepOn k = s.stepOn k) := by
  exact ⟨rfl, rfl, rfl, rfl, rfl, rfl, rfl, rfl, rfl, rfl, rfl, rfl, rfl, rfl, rfl, rfl, fun _ => rfl, fun _ => rfl, fun _ => rfl, fun _ => rfl, fun _ => rfl, fun _ => rfl, fun _ => rfl, fun _ => rfl, rfl, rfl, rfl, fun _ => rfl⟩

@[simp] theorem chargeBin_frame (bin mass : Nat) :
      (chargeBin bin mass s).heads = s.heads ∧ (chargeBin bin mass s).channels = s.channels ∧
      (chargeBin bin mass s).scanner = s.scanner ∧ (chargeBin bin mass s).advices = s.advices ∧
      (chargeBin bin mass s).judge = s.judge ∧ (chargeBin bin mass s).log = s.log ∧
      (chargeBin bin mass s).lift = s.lift ∧ (chargeBin bin mass s).release = s.release ∧
      (chargeBin bin mass s).inputs = s.inputs ∧ (chargeBin bin mass s).outputs = s.outputs ∧
      (chargeBin bin mass s).clock = s.clock ∧ (chargeBin bin mass s).alarm = s.alarm ∧
      (chargeBin bin mass s).service = s.service ∧ (chargeBin bin mass s).link = s.link ∧
      (chargeBin bin mass s).free = s.free ∧ (chargeBin bin mass s).pending = s.pending ∧
      (∀ k : HeadId, (chargeBin bin mass s).head k = s.head k) ∧
      (∀ k : HeadId, (chargeBin bin mass s).channel k = s.channel k) ∧
      (∀ q : PortId, (chargeBin bin mass s).port q = s.port q) ∧
      (∀ m : Nat, (chargeBin bin mass s).input m = s.input m) ∧
      (∀ m : Nat, (chargeBin bin mass s).output m = s.output m) ∧
      (∀ m : Nat, (chargeBin bin mass s).active m = s.active m) ∧
      (∀ k : HeadId, (chargeBin bin mass s).cradle k = s.cradle k) ∧
      (∀ q : Nat, (chargeBin bin mass s).record q = s.record q) ∧ (chargeBin bin mass s).mode = s.mode ∧
      (chargeBin bin mass s).now = s.now ∧ (chargeBin bin mass s).logFree = s.logFree ∧
      (∀ k : HeadId, (chargeBin bin mass s).stepOn k = s.stepOn k) := by
  exact ⟨rfl, rfl, rfl, rfl, rfl, rfl, rfl, rfl, rfl, rfl, rfl, rfl, rfl, rfl, rfl, rfl, fun _ => rfl, fun _ => rfl, fun _ => rfl, fun _ => rfl, fun _ => rfl, fun _ => rfl, fun _ => rfl, fun _ => rfl, rfl, rfl, rfl, fun _ => rfl⟩

@[simp] theorem setZoneFull_frame (zone : Nat) (v : Bool) :
      (setZoneFull zone v s).heads = s.heads ∧ (setZoneFull zone v s).channels = s.channels ∧
      (setZoneFull zone v s).scanner = s.scanner ∧ (setZoneFull zone v s).advices = s.advices ∧
      (setZoneFull zone v s).judge = s.judge ∧ (setZoneFull zone v s).log = s.log ∧
      (setZoneFull zone v s).lift = s.lift ∧ (setZoneFull zone v s).release = s.release ∧
      (setZoneFull zone v s).inputs = s.inputs ∧ (setZoneFull zone v s).outputs = s.outputs ∧
      (setZoneFull zone v s).clock = s.clock ∧ (setZoneFull zone v s).alarm = s.alarm ∧
      (setZoneFull zone v s).service = s.service ∧ (setZoneFull zone v s).link = s.link ∧
      (setZoneFull zone v s).free = s.free ∧ (setZoneFull zone v s).pending = s.pending ∧
      (∀ k : HeadId, (setZoneFull zone v s).head k = s.head k) ∧
      (∀ k : HeadId, (setZoneFull zone v s).channel k = s.channel k) ∧
      (∀ q : PortId, (setZoneFull zone v s).port q = s.port q) ∧
      (∀ m : Nat, (setZoneFull zone v s).input m = s.input m) ∧
      (∀ m : Nat, (setZoneFull zone v s).output m = s.output m) ∧
      (∀ m : Nat, (setZoneFull zone v s).active m = s.active m) ∧
      (∀ k : HeadId, (setZoneFull zone v s).cradle k = s.cradle k) ∧
      (∀ q : Nat, (setZoneFull zone v s).record q = s.record q) ∧ (setZoneFull zone v s).mode = s.mode ∧
      (setZoneFull zone v s).now = s.now ∧ (setZoneFull zone v s).logFree = s.logFree ∧
      (∀ k : HeadId, (setZoneFull zone v s).stepOn k = s.stepOn k) := by
  exact ⟨rfl, rfl, rfl, rfl, rfl, rfl, rfl, rfl, rfl, rfl, rfl, rfl, rfl, rfl, rfl, rfl, fun _ => rfl, fun _ => rfl, fun _ => rfl, fun _ => rfl, fun _ => rfl, fun _ => rfl, fun _ => rfl, fun _ => rfl, rfl, rfl, rfl, fun _ => rfl⟩

@[simp] theorem retrieve_frame (bin mass : Nat) :
      (retrieve bin mass s).heads = s.heads ∧ (retrieve bin mass s).channels = s.channels ∧
      (retrieve bin mass s).scanner = s.scanner ∧ (retrieve bin mass s).advices = s.advices ∧
      (retrieve bin mass s).judge = s.judge ∧ (retrieve bin mass s).log = s.log ∧ (retrieve bin mass s).lift = s.lift
      ∧ (retrieve bin mass s).release = s.release ∧ (retrieve bin mass s).inputs = s.inputs ∧
      (retrieve bin mass s).outputs = s.outputs ∧ (retrieve bin mass s).clock = s.clock ∧
      (retrieve bin mass s).alarm = s.alarm ∧ (retrieve bin mass s).service = s.service ∧
      (retrieve bin mass s).link = s.link ∧ (retrieve bin mass s).free = s.free ∧
      (retrieve bin mass s).pending = s.pending ∧ (∀ k : HeadId, (retrieve bin mass s).head k = s.head k) ∧
      (∀ k : HeadId, (retrieve bin mass s).channel k = s.channel k) ∧
      (∀ q : PortId, (retrieve bin mass s).port q = s.port q) ∧ (∀ m : Nat, (retrieve bin mass s).input m = s.input m)
      ∧ (∀ m : Nat, (retrieve bin mass s).output m = s.output m) ∧
      (∀ m : Nat, (retrieve bin mass s).active m = s.active m) ∧
      (∀ k : HeadId, (retrieve bin mass s).cradle k = s.cradle k) ∧
      (∀ q : Nat, (retrieve bin mass s).record q = s.record q) ∧ (retrieve bin mass s).mode = s.mode ∧
      (retrieve bin mass s).now = s.now ∧ (retrieve bin mass s).logFree = s.logFree ∧
      (∀ k : HeadId, (retrieve bin mass s).stepOn k = s.stepOn k) := by
  exact ⟨rfl, rfl, rfl, rfl, rfl, rfl, rfl, rfl, rfl, rfl, rfl, rfl, rfl, rfl, rfl, rfl, fun _ => rfl, fun _ => rfl, fun _ => rfl, fun _ => rfl, fun _ => rfl, fun _ => rfl, fun _ => rfl, fun _ => rfl, rfl, rfl, rfl, fun _ => rfl⟩

@[simp] theorem emptyBin_frame (bin : Nat) :
      (emptyBin bin s).heads = s.heads ∧ (emptyBin bin s).channels = s.channels ∧ (emptyBin bin s).scanner = s.scanner
      ∧ (emptyBin bin s).advices = s.advices ∧ (emptyBin bin s).judge = s.judge ∧ (emptyBin bin s).log = s.log ∧
      (emptyBin bin s).lift = s.lift ∧ (emptyBin bin s).release = s.release ∧ (emptyBin bin s).inputs = s.inputs ∧
      (emptyBin bin s).outputs = s.outputs ∧ (emptyBin bin s).clock = s.clock ∧ (emptyBin bin s).alarm = s.alarm ∧
      (emptyBin bin s).service = s.service ∧ (emptyBin bin s).link = s.link ∧ (emptyBin bin s).free = s.free ∧
      (emptyBin bin s).pending = s.pending ∧ (∀ k : HeadId, (emptyBin bin s).head k = s.head k) ∧
      (∀ k : HeadId, (emptyBin bin s).channel k = s.channel k) ∧ (∀ q : PortId, (emptyBin bin s).port q = s.port q) ∧
      (∀ m : Nat, (emptyBin bin s).input m = s.input m) ∧ (∀ m : Nat, (emptyBin bin s).output m = s.output m) ∧
      (∀ m : Nat, (emptyBin bin s).active m = s.active m) ∧ (∀ k : HeadId, (emptyBin bin s).cradle k = s.cradle k) ∧
      (∀ q : Nat, (emptyBin bin s).record q = s.record q) ∧ (emptyBin bin s).mode = s.mode ∧
      (emptyBin bin s).now = s.now ∧ (emptyBin bin s).logFree = s.logFree ∧
      (∀ k : HeadId, (emptyBin bin s).stepOn k = s.stepOn k) := by
  exact ⟨rfl, rfl, rfl, rfl, rfl, rfl, rfl, rfl, rfl, rfl, rfl, rfl, rfl, rfl, rfl, rfl, fun _ => rfl, fun _ => rfl, fun _ => rfl, fun _ => rfl, fun _ => rfl, fun _ => rfl, fun _ => rfl, fun _ => rfl, rfl, rfl, rfl, fun _ => rfl⟩

@[simp] theorem rackFullCheck_frame (h : HeadId) (r : Record) :
      (rackFullCheck h r s).heads = s.heads ∧ (rackFullCheck h r s).channels = s.channels ∧
      (rackFullCheck h r s).scanner = s.scanner ∧ (rackFullCheck h r s).advices = s.advices ∧
      (rackFullCheck h r s).judge = s.judge ∧ (rackFullCheck h r s).log = s.log ∧ (rackFullCheck h r s).lift = s.lift
      ∧ (rackFullCheck h r s).release = s.release ∧ (rackFullCheck h r s).inputs = s.inputs ∧
      (rackFullCheck h r s).outputs = s.outputs ∧ (rackFullCheck h r s).clock = s.clock ∧
      (rackFullCheck h r s).alarm = s.alarm ∧ (rackFullCheck h r s).service = s.service ∧
      (rackFullCheck h r s).free = s.free ∧ (rackFullCheck h r s).pending = s.pending ∧
      (∀ k : HeadId, (rackFullCheck h r s).head k = s.head k) ∧
      (∀ k : HeadId, (rackFullCheck h r s).channel k = s.channel k) ∧
      (∀ m : Nat, (rackFullCheck h r s).input m = s.input m) ∧
      (∀ m : Nat, (rackFullCheck h r s).output m = s.output m) ∧
      (∀ m : Nat, (rackFullCheck h r s).active m = s.active m) ∧
      (∀ k : HeadId, (rackFullCheck h r s).cradle k = s.cradle k) ∧
      (∀ q : Nat, (rackFullCheck h r s).record q = s.record q) ∧ (rackFullCheck h r s).mode = s.mode ∧
      (rackFullCheck h r s).now = s.now ∧ (rackFullCheck h r s).logFree = s.logFree ∧
      (∀ k : HeadId, (rackFullCheck h r s).stepOn k = s.stepOn k) := by
  simp only [rackFullCheck]
  repeat' split
  all_goals simp [State.head, State.channel, State.input, State.output, State.active, State.cradle, State.record, State.mode, State.now, State.logFree, State.stepOn]

@[simp] theorem rackFullCheck_bins (h : HeadId) (r : Record) : (rackFullCheck h r s).rack.bins = s.rack.bins := by
  simp only [rackFullCheck]; split <;> simp

@[simp] theorem allocate_frame (r : Record) (bin : Nat) (overflowed : Bool) :
      (allocate r bin overflowed s).heads = s.heads ∧ (allocate r bin overflowed s).channels = s.channels ∧
      (allocate r bin overflowed s).scanner = s.scanner ∧ (allocate r bin overflowed s).advices = s.advices ∧
      (allocate r bin overflowed s).judge = s.judge ∧ (allocate r bin overflowed s).log = s.log ∧
      (allocate r bin overflowed s).lift = s.lift ∧ (allocate r bin overflowed s).release = s.release ∧
      (allocate r bin overflowed s).inputs = s.inputs ∧ (allocate r bin overflowed s).outputs = s.outputs ∧
      (allocate r bin overflowed s).clock = s.clock ∧ (allocate r bin overflowed s).alarm = s.alarm ∧
      (allocate r bin overflowed s).service = s.service ∧ (allocate r bin overflowed s).free = s.free ∧
      (allocate r bin overflowed s).pending = s.pending ∧
      (∀ k : HeadId, (allocate r bin overflowed s).head k = s.head k) ∧
      (∀ k : HeadId, (allocate r bin overflowed s).channel k = s.channel k) ∧
      (∀ m : Nat, (allocate r bin overflowed s).input m = s.input m) ∧
      (∀ m : Nat, (allocate r bin overflowed s).output m = s.output m) ∧
      (∀ m : Nat, (allocate r bin overflowed s).active m = s.active m) ∧
      (∀ k : HeadId, (allocate r bin overflowed s).cradle k = s.cradle k) ∧
      (∀ q : Nat, (allocate r bin overflowed s).record q = s.record q) ∧ (allocate r bin overflowed s).mode = s.mode ∧
      (allocate r bin overflowed s).now = s.now ∧ (allocate r bin overflowed s).logFree = s.logFree ∧
      (∀ k : HeadId, (allocate r bin overflowed s).stepOn k = s.stepOn k) := by
  simp only [allocate]
  repeat' split
  all_goals simp [State.head, State.channel, State.input, State.output, State.active, State.cradle, State.record, State.mode, State.now, State.logFree, State.stepOn]

/-- The chosen bin alone is charged (R113). -/
@[simp] theorem allocate_bins (r : Record) (bin : Nat) (overflowed : Bool) :
    (allocate r bin overflowed s).rack.bins =
      s.rack.bins.modify bin fun b => { b with count := b.count + 1, mass := b.mass + r.allocationMass } := by
  simp only [allocate]
  repeat' split
  all_goals simp [setZoneFull, chargeBin, State.updateBin]

/-! ### The lift -/

@[simp] theorem giveOrder_frame (o : DriveOrder) :
      (giveOrder o s).heads = s.heads ∧ (giveOrder o s).channels = s.channels ∧ (giveOrder o s).scanner = s.scanner ∧
      (giveOrder o s).advices = s.advices ∧ (giveOrder o s).judge = s.judge ∧ (giveOrder o s).log = s.log ∧
      (giveOrder o s).rack = s.rack ∧ (giveOrder o s).release = s.release ∧ (giveOrder o s).inputs = s.inputs ∧
      (giveOrder o s).outputs = s.outputs ∧ (giveOrder o s).clock = s.clock ∧ (giveOrder o s).alarm = s.alarm ∧
      (giveOrder o s).service = s.service ∧ (giveOrder o s).link = s.link ∧ (giveOrder o s).free = s.free ∧
      (giveOrder o s).pending = s.pending ∧ (∀ k : HeadId, (giveOrder o s).head k = s.head k) ∧
      (∀ k : HeadId, (giveOrder o s).channel k = s.channel k) ∧ (∀ q : PortId, (giveOrder o s).port q = s.port q) ∧
      (∀ m : Nat, (giveOrder o s).input m = s.input m) ∧ (∀ m : Nat, (giveOrder o s).output m = s.output m) ∧
      (∀ m : Nat, (giveOrder o s).active m = s.active m) ∧ (∀ k : HeadId, (giveOrder o s).cradle k = s.cradle k) ∧
      (∀ q : Nat, (giveOrder o s).record q = s.record q) ∧ (∀ m : Nat, (giveOrder o s).bin m = s.bin m) ∧
      (giveOrder o s).mode = s.mode ∧ (giveOrder o s).now = s.now ∧ (giveOrder o s).logFree = s.logFree ∧
      (∀ k : HeadId, (giveOrder o s).stepOn k = s.stepOn k) := by
  exact ⟨rfl, rfl, rfl, rfl, rfl, rfl, rfl, rfl, rfl, rfl, rfl, rfl, rfl, rfl, rfl, rfl, fun _ => rfl, fun _ => rfl, fun _ => rfl, fun _ => rfl, fun _ => rfl, fun _ => rfl, fun _ => rfl, fun _ => rfl, fun _ => rfl, rfl, rfl, rfl, fun _ => rfl⟩

@[simp] theorem grant_frame (h : HeadId) (r : Record) (bin : Nat) (overflowed : Bool) (runCount : Nat) :
      (grant h r bin overflowed runCount s).scanner = s.scanner ∧
      (grant h r bin overflowed runCount s).advices = s.advices ∧
      (grant h r bin overflowed runCount s).judge = s.judge ∧
      (grant h r bin overflowed runCount s).release = s.release ∧
      (grant h r bin overflowed runCount s).inputs = s.inputs ∧ (grant h r bin overflowed runCount s).clock = s.clock
      ∧ (grant h r bin overflowed runCount s).alarm = s.alarm ∧ (grant h r bin overflowed runCount s).free = s.free ∧
      (grant h r bin overflowed runCount s).pending = s.pending ∧
      (∀ m : Nat, (grant h r bin overflowed runCount s).input m = s.input m) ∧
      (∀ m : Nat, (grant h r bin overflowed runCount s).active m = s.active m) ∧
      (∀ k : HeadId, (grant h r bin overflowed runCount s).cradle k = s.cradle k) ∧
      (grant h r bin overflowed runCount s).mode = s.mode ∧ (grant h r bin overflowed runCount s).now = s.now := by
  simp only [grant]
  simp [State.input, State.active, State.cradle, State.mode, State.now]

/-- A head that is considered changes nothing but the rack-full flag and its notice (R112). -/
theorem consider_frame (h : HeadId) : (consider h s).2 = s ∨ ∃ r, (consider h s).2 = rackFullCheck h r s := by
  unfold consider
  split
  · exact .inl rfl
  · split
    · exact .inl rfl
    · exact .inl rfl
    · exact .inr ⟨_, rfl⟩

/-- With no bag waiting a head is not eligible, and nothing changes (R122). -/
theorem consider_of_empty {h : HeadId} (empty : (s.head h).staging = []) : consider h s = (none, s) := by
  simp [consider, State.front, empty]

/-- With no bag waiting at any of them, no head is eligible (R122). -/
theorem firstEligible_of_empty (l : List HeadId) (empty : ∀ h ∈ l, (s.head h).staging = []) :
    firstEligible l s = (none, s) := by
  induction l with
  | nil => rfl
  | cons h l ih =>
    simp only [firstEligible, consider_of_empty s (empty h (by simp))]
    exact ih fun k mem => empty k (by simp [mem])

/-- An arbitration with every staging queue empty does nothing (R123). -/
theorem arbitrate_of_empty (empty : ∀ h, (s.head h).staging = []) : arbitrate s = s := by
  unfold arbitrate
  split
  · split
    · simp [firstEligible_of_empty s _ fun h _ => empty h, grantChosen]
    · split
      · simp [firstEligible_of_empty s _ fun h _ => empty h, grantChosen]
      · simp [firstEligible_of_empty s _ fun h _ => empty h, grantChosen]
  · rfl
  · rfl

/-- An arbitration runs only while the lift is IDLE (R123). -/
theorem arbitrate_of_busy (busy : s.lift.state ≠ .idle) : arbitrate s = s := by
  unfold arbitrate
  split
  · next idle => exact absurd idle busy
  · rfl
  · rfl

/-- What the search for an eligible head leaves (R122). -/
theorem firstEligible_frame (l : List HeadId) :
    (firstEligible l s).2.heads = s.heads ∧ (firstEligible l s).2.channels = s.channels ∧
      (firstEligible l s).2.scanner = s.scanner ∧ (firstEligible l s).2.advices = s.advices ∧
      (firstEligible l s).2.judge = s.judge ∧ (firstEligible l s).2.log = s.log ∧
      (firstEligible l s).2.lift = s.lift ∧ (firstEligible l s).2.release = s.release ∧
      (firstEligible l s).2.inputs = s.inputs ∧ (firstEligible l s).2.outputs = s.outputs ∧
      (firstEligible l s).2.clock = s.clock ∧ (firstEligible l s).2.alarm = s.alarm ∧
      (firstEligible l s).2.service = s.service ∧ (firstEligible l s).2.free = s.free ∧
      (firstEligible l s).2.pending = s.pending := by
  induction l generalizing s with
  | nil => simp [firstEligible]
  | cons h l ih =>
    simp only [firstEligible]
    have this := consider_frame s h
    rcases e : consider h s with ⟨_ | ⟨r, b, o⟩, t⟩
    · rw [e] at this
      have step := ih t
      rcases this with rfl | ⟨r, rfl⟩ <;> simpa using step
    · rw [e] at this
      rcases this with rfl | ⟨r, rfl⟩ <;> simp

/-- A grant changes the granted head, the record, the rack and the lift alone (R126). -/
theorem grantChosen_frame (n : Nat) (c : Option (HeadId × Record × Nat × Bool) × State) :
    (grantChosen n c).scanner = c.2.scanner ∧ (grantChosen n c).advices = c.2.advices ∧
      (grantChosen n c).judge = c.2.judge ∧ (grantChosen n c).release = c.2.release ∧
      (grantChosen n c).inputs = c.2.inputs ∧ (grantChosen n c).clock = c.2.clock ∧
      (grantChosen n c).alarm = c.2.alarm ∧ (grantChosen n c).free = c.2.free ∧
      (grantChosen n c).pending = c.2.pending := by
  rcases c with ⟨_ | ⟨h, r, b, o⟩, t⟩ <;> simp [grantChosen]

/-- What an arbitration leaves (R123). -/
@[simp] theorem arbitrate_frame :
      (arbitrate s).scanner = s.scanner ∧ (arbitrate s).advices = s.advices ∧ (arbitrate s).judge = s.judge ∧
      (arbitrate s).release = s.release ∧ (arbitrate s).inputs = s.inputs ∧ (arbitrate s).clock = s.clock ∧
      (arbitrate s).alarm = s.alarm ∧ (arbitrate s).free = s.free ∧ (arbitrate s).pending = s.pending ∧
      (∀ m : Nat, (arbitrate s).input m = s.input m) ∧ (∀ m : Nat, (arbitrate s).active m = s.active m) ∧
      (∀ k : HeadId, (arbitrate s).cradle k = s.cradle k) ∧ (arbitrate s).mode = s.mode ∧ (arbitrate s).now = s.now := by
  unfold arbitrate
  split
  · dsimp only
    split
    · have keeps := grantChosen_frame 1 (firstEligible (alternateOrder s.lift.lastHead) s)
      have same := firstEligible_frame s (alternateOrder s.lift.lastHead)
      simp_all [State.input, State.active, State.cradle, State.mode, State.now]
    · split
      · have same := firstEligible_frame s [s.lift.lastHead]
        split
        · next choice t e =>
          have keeps := grantChosen_frame (s.lift.runCount + 1) (some choice, t)
          simp_all [State.input, State.active, State.cradle, State.mode, State.now]
        · next t e =>
          have keeps := grantChosen_frame 1 (firstEligible ((alternateOrder s.lift.lastHead).filter (· != s.lift.lastHead)) t)
          have more := firstEligible_frame t ((alternateOrder s.lift.lastHead).filter (· != s.lift.lastHead))
          simp_all [State.input, State.active, State.cradle, State.mode, State.now]
      · have keeps := grantChosen_frame 1 (firstEligible (alternateOrder s.lift.lastHead) s)
        have same := firstEligible_frame s (alternateOrder s.lift.lastHead)
        simp_all [State.input, State.active, State.cradle, State.mode, State.now]
  · simp
  · simp

@[simp] theorem enterLiftFault_frame (detail : LiftFaultDetail) (f : InFlight) :
      (enterLiftFault detail f s).heads = s.heads ∧ (enterLiftFault detail f s).channels = s.channels ∧
      (enterLiftFault detail f s).scanner = s.scanner ∧ (enterLiftFault detail f s).advices = s.advices ∧
      (enterLiftFault detail f s).judge = s.judge ∧ (enterLiftFault detail f s).rack = s.rack ∧
      (enterLiftFault detail f s).release = s.release ∧ (enterLiftFault detail f s).inputs = s.inputs ∧
      (enterLiftFault detail f s).clock = s.clock ∧ (enterLiftFault detail f s).free = s.free ∧
      (enterLiftFault detail f s).pending = s.pending ∧ (∀ k : HeadId, (enterLiftFault detail f s).head k = s.head k)
      ∧ (∀ k : HeadId, (enterLiftFault detail f s).channel k = s.channel k) ∧
      (∀ m : Nat, (enterLiftFault detail f s).input m = s.input m) ∧
      (∀ m : Nat, (enterLiftFault detail f s).active m = s.active m) ∧
      (∀ k : HeadId, (enterLiftFault detail f s).cradle k = s.cradle k) ∧
      (∀ m : Nat, (enterLiftFault detail f s).bin m = s.bin m) ∧ (enterLiftFault detail f s).mode = s.mode ∧
      (enterLiftFault detail f s).now = s.now := by
  simp only [enterLiftFault]
  simp [State.head, State.channel, State.input, State.active, State.cradle, State.bin, State.mode, State.now]

@[simp] theorem moveAnswered_frame :
      (moveAnswered s).heads = s.heads ∧ (moveAnswered s).channels = s.channels ∧ (moveAnswered s).scanner = s.scanner
      ∧ (moveAnswered s).advices = s.advices ∧ (moveAnswered s).judge = s.judge ∧ (moveAnswered s).log = s.log ∧
      (moveAnswered s).rack = s.rack ∧ (moveAnswered s).release = s.release ∧ (moveAnswered s).inputs = s.inputs ∧
      (moveAnswered s).outputs = s.outputs ∧ (moveAnswered s).clock = s.clock ∧ (moveAnswered s).alarm = s.alarm ∧
      (moveAnswered s).service = s.service ∧ (moveAnswered s).link = s.link ∧ (moveAnswered s).free = s.free ∧
      (moveAnswered s).pending = s.pending ∧ (∀ k : HeadId, (moveAnswered s).head k = s.head k) ∧
      (∀ k : HeadId, (moveAnswered s).channel k = s.channel k) ∧ (∀ q : PortId, (moveAnswered s).port q = s.port q) ∧
      (∀ m : Nat, (moveAnswered s).input m = s.input m) ∧ (∀ m : Nat, (moveAnswered s).output m = s.output m) ∧
      (∀ m : Nat, (moveAnswered s).active m = s.active m) ∧ (∀ k : HeadId, (moveAnswered s).cradle k = s.cradle k) ∧
      (∀ q : Nat, (moveAnswered s).record q = s.record q) ∧ (∀ m : Nat, (moveAnswered s).bin m = s.bin m) ∧
      (moveAnswered s).mode = s.mode ∧ (moveAnswered s).now = s.now ∧ (moveAnswered s).logFree = s.logFree ∧
      (∀ k : HeadId, (moveAnswered s).stepOn k = s.stepOn k) := by
  exact ⟨rfl, rfl, rfl, rfl, rfl, rfl, rfl, rfl, rfl, rfl, rfl, rfl, rfl, rfl, rfl, rfl, fun _ => rfl, fun _ => rfl, fun _ => rfl, fun _ => rfl, fun _ => rfl, fun _ => rfl, fun _ => rfl, fun _ => rfl, fun _ => rfl, rfl, rfl, rfl, fun _ => rfl⟩

@[simp] theorem liftIdle_frame :
      (liftIdle s).heads = s.heads ∧ (liftIdle s).channels = s.channels ∧ (liftIdle s).scanner = s.scanner ∧
      (liftIdle s).advices = s.advices ∧ (liftIdle s).judge = s.judge ∧ (liftIdle s).log = s.log ∧
      (liftIdle s).rack = s.rack ∧ (liftIdle s).release = s.release ∧ (liftIdle s).inputs = s.inputs ∧
      (liftIdle s).outputs = s.outputs ∧ (liftIdle s).clock = s.clock ∧ (liftIdle s).alarm = s.alarm ∧
      (liftIdle s).service = s.service ∧ (liftIdle s).link = s.link ∧ (liftIdle s).free = s.free ∧
      (liftIdle s).pending = s.pending ∧ (∀ k : HeadId, (liftIdle s).head k = s.head k) ∧
      (∀ k : HeadId, (liftIdle s).channel k = s.channel k) ∧ (∀ q : PortId, (liftIdle s).port q = s.port q) ∧
      (∀ m : Nat, (liftIdle s).input m = s.input m) ∧ (∀ m : Nat, (liftIdle s).output m = s.output m) ∧
      (∀ m : Nat, (liftIdle s).active m = s.active m) ∧ (∀ k : HeadId, (liftIdle s).cradle k = s.cradle k) ∧
      (∀ q : Nat, (liftIdle s).record q = s.record q) ∧ (∀ m : Nat, (liftIdle s).bin m = s.bin m) ∧
      (liftIdle s).mode = s.mode ∧ (liftIdle s).now = s.now ∧ (liftIdle s).logFree = s.logFree ∧
      (∀ k : HeadId, (liftIdle s).stepOn k = s.stepOn k) := by
  exact ⟨rfl, rfl, rfl, rfl, rfl, rfl, rfl, rfl, rfl, rfl, rfl, rfl, rfl, rfl, rfl, rfl, fun _ => rfl, fun _ => rfl, fun _ => rfl, fun _ => rfl, fun _ => rfl, fun _ => rfl, fun _ => rfl, fun _ => rfl, fun _ => rfl, rfl, rfl, rfl, fun _ => rfl⟩

@[simp] theorem storeInFlight_frame (f : InFlight) (mark : StoredMark) :
      (storeInFlight f mark s).heads = s.heads ∧ (storeInFlight f mark s).channels = s.channels ∧
      (storeInFlight f mark s).scanner = s.scanner ∧ (storeInFlight f mark s).advices = s.advices ∧
      (storeInFlight f mark s).judge = s.judge ∧ (storeInFlight f mark s).rack = s.rack ∧
      (storeInFlight f mark s).lift = s.lift ∧ (storeInFlight f mark s).release = s.release ∧
      (storeInFlight f mark s).inputs = s.inputs ∧ (storeInFlight f mark s).outputs = s.outputs ∧
      (storeInFlight f mark s).clock = s.clock ∧ (storeInFlight f mark s).alarm = s.alarm ∧
      (storeInFlight f mark s).service = s.service ∧ (storeInFlight f mark s).free = s.free ∧
      (storeInFlight f mark s).pending = s.pending ∧ (∀ k : HeadId, (storeInFlight f mark s).head k = s.head k) ∧
      (∀ k : HeadId, (storeInFlight f mark s).channel k = s.channel k) ∧
      (∀ m : Nat, (storeInFlight f mark s).input m = s.input m) ∧
      (∀ m : Nat, (storeInFlight f mark s).output m = s.output m) ∧
      (∀ m : Nat, (storeInFlight f mark s).active m = s.active m) ∧
      (∀ k : HeadId, (storeInFlight f mark s).cradle k = s.cradle k) ∧
      (∀ m : Nat, (storeInFlight f mark s).bin m = s.bin m) ∧ (storeInFlight f mark s).mode = s.mode ∧
      (storeInFlight f mark s).now = s.now ∧ (∀ k : HeadId, (storeInFlight f mark s).stepOn k = s.stepOn k) := by
  simp only [storeInFlight]
  simp [State.head, State.channel, State.input, State.output, State.active, State.cradle, State.bin, State.mode, State.now, State.stepOn]

/-! ### Release control -/

@[simp] theorem endServiceState_frame :
      (endServiceState s).heads = s.heads ∧ (endServiceState s).channels = s.channels ∧
      (endServiceState s).scanner = s.scanner ∧ (endServiceState s).advices = s.advices ∧
      (endServiceState s).judge = s.judge ∧ (endServiceState s).log = s.log ∧ (endServiceState s).rack = s.rack ∧
      (endServiceState s).lift = s.lift ∧ (endServiceState s).release = s.release ∧
      (endServiceState s).inputs = s.inputs ∧ (endServiceState s).clock = s.clock ∧
      (endServiceState s).alarm = s.alarm ∧ (endServiceState s).link = s.link ∧ (endServiceState s).free = s.free ∧
      (endServiceState s).pending = s.pending ∧ (∀ k : HeadId, (endServiceState s).head k = s.head k) ∧
      (∀ k : HeadId, (endServiceState s).channel k = s.channel k) ∧
      (∀ q : PortId, (endServiceState s).port q = s.port q) ∧ (∀ m : Nat, (endServiceState s).input m = s.input m) ∧
      (∀ m : Nat, (endServiceState s).active m = s.active m) ∧
      (∀ k : HeadId, (endServiceState s).cradle k = s.cradle k) ∧
      (∀ q : Nat, (endServiceState s).record q = s.record q) ∧ (∀ m : Nat, (endServiceState s).bin m = s.bin m) ∧
      (endServiceState s).mode = s.mode ∧ (endServiceState s).now = s.now ∧ (endServiceState s).logFree = s.logFree := by
  simp only [endServiceState]
  repeat' split
  all_goals simp [State.head, State.channel, State.port, State.input, State.active, State.cradle, State.record, State.bin, State.mode, State.now, State.logFree]

@[simp] theorem changeMode_frame (mode : Mode) (source : ModeSource) :
      (changeMode mode source s).heads = s.heads ∧ (changeMode mode source s).channels = s.channels ∧
      (changeMode mode source s).scanner = s.scanner ∧ (changeMode mode source s).advices = s.advices ∧
      (changeMode mode source s).judge = s.judge ∧ (changeMode mode source s).log = s.log ∧
      (changeMode mode source s).rack = s.rack ∧ (changeMode mode source s).lift = s.lift ∧
      (changeMode mode source s).inputs = s.inputs ∧ (changeMode mode source s).outputs = s.outputs ∧
      (changeMode mode source s).clock = s.clock ∧ (changeMode mode source s).alarm = s.alarm ∧
      (changeMode mode source s).service = s.service ∧ (changeMode mode source s).free = s.free ∧
      (changeMode mode source s).pending = s.pending ∧ (∀ k : HeadId, (changeMode mode source s).head k = s.head k) ∧
      (∀ k : HeadId, (changeMode mode source s).channel k = s.channel k) ∧
      (∀ m : Nat, (changeMode mode source s).input m = s.input m) ∧
      (∀ m : Nat, (changeMode mode source s).output m = s.output m) ∧
      (∀ m : Nat, (changeMode mode source s).active m = s.active m) ∧
      (∀ k : HeadId, (changeMode mode source s).cradle k = s.cradle k) ∧
      (∀ q : Nat, (changeMode mode source s).record q = s.record q) ∧
      (∀ m : Nat, (changeMode mode source s).bin m = s.bin m) ∧ (changeMode mode source s).now = s.now ∧
      (changeMode mode source s).logFree = s.logFree ∧
      (∀ k : HeadId, (changeMode mode source s).stepOn k = s.stepOn k) := by
  simp only [changeMode]
  simp [State.head, State.channel, State.input, State.output, State.active, State.cradle, State.record, State.bin, State.now, State.logFree, State.stepOn]

@[simp] theorem evaluateDrain_frame :
      (evaluateDrain s).heads = s.heads ∧ (evaluateDrain s).channels = s.channels ∧
      (evaluateDrain s).scanner = s.scanner ∧ (evaluateDrain s).advices = s.advices ∧
      (evaluateDrain s).judge = s.judge ∧ (evaluateDrain s).log = s.log ∧ (evaluateDrain s).rack = s.rack ∧
      (evaluateDrain s).lift = s.lift ∧ (evaluateDrain s).inputs = s.inputs ∧ (evaluateDrain s).outputs = s.outputs ∧
      (evaluateDrain s).clock = s.clock ∧ (evaluateDrain s).alarm = s.alarm ∧ (evaluateDrain s).service = s.service ∧
      (evaluateDrain s).free = s.free ∧ (evaluateDrain s).pending = s.pending ∧
      (∀ k : HeadId, (evaluateDrain s).head k = s.head k) ∧ (∀ k : HeadId, (evaluateDrain s).channel k = s.channel k)
      ∧ (∀ m : Nat, (evaluateDrain s).input m = s.input m) ∧ (∀ m : Nat, (evaluateDrain s).output m = s.output m) ∧
      (∀ m : Nat, (evaluateDrain s).active m = s.active m) ∧ (∀ k : HeadId, (evaluateDrain s).cradle k = s.cradle k) ∧
      (∀ q : Nat, (evaluateDrain s).record q = s.record q) ∧ (∀ m : Nat, (evaluateDrain s).bin m = s.bin m) ∧
      (evaluateDrain s).now = s.now ∧ (evaluateDrain s).logFree = s.logFree ∧
      (∀ k : HeadId, (evaluateDrain s).stepOn k = s.stepOn k) := by
  simp only [evaluateDrain]
  repeat' split
  all_goals simp [State.head, State.channel, State.input, State.output, State.active, State.cradle, State.record, State.bin, State.now, State.logFree, State.stepOn]

/-- Only in DAY_PENDING can a drain evaluation do anything (R142). -/
theorem evaluateDrain_of_not_pending (not : s.mode ≠ .dayPending) : evaluateDrain s = s := by
  unfold evaluateDrain
  split
  · next source e => exact absurd (by simp [State.mode, e, Mode.name]) not
  · rfl
  · rfl

@[simp] theorem endReservation_frame (v : Reservation) (reason : EndReason) :
      (endReservation v reason s).heads = s.heads ∧ (endReservation v reason s).channels = s.channels ∧
      (endReservation v reason s).scanner = s.scanner ∧ (endReservation v reason s).advices = s.advices ∧
      (endReservation v reason s).judge = s.judge ∧ (endReservation v reason s).log = s.log ∧
      (endReservation v reason s).lift = s.lift ∧ (endReservation v reason s).inputs = s.inputs ∧
      (endReservation v reason s).outputs = s.outputs ∧ (endReservation v reason s).clock = s.clock ∧
      (endReservation v reason s).alarm = s.alarm ∧ (endReservation v reason s).service = s.service ∧
      (endReservation v reason s).free = s.free ∧ (endReservation v reason s).pending = s.pending ∧
      (∀ k : HeadId, (endReservation v reason s).head k = s.head k) ∧
      (∀ k : HeadId, (endReservation v reason s).channel k = s.channel k) ∧
      (∀ m : Nat, (endReservation v reason s).input m = s.input m) ∧
      (∀ m : Nat, (endReservation v reason s).output m = s.output m) ∧
      (∀ m : Nat, (endReservation v reason s).active m = s.active m) ∧
      (∀ k : HeadId, (endReservation v reason s).cradle k = s.cradle k) ∧
      (∀ q : Nat, (endReservation v reason s).record q = s.record q) ∧ (endReservation v reason s).now = s.now ∧
      (endReservation v reason s).logFree = s.logFree ∧
      (∀ k : HeadId, (endReservation v reason s).stepOn k = s.stepOn k) := by
  simp only [endReservation]
  simp [State.head, State.channel, State.input, State.output, State.active, State.cradle, State.record, State.now, State.logFree, State.stepOn]

@[simp] theorem dropUnlock_frame (bin : Nat) :
      (dropUnlock bin s).heads = s.heads ∧ (dropUnlock bin s).channels = s.channels ∧
      (dropUnlock bin s).scanner = s.scanner ∧ (dropUnlock bin s).advices = s.advices ∧
      (dropUnlock bin s).judge = s.judge ∧ (dropUnlock bin s).log = s.log ∧ (dropUnlock bin s).rack = s.rack ∧
      (dropUnlock bin s).lift = s.lift ∧ (dropUnlock bin s).inputs = s.inputs ∧ (dropUnlock bin s).outputs = s.outputs
      ∧ (dropUnlock bin s).clock = s.clock ∧ (dropUnlock bin s).alarm = s.alarm ∧
      (dropUnlock bin s).service = s.service ∧ (dropUnlock bin s).link = s.link ∧ (dropUnlock bin s).free = s.free ∧
      (dropUnlock bin s).pending = s.pending ∧ (∀ k : HeadId, (dropUnlock bin s).head k = s.head k) ∧
      (∀ k : HeadId, (dropUnlock bin s).channel k = s.channel k) ∧
      (∀ q : PortId, (dropUnlock bin s).port q = s.port q) ∧ (∀ m : Nat, (dropUnlock bin s).input m = s.input m) ∧
      (∀ m : Nat, (dropUnlock bin s).output m = s.output m) ∧ (∀ m : Nat, (dropUnlock bin s).active m = s.active m) ∧
      (∀ k : HeadId, (dropUnlock bin s).cradle k = s.cradle k) ∧ (∀ q : Nat, (dropUnlock bin s).record q = s.record q)
      ∧ (∀ m : Nat, (dropUnlock bin s).bin m = s.bin m) ∧ (dropUnlock bin s).now = s.now ∧
      (dropUnlock bin s).logFree = s.logFree ∧ (∀ k : HeadId, (dropUnlock bin s).stepOn k = s.stepOn k) := by
  exact ⟨rfl, rfl, rfl, rfl, rfl, rfl, rfl, rfl, rfl, rfl, rfl, rfl, rfl, rfl, rfl, rfl, fun _ => rfl, fun _ => rfl, fun _ => rfl, fun _ => rfl, fun _ => rfl, fun _ => rfl, fun _ => rfl, fun _ => rfl, fun _ => rfl, rfl, rfl, fun _ => rfl⟩

@[simp] theorem unlockAnswered_frame (bin : Nat) :
      (unlockAnswered bin s).heads = s.heads ∧ (unlockAnswered bin s).channels = s.channels ∧
      (unlockAnswered bin s).scanner = s.scanner ∧ (unlockAnswered bin s).advices = s.advices ∧
      (unlockAnswered bin s).judge = s.judge ∧ (unlockAnswered bin s).log = s.log ∧
      (unlockAnswered bin s).rack = s.rack ∧ (unlockAnswered bin s).release = s.release ∧
      (unlockAnswered bin s).inputs = s.inputs ∧ (unlockAnswered bin s).outputs = s.outputs ∧
      (unlockAnswered bin s).clock = s.clock ∧ (unlockAnswered bin s).alarm = s.alarm ∧
      (unlockAnswered bin s).service = s.service ∧ (unlockAnswered bin s).link = s.link ∧
      (unlockAnswered bin s).free = s.free ∧ (unlockAnswered bin s).pending = s.pending ∧
      (∀ k : HeadId, (unlockAnswered bin s).head k = s.head k) ∧
      (∀ k : HeadId, (unlockAnswered bin s).channel k = s.channel k) ∧
      (∀ q : PortId, (unlockAnswered bin s).port q = s.port q) ∧
      (∀ m : Nat, (unlockAnswered bin s).input m = s.input m) ∧
      (∀ m : Nat, (unlockAnswered bin s).output m = s.output m) ∧
      (∀ m : Nat, (unlockAnswered bin s).active m = s.active m) ∧
      (∀ k : HeadId, (unlockAnswered bin s).cradle k = s.cradle k) ∧
      (∀ q : Nat, (unlockAnswered bin s).record q = s.record q) ∧ (∀ m : Nat, (unlockAnswered bin s).bin m = s.bin m)
      ∧ (unlockAnswered bin s).mode = s.mode ∧ (unlockAnswered bin s).now = s.now ∧
      (unlockAnswered bin s).logFree = s.logFree ∧ (∀ k : HeadId, (unlockAnswered bin s).stepOn k = s.stepOn k) := by
  exact ⟨rfl, rfl, rfl, rfl, rfl, rfl, rfl, rfl, rfl, rfl, rfl, rfl, rfl, rfl, rfl, rfl, fun _ => rfl, fun _ => rfl, fun _ => rfl, fun _ => rfl, fun _ => rfl, fun _ => rfl, fun _ => rfl, fun _ => rfl, fun _ => rfl, rfl, rfl, rfl, fun _ => rfl⟩

@[simp] theorem updateUnlock_frame (bin : Nat) (f : UnlockRecord → UnlockRecord) :
      (updateUnlock bin f s).heads = s.heads ∧ (updateUnlock bin f s).channels = s.channels ∧
      (updateUnlock bin f s).scanner = s.scanner ∧ (updateUnlock bin f s).advices = s.advices ∧
      (updateUnlock bin f s).judge = s.judge ∧ (updateUnlock bin f s).log = s.log ∧
      (updateUnlock bin f s).rack = s.rack ∧ (updateUnlock bin f s).lift = s.lift ∧
      (updateUnlock bin f s).inputs = s.inputs ∧ (updateUnlock bin f s).outputs = s.outputs ∧
      (updateUnlock bin f s).clock = s.clock ∧ (updateUnlock bin f s).alarm = s.alarm ∧
      (updateUnlock bin f s).service = s.service ∧ (updateUnlock bin f s).link = s.link ∧
      (updateUnlock bin f s).free = s.free ∧ (updateUnlock bin f s).pending = s.pending ∧
      (∀ k : HeadId, (updateUnlock bin f s).head k = s.head k) ∧
      (∀ k : HeadId, (updateUnlock bin f s).channel k = s.channel k) ∧
      (∀ q : PortId, (updateUnlock bin f s).port q = s.port q) ∧
      (∀ m : Nat, (updateUnlock bin f s).input m = s.input m) ∧
      (∀ m : Nat, (updateUnlock bin f s).output m = s.output m) ∧
      (∀ m : Nat, (updateUnlock bin f s).active m = s.active m) ∧
      (∀ k : HeadId, (updateUnlock bin f s).cradle k = s.cradle k) ∧
      (∀ q : Nat, (updateUnlock bin f s).record q = s.record q) ∧ (∀ m : Nat, (updateUnlock bin f s).bin m = s.bin m)
      ∧ (updateUnlock bin f s).now = s.now ∧ (updateUnlock bin f s).logFree = s.logFree ∧
      (∀ k : HeadId, (updateUnlock bin f s).stepOn k = s.stepOn k) := by
  exact ⟨rfl, rfl, rfl, rfl, rfl, rfl, rfl, rfl, rfl, rfl, rfl, rfl, rfl, rfl, rfl, rfl, fun _ => rfl, fun _ => rfl, fun _ => rfl, fun _ => rfl, fun _ => rfl, fun _ => rfl, fun _ => rfl, fun _ => rfl, fun _ => rfl, rfl, rfl, fun _ => rfl⟩

@[simp] theorem failUnlock_frame (u : UnlockRecord) (cause : UnlockFailCause) :
      (failUnlock u cause s).heads = s.heads ∧ (failUnlock u cause s).channels = s.channels ∧
      (failUnlock u cause s).scanner = s.scanner ∧ (failUnlock u cause s).advices = s.advices ∧
      (failUnlock u cause s).judge = s.judge ∧ (failUnlock u cause s).log = s.log ∧
      (failUnlock u cause s).inputs = s.inputs ∧ (failUnlock u cause s).outputs = s.outputs ∧
      (failUnlock u cause s).clock = s.clock ∧ (failUnlock u cause s).alarm = s.alarm ∧
      (failUnlock u cause s).service = s.service ∧ (failUnlock u cause s).free = s.free ∧
      (failUnlock u cause s).pending = s.pending ∧ (∀ k : HeadId, (failUnlock u cause s).head k = s.head k) ∧
      (∀ k : HeadId, (failUnlock u cause s).channel k = s.channel k) ∧
      (∀ m : Nat, (failUnlock u cause s).input m = s.input m) ∧
      (∀ m : Nat, (failUnlock u cause s).output m = s.output m) ∧
      (∀ m : Nat, (failUnlock u cause s).active m = s.active m) ∧
      (∀ k : HeadId, (failUnlock u cause s).cradle k = s.cradle k) ∧
      (∀ q : Nat, (failUnlock u cause s).record q = s.record q) ∧ (failUnlock u cause s).now = s.now ∧
      (failUnlock u cause s).logFree = s.logFree ∧ (∀ k : HeadId, (failUnlock u cause s).stepOn k = s.stepOn k) := by
  simp only [failUnlock]
  simp [State.head, State.channel, State.input, State.output, State.active, State.cradle, State.record, State.now, State.logFree, State.stepOn]

@[simp] theorem openLong_frame (u : UnlockRecord) (since : Nat) :
      (openLong u since s).heads = s.heads ∧ (openLong u since s).channels = s.channels ∧
      (openLong u since s).scanner = s.scanner ∧ (openLong u since s).advices = s.advices ∧
      (openLong u since s).judge = s.judge ∧ (openLong u since s).log = s.log ∧ (openLong u since s).rack = s.rack ∧
      (openLong u since s).lift = s.lift ∧ (openLong u since s).inputs = s.inputs ∧
      (openLong u since s).clock = s.clock ∧ (openLong u since s).service = s.service ∧
      (openLong u since s).free = s.free ∧ (openLong u since s).pending = s.pending ∧
      (∀ k : HeadId, (openLong u since s).head k = s.head k) ∧
      (∀ k : HeadId, (openLong u since s).channel k = s.channel k) ∧
      (∀ m : Nat, (openLong u since s).input m = s.input m) ∧ (∀ m : Nat, (openLong u since s).active m = s.active m)
      ∧ (∀ k : HeadId, (openLong u since s).cradle k = s.cradle k) ∧
      (∀ q : Nat, (openLong u since s).record q = s.record q) ∧ (∀ m : Nat, (openLong u since s).bin m = s.bin m) ∧
      (openLong u since s).now = s.now ∧ (openLong u since s).logFree = s.logFree ∧
      (∀ k : HeadId, (openLong u since s).stepOn k = s.stepOn k) := by
  simp only [openLong]
  simp [State.head, State.channel, State.input, State.active, State.cradle, State.record, State.bin, State.now, State.logFree, State.stepOn]

/-! ### Arbitration and drain evaluation after a step -/

/-- A step that fills no staging queue runs no arbitration for it (R123). -/
theorem arbitrateIfFilled_of_staging (t : State) (same : ∀ h, (t.head h).staging = (s.head h).staging) :
    arbitrateIfFilled s t = t := by
  simp [arbitrateIfFilled, stagingFilled, HeadId.all, same]

/-- A head's work that fills no staging queue stands as it is (R123). -/
theorem withArbitration_of_staging (f : State → State) (same : ∀ h, ((f s).head h).staging = (s.head h).staging) :
    withArbitration f s = f s := arbitrateIfFilled_of_staging s _ same

/-- A step that changes no head's state, no staging queue, no CRADLE_SENSE level and not the lift calls for no drain
evaluation (R142). -/
theorem settleDrain_of_same (t : State) (heads : ∀ h, (t.head h).state = (s.head h).state)
    (staging : ∀ h, (t.head h).staging = (s.head h).staging) (inputs : ∀ h, (t.input (cradleLine h)).debounced =
      (s.input (cradleLine h)).debounced) (lift : t.lift.state = s.lift.state) : settleDrain s t = t := by
  have edge : ∀ h, cradleEdge s t h = false := by
    intro h
    unfold cradleEdge
    rw [inputs]
    split
    · next e f => simp_all
    · rfl
  simp [settleDrain, drainTriggered, HeadId.all, heads, staging, edge, lift]

/-- Outside DAY_PENDING no step is followed by a change of mode for a drain (R142). -/
theorem settleDrain_of_not_pending (t : State) (not : t.mode ≠ .dayPending) : settleDrain s t = t := by
  unfold settleDrain
  split
  · exact evaluateDrain_of_not_pending t not
  · rfl

/-- Work that changes no head, no CRADLE_SENSE level and not the lift stands as it is, with no arbitration and no drain
evaluation after it. -/
theorem settled_of_same (f : State → State) (heads : ∀ h, (f s).head h = s.head h)
    (inputs : ∀ h, ((f s).input (cradleLine h)).debounced = (s.input (cradleLine h)).debounced)
    (lift : (f s).lift.state = s.lift.state) : settled f s = f s := by
  unfold settled withArbitration
  rw [arbitrateIfFilled_of_staging _ _ (fun h => by rw [heads])]
  exact settleDrain_of_same _ _ (fun h => by rw [heads]) (fun h => by rw [heads]) inputs lift

/-- A single work in turn is that work, settled. -/
@[simp] theorem settledInTurn_singleton (f : State → State) : settledInTurn [f] s = settled f s := rfl

/-- Works in turn of which none fills a staging queue follow one another with no arbitration between them (R137). -/
theorem settledInTurn_of_staging (fs : List (State → State))
    (same : ∀ f ∈ fs, ∀ (t : State) (h : HeadId), ((f t).head h).staging = (t.head h).staging) :
    settledInTurn fs s = settleDrain s (fs.foldl (fun t f => f t) s) := by
  suffices ∀ t, fs.foldl (fun t f => withArbitration f t) t = fs.foldl (fun t f => f t) t by rw [settledInTurn, this]
  induction fs with
  | nil => exact fun _ => rfl
  | cons f fs ih =>
    intro t
    rw [List.foldl_cons, List.foldl_cons, withArbitration_of_staging t f (same f (by simp) t)]
    exact ih (fun g hg => same g (by simp [hg])) (f t)

end Sys2Proof.Machine
end

