-- ==== Sys2Proof/Laws/Requests.lean ====
section
/-! SUPPORT. Laws/Requests.lean: how a request reaches its rule: its arrival at an idle port, the checks before the owning
block's rule, and the reply (R196 to R199). -/

namespace Sys2Proof.Machine

variable (s : State)

/-! ### The link watch sees a frame -/

@[simp] theorem frameSeen_frame (p : PortId) :
    (frameSeen p s).heads = s.heads ∧ (frameSeen p s).channels = s.channels ∧ (frameSeen p s).scanner = s.scanner ∧
      (frameSeen p s).advices = s.advices ∧ (frameSeen p s).judge = s.judge ∧ (frameSeen p s).log = s.log ∧
      (frameSeen p s).rack = s.rack ∧ (frameSeen p s).lift = s.lift ∧ (frameSeen p s).release = s.release ∧
      (frameSeen p s).inputs = s.inputs ∧ (frameSeen p s).outputs = s.outputs ∧ (frameSeen p s).clock = s.clock ∧
      (frameSeen p s).alarm = s.alarm ∧ (frameSeen p s).service = s.service ∧ (frameSeen p s).free = s.free ∧
      (frameSeen p s).pending = s.pending := by
  cases p
  · unfold frameSeen watchFrame restartWatch
    dsimp only
    split <;> simp
  · simp [frameSeen]

/-- The request queues are as they were (R201). -/
@[simp] theorem frameSeen_requests (p q : PortId) : ((frameSeen p s).port q).requests = (s.port q).requests := by
  cases p
  · unfold frameSeen watchFrame restartWatch
    dsimp only
    split
    · have same := notify_port { s with link := { s.link with lost := false } } .linkRestored q
      cases q <;> simp_all [State.port, Notice.port]
    · cases q <;> rfl
  · rfl

/-! ### The request in hand -/

@[simp] theorem State.holding_frame (r : Req) (c : Instr) :
    (s.holding r c).heads = s.heads ∧ (s.holding r c).channels = s.channels ∧ (s.holding r c).scanner = s.scanner ∧
      (s.holding r c).advices = s.advices ∧ (s.holding r c).judge = s.judge ∧ (s.holding r c).log = s.log ∧
      (s.holding r c).rack = s.rack ∧ (s.holding r c).lift = s.lift ∧ (s.holding r c).release = s.release ∧
      (s.holding r c).inputs = s.inputs ∧ (s.holding r c).outputs = s.outputs ∧ (s.holding r c).clock = s.clock ∧
      (s.holding r c).alarm = s.alarm ∧ (s.holding r c).service = s.service ∧ (s.holding r c).free = s.free ∧
      (s.holding r c).pending = s.pending := by
  simp [State.holding]

@[simp] theorem State.holding_read (r : Req) (c : Instr) :
    (∀ h, (s.holding r c).head h = s.head h) ∧ (∀ h, (s.holding r c).channel h = s.channel h) ∧
      (∀ n, (s.holding r c).input n = s.input n) ∧ (∀ n, (s.holding r c).output n = s.output n) ∧
      (∀ n, (s.holding r c).active n = s.active n) ∧ (∀ h, (s.holding r c).cradle h = s.cradle h) ∧
      (∀ n, (s.holding r c).record n = s.record n) ∧ (∀ n, (s.holding r c).bin n = s.bin n) ∧
      (s.holding r c).mode = s.mode ∧ (s.holding r c).now = s.now ∧ (s.holding r c).logFree = s.logFree := by
  simp [State.head, State.channel, State.input, State.output, State.active, State.cradle, State.record, State.bin,
    State.mode, State.now, State.logFree]

/-- A request that arrives at an idle port is taken at once: its rule answers, and the reply is ready (R197, R198). -/
theorem arrive_idle {r : Req} (c : Instr) (take : State → State × Reply) (idle : (s.port r.port).requests = []) :
    done (arrive r c take s) = .next ((take (s.holding r c)).1.replied r (take (s.holding r c)).2) := by
  have empty : ((frameSeen r.port s).port r.port).requests = [] := by simp [idle]
  simp [done, arrive, empty, receiveCapacity, answer, State.replied, State.holding]

/-- Every request command arrives at its port and is taken by its own rule. -/
theorem exec_request {c : Instr} {r : Req} (request : requestOf c = some r) :
    exec c s = done (arrive r c (takeRequest c) s) := by
  cases c <;> simp only [requestOf, Option.some.injEq, reduceCtorEq] at request <;> subst request <;> rfl

/-- What a request command answers at an idle port. -/
theorem exec_taken {c : Instr} {r : Req} (request : requestOf c = some r) (idle : (s.port r.port).requests = []) :
    exec c s = .next ((takeRequest c (s.holding r c)).1.replied r (takeRequest c (s.holding r c)).2) := by
  rw [exec_request s request, arrive_idle s c _ idle]

/-! ### Checks and replies -/

/-- Where neither check before the owning block's rule refuses, the rule itself answers (R198). -/
theorem guarded_of_ok {serviceOnly : Bool} {r : Req} (own : State → State × Reply)
    (port : serviceOnly = true → r.port = .service) (form : r.formOk = true) : guarded serviceOnly r own s = own s := by
  cases serviceOnly
  · simp [guarded, form]
  · simp [guarded, form, port rfl]

/-- A request whose rule changes no head's state, no staging queue, no line and not the lift is followed by nothing else
(R123, R142). -/
theorem settledReply_of_same (own : State → State × Reply) (heads : ∀ h, ((own s).1.head h) = s.head h)
    (inputs : ∀ h, ((own s).1.input (cradleLine h)).debounced = (s.input (cradleLine h)).debounced)
    (lift : (own s).1.lift.state = s.lift.state) : settledReply own s = own s := by
  have staging : ∀ h, ((own s).1.head h).staging = (s.head h).staging := fun h => by rw [heads h]
  simp only [settledReply, arbitrateIfFilled_of_staging s _ staging]
  rw [settleDrain_of_same s _ (fun h => by rw [heads h]) staging inputs lift]

end Sys2Proof.Machine
end

