-- ==== Sys2Proof/WellFormed.lean ====
section
/-! DEFINITION. WellFormed.lean: which commands a sender can really send. It bounds operands by the frame (a payload of
at most 240 bytes, R194), by the record widths the manual gives, and by what the converters and the drive can report.
Values outside a request's own range are well formed: its rule refuses them. -/

namespace Sys2Proof

/-- A one-byte field. -/
def isByte (n : Nat) : Bool := n < 256

/-- A two-byte field. -/
def isHalf (n : Nat) : Bool := n < 65536

/-- A four-byte field (R205). -/
def isWord (n : Nat) : Bool := n < 4294967296

/-- A list field: at most 240 items, each of one byte (R194, R198). -/
def isByteList (l : List Nat) : Bool := l.length ≤ 240 && l.all isByte

/-- Eleven fields of at most four bytes (R28). -/
def WeighSettings.wellFormed (v : WeighSettings) : Bool :=
  [v.warmUpTime, v.idleTime, v.sampleInterval, v.acquisitionTime, v.exponent, v.settleDelay, v.settleBand,
    v.settleCount, v.settleTimeout, v.zeroInterval, v.zeroWindow].all isWord

/-- Four timings of at most four bytes (R3). -/
def HeadSettings.wellFormed (v : HeadSettings) : Bool :=
  [v.intakeTimeout, v.descentTimeout, v.identWindow, v.gateTimeout].all isWord

/-- The scanner settings as four-byte fields (R46). -/
def ScanSettings.wellFormed (v : ScanSettings) : Bool :=
  [v.scanPeriod, v.auxSettle, v.refLow, v.refHigh].all isWord && v.tempLimit.natAbs < 2147483648

/-- An ADVISE that a frame can carry: R198 gives tag 4, bag type 1, class 1, valid until 4, reference length 1, line
count 1 bytes, and each line 1 + 2 bytes. -/
def Advice.wellFormed (a : Advice) : Bool :=
  isWord a.tag && isByte a.bagType && isByte a.serviceClass && isWord a.validUntil && a.reference.length ≤ 255 &&
    28 + 3 * a.lines.length ≤ 240 && a.lines.all fun l => isByte l.1 && isHalf l.2

/-- Whether a sender can send the command. -/
def Instr.wellFormed : Instr → Bool
  | .tagReport _ n => isWord n
  | .auxConversionComplete v => -32768 ≤ v && v ≤ 32767
  | .delivered b | .binOpened b | .unlockFault b | .binShut b _ => isByte b
  | .confirmTimerExpiry b | .unlockTimerExpiry b | .openLongTimerExpiry b => b < 60
  | .supplyRestart _ t => isWord t
  | .settingsRead _ _ h => isByte h
  | .linkSet _ n _ _ => isHalf n
  | .headOpen _ l | .headClose _ l | .lineAck _ l => isByteList l
  | .headSet _ h v => isByte h && v.wellFormed
  | .headClearFault _ h | .weightRead _ h | .calZero _ h => isByte h
  | .weighSet _ h v => isByte h && v.wellFormed
  | .scanSet _ v => v.wellFormed
  | .advise _ a => a.wellFormed
  | .withdraw _ t => isWord t
  | .adviceQuery _ (.byIndex i) => isHalf i
  | .adviceQuery _ (.byTag t) => isWord t
  | .denomSet _ c _ m _ => isByte c && isWord m
  | .bagTypeSet _ t m => isByte t && isWord m
  | .toleranceSet _ c f p => isByte c && isWord f && isWord p
  | .logRead _ f c => isWord f && isByte c
  | .logSet _ t => isHalf t
  | .binSet _ b _ z l => isByte b && isByte z && isWord l
  | .binRead _ f c => isByte f && isByte c
  | .zoneMapSet _ z => z.length == 4 && z.all isByte
  | .liftSet _ _ l t => isByte l && isHalf t
  | .scheduleSet _ n d _ => isHalf n && isHalf d
  | .setReleaseWindow _ o c => isHalf o && isHalf c
  | .officerSet _ s n _ _ => isByte s && isHalf n
  | .releaseSet _ c u o => isHalf c && isHalf u && isHalf o
  | .releaseRequest _ b o | .releaseConfirm _ b o | .releaseCancel _ b o => isByte b && isHalf o
  | .lineSet _ l _ d => isByte l && isHalf d
  | .lineReportSet _ l _ _ => isByte l
  | .outputSet _ o _ => isByte o
  | .alarmSet _ v => isHalf v.width
  | .patternSet _ l => l.length == 15
  | .calSpan _ h m => isByte h && isWord m
  | .calVerify _ h m t => isByte h && isWord m && isWord t
  | .coldStart _ | .rawLevelChange _ _ | .debounceTimerExpiry _ | .readFailureReport _ | .intakeTimerExpiry _
  | .descentTimerExpiry _ | .windowTimerExpiry _ | .gateTimerExpiry _ | .warmUpTimerExpiry _ | .paceTimerExpiry _
  | .acquisitionTimeElapsed _ | .conversionComplete _ _ | .settleDelayExpiry _ | .settleTimerExpiry _
  | .idleTimerExpiry _ | .zeroIntervalExpiry _ | .scanPeriodExpiry | .auxSettleElapsed | .moveFault _
  | .unknownDriveReport | .transferTimerExpiry | .checkTimerExpiry _ _ | .pulseTimerExpiry | .clockSecond
  | .byteReceived _ _ | .interByteGap _ | .watchTimerExpiry | .frameSent _ | .unlistedRequestKind _ _ | .status _
  | .identify _ | .auxRead _ | .logInfo _ | .logPurge _ | .liftRead _ | .liftResolve _ _ | .modeSetNight _
  | .modeSetDay _ | .releaseRead _ | .lineStatus _ | .clockRead _ | .clockSet _ _ | .alarmAck _ | .serviceEnter _ _
  | .serviceExit _ | .snapshot _ | .statsRead _ | .statsClear _ | .restart _ | .coldInitialise _
  | .rackDriveOrderSent => true

end Sys2Proof
end

