-- ==== Sys2Proof/Tests/Slice0.lean ====
section
/-! SUPPORT. Tests/Slice0.lean: the model's own tests. First the refusals of `Instr.wellFormed`, then the manual's worked
figures, then small steps whose results the manual gives, then, for each statement with hypotheses, a state and operands
that meet them, clause by clause. Each expected value is the manual's, from the rule or worked example named. -/

namespace Sys2Proof.Tests

set_option linter.unusedVariables false
set_option Elab.async false

open Sys2Proof.Machine

/-! ### Helpers -/

/-- A well-formed request on the service port. -/
def req : Req := ⟨.service, 1, true⟩

/-- A well-formed request on the branch link. -/
def branchReq : Req := ⟨.branch, 1, true⟩

/-- What a command does to a state, read as a Bool; `false` where there is no next state. -/
def after (c : Instr) (s : State) (p : State → Bool) : Bool :=
  match exec c s with
  | .next t => p t
  | .fault _ | .refused _ => false

/-- The part with its lines established inactive and the service port's transmitter free. -/
def quiet : State := { State.reset with inputs := State.reset.inputs.map fun l => { l with debounced := some false, timer := none } }

/-- A line established, and standing, at a level. -/
def held (n : Nat) (level : Bool) (s : State) : State :=
  s.setInput n { s.input n with debounced := some level, high := level, timer := none }

/-- A line established at a level whose raw level has moved the other way, its debounce timer running. -/
def moving (n : Nat) (was : Bool) (s : State) : State :=
  s.setInput n { s.input n with debounced := some was, high := !was, timer := some 20 }

/-- A head changed. -/
def withHead (h : HeadId) (f : Head → Head) (s : State) : State := s.setHead h (f (s.head h))

/-- A channel changed. -/
def withChannel (h : HeadId) (f : Channel → Channel) (s : State) : State := s.setChannel h (f (s.channel h))

/-- A mode entered. -/
def inMode (m : Mode) (s : State) : State := { s with release := { s.release with mode := m } }

/-- The clock set. -/
def at_ (t : Nat) (s : State) : State := { s with clock := some t }

/-- A custody record of head A, ACCEPTED. -/
def record (seq : Nat) (st : RecordState) (bin : Option Nat) : Record where
  seq := seq
  head := .a
  tag := some 40117233
  advice := some 0
  verdict := .accepted
  late := false
  overflow := false
  restarted := false
  cause := .none
  measured := some 940918
  expected := some 936700
  tolerance := some 7494
  landed := 100
  bin := bin
  state := st
  storedTime := none
  releaseTime := none
  officers := none

/-- A log of the records given. -/
def holdingRecords (l : List Record) (s : State) : State := { s with log := { s.log with records := l } }

/-- The advice of the worked case of section 3.6: bag type 1, class 2, lines (2, 150), (3, 40), (9, 200). -/
def mixedBag : Advice := ⟨40117233, [0x41], 1, 2, 7260, [(2, 150), (3, 40), (9, 200)]⟩

/-- The tables of the same worked case. -/
def mixedTables : JudgeTables where
  denominations := ((JudgeTables.cold.denominations.set 2 ⟨.note, 850, true⟩).set 3 ⟨.note, 880, true⟩).set 9
    ⟨.coin, 3560, true⟩
  tares := [0, 62000, 0, 0]
  tolerances := [⟨5000, 10⟩, ⟨5000, 10⟩, ⟨5000, 8⟩, ⟨5000, 10⟩]

/-- The entry that advice makes. -/
def mixedEntry (st : AdviceState) : AdviceEntry := ⟨0, 40117233, [0x41], 1, 2, [(2, 150), (3, 40), (9, 200)], 936700, 7260, st⟩

/-- A statement about every head, from the three. -/
theorem each {p : HeadId → Prop} (a : p .a) (b : p .b) (c : p .c) : ∀ h, p h
  | .a => a
  | .b => b
  | .c => c

/-- The shapes of a state, from its lengths. -/
theorem sized {s : State} (h : [s.inputs.length, s.outputs.length, s.rack.bins.length, s.rack.zoneMap.length,
    s.rack.zoneFull.length, s.judge.denominations.length, s.judge.tares.length, s.judge.tolerances.length,
    s.release.officers.length, s.service.pattern.length] = [16, 15, 60, 4, 4, 16, 4, 4, 16, 15]) : s.Sized := by
  simp only [List.cons.injEq] at h
  obtain ⟨a, b, c, d, e, f, g, i, j, k, -⟩ := h
  exact ⟨a, b, c, d, e, f, g, i, j, k⟩

/-! ### Ill-formed commands are refused by the check -/

theorem test_wf_byte : (Instr.delivered 256).wellFormed = false ∧ (Instr.delivered 255).wellFormed = true := by decide
theorem test_wf_half : (Instr.logSet req 65536).wellFormed = false ∧ (Instr.logSet req 65535).wellFormed = true := by decide
theorem test_wf_word : (Instr.tagReport .a 4294967296).wellFormed = false ∧
    (Instr.tagReport .a 4294967295).wellFormed = true := by decide
theorem test_wf_byte_list : (Instr.headOpen req [256]).wellFormed = false ∧
    (Instr.lineAck req (List.replicate 241 0)).wellFormed = false := by decide +kernel
theorem test_wf_head_settings : (Instr.headSet req 0 ⟨4294967296, 0, 0, 0, false⟩).wellFormed = false := by decide
theorem test_wf_weigh_settings :
    (Instr.weighSet req 0 ⟨0, 0, 0, 0, 0, 0, 0, 0, 0, 0, 4294967296⟩).wellFormed = false := by decide
theorem test_wf_scan_settings : (Instr.scanSet req ⟨500, 25, 4750, 5250, 2147483648⟩).wellFormed = false := by decide
theorem test_wf_advice : (Instr.advise req { mixedBag with reference := List.replicate 256 0x41 }).wellFormed = false ∧
    (Instr.advise req { mixedBag with lines := List.replicate 71 (0, 1) }).wellFormed = false ∧
    (Instr.advise req mixedBag).wellFormed = true := by decide +kernel
theorem test_wf_aux : (Instr.auxConversionComplete 32768).wellFormed = false := by decide
theorem test_wf_bin_timer : (Instr.confirmTimerExpiry 60).wellFormed = false ∧
    (Instr.confirmTimerExpiry 59).wellFormed = true := by decide
theorem test_wf_zones : (Instr.zoneMapSet req [0, 1, 2]).wellFormed = false := by decide
theorem test_wf_pattern : (Instr.patternSet req []).wellFormed = false := by decide

/-! ### Worked figures of the manual -/

/-- R34: a sum of −5 with k = 1 gives −2; the bag on channel WA, 74,963 with k = 3, gives 9,370. -/
theorem test_average_code : averageCode 1 (-5) = -2 ∧ averageCode 3 74963 = 9370 ∧ averageCode 0 (-7) = -7 := by decide

/-- Section 2.4: the worked masses. -/
theorem test_masses : unclampedMass 9370 1850 8200000 = 940918 ∧ unclampedMass 9371 1850 8200000 = 941043 ∧
    unclampedMass 1700 1850 8200000 = -18768 ∧ unclampedMass 81800 1850 8200000 = 10003510 := by decide

/-- Section 2.4: ties go away from zero, and a negative mass reads 0 with flag NEGATIVE. -/
theorem test_ties : unclampedMass 1 0 32768 = 1 ∧ unclampedMass (-1) 0 32768 = -1 ∧
    clampMass (-1) = 0 ∧ massFlag (-1) = .negative ∧ massFlag 25000000 = .plain ∧ massFlag 25000001 = .high := by decide

/-- Section 4.6: the tolerance of 936,700 mg at floor 5,000 and per-mille 8 is 7,494 mg. -/
theorem test_tolerance : toleranceOf 936700 ⟨5000, 8⟩ = 7494 ∧ toleranceOf 3000 ⟨5000, 10⟩ = 5000 := by decide

/-- Section 4.6 and R74: the verdicts of the worked judgement, both edges accepted, and the bag of 0 mg. -/
theorem test_verdicts : massVerdict 940918 936700 7494 = .accepted ∧ massVerdict 929000 936700 7494 = .shortMass ∧
    massVerdict 929206 936700 7494 = .accepted ∧ massVerdict 944194 936700 7494 = .accepted ∧
    massVerdict 944195 936700 7494 = .overMass ∧ massVerdict 0 936700 7494 = .shortMass ∧
    massVerdict 0 3000 5000 = .accepted := by decide

/-- Section 4.6: the same bag with other faults. -/
theorem test_other_verdicts :
    verdictOf 2 (.tag 40117233) (.settled 940918 false) (.pending 0 936700 2) 7494 = .multiple ∧
    verdictOf 1 .conflict (.settled 940918 false) .none 0 = .unread ∧
    verdictOf 1 (.tag 40117233) (.unsettled .timeout) (.pending 0 936700 2) 7494 = .unsettled ∧
    verdictOf 1 (.tag 40117233) (.settled 940918 false) .none 0 = .unadvised ∧
    verdictOf 1 (.tag 40117233) (.settled 940918 false) .lodged 0 = .duplicate ∧
    causeOf .noTag (.unsettled .timeout) = .noTag := by decide

/-- Section 3.6: the expected mass of the mixed bag is 936,700 mg. -/
theorem test_expected_mass : expectedMass mixedTables mixedBag = 936700 := by decide

/-- Section 10.4: the worked candidate span. -/
theorem test_candidate_span : candidateSpan 10000000 79950 = 8197123 := by decide

/-- Section 5.2: the worked case of the numbers' wrap. -/
theorem test_sequence_wrap : nextSeqAfter [1, 2, 5, 16777214] 16777214 = 16777215 ∧
    nextSeqAfter [1, 2, 5, 16777214, 16777215] 16777215 = 3 ∧
    nextSeqAfter [1, 2, 5, 16777214, 16777215, 3] 3 = 4 ∧
    nextSeqAfter [1, 2, 5, 16777214, 16777215, 3, 4] 4 = 6 := by decide

/-- R173: the worked minute of day; R145: a window holds its open minute and not its close minute, across midnight too. -/
theorem test_minutes : minuteOfDay 1761901200 = 540 ∧ (Window.mk 480 600).contains 480 = true ∧
    (Window.mk 480 600).contains 600 = false ∧ (Window.mk 1320 60).contains 0 = true ∧
    (Window.mk 1320 60).contains 60 = false := by decide

/-- PRESUMED, outside the manual: the usual check value of a CRC-16 with these parameters, of the text 123456789. -/
theorem test_crc : crc16 [0x31, 0x32, 0x33, 0x34, 0x35, 0x36, 0x37, 0x38, 0x39] = 0x29B1#16 := by
  decide +kernel

/-- R206 and R207: the images are 44 and 71 bytes. -/
theorem test_images : (recordImage (record 418 .judged none)).length = 44 ∧
    (adviceImage mixedTables (mixedEntry .pending)).length = 71 ∧
    (recordImage (record 418 .judged none)).take 16 =
      [0xA2, 1, 0, 0, 0xF1, 0x23, 0x64, 2, 0, 0, 0, 7, 0, 0, 0, 0xFF] := by decide

/-! ### One step each, by the worked examples -/

/-- Head A of section 4.6 just before its judgement; the window's end is the second completion. -/
def beforeJudgement (beam mass : Nat) : State :=
  let s := held 2 true (at_ 1000 quiet)
  let s := { s with
    advices := ⟨[mixedEntry .pending, { mixedEntry (.lodged 400) with index := 1, tag := 5 }], [1]⟩
    judge := mixedTables
    log := { s.log with nextSeq := 418, reservations := 1 } }
  withHead .a (fun hd => { hd with
    state := .examine
    reservation := true
    beamCount := beam
    tags := [40117233]
    weighing := some (.settled mass false)
    landed := some 100
    windowTimer := some 600 }) s

/-- Section 4.6: record 418, entry 0 LODGED to it, the lodging order 1, 0, and head A in DISCHARGE with its cradle record. -/
theorem test_judgement : after (.windowTimerExpiry .a) (beforeJudgement 1 940918) (fun t =>
    t.log.records == [record 418 .judged none] && t.advices.order == [1, 0] &&
    t.advices.entries.head? == some (mixedEntry (.lodged 418)) && t.log.reservations == 0 &&
    (t.head .a).state == .discharge && (t.head .a).cradleRecord == some 418 && t.log.nextSeq == 419 &&
    t.link.branch.notices.getLast? == some (.depositJudged 418 .a (some 40117233) .accepted .none (some 940918))) = true := by
  decide +kernel

/-- Section 4.6, the same bag, light: SHORT, and entry 0 LODGED_EXCEPTION. -/
theorem test_judgement_light : after (.windowTimerExpiry .a) (beforeJudgement 1 929000) (fun t =>
    t.log.records.map (·.verdict) == [.shortMass] &&
    t.advices.entries.head? == some (mixedEntry (.lodgedException 418)) &&
    (t.service.stats.heads.a).shortMass == 1) = true := by
  decide +kernel

/-- The state of section 7.10 with the lift in flight, the last head, the run count and the staging queues as given. -/
def runExample (f : InFlight) (last : HeadId) (run : Nat) (a b c : List Nat) : State :=
  let s := at_ 12 (inMode .night quiet)
  let full : Bin := ⟨.standard, 0, 30000000, 8, 7527344, .locked⟩
  let s := { s with
    rack := { s.rack with bins := [full, full, full, ⟨.standard, 0, 30000000, 3, 2822754, .locked⟩] ++ s.rack.bins.drop 4 }
    lift := { s.lift with
      state := .moving f 0
      lastHead := last
      runCount := run
      mode := .run
      runLimit := 2
      transferTimer := some 40
      moveOutstanding := some f.bin } }
  let s := holdingRecords ([430, 431, 432, 433, 434].map fun q =>
    { record q (if q = f.seq then .inTransfer else .judged) (if q = f.seq then some f.bin else none) with
      verdict := if q = 434 then .shortMass else .accepted }) s
  withHead .a (fun hd => { hd with staging := a }) (withHead .b (fun hd => { hd with staging := b })
    (withHead .c (fun hd => { hd with staging := c }) s))

/-- Section 7.10 step 1: 430 is STORED; C, with run count 1 below 2, is granted 433 to bin 3, whose count becomes 4. -/
theorem test_run_mode_stays : after (.delivered 3) (runExample ⟨430, .c, 3⟩ .c 1 [431, 434] [432] [433]) (fun t =>
    t.lift.state == .moving ⟨433, .c, 3⟩ 12 && t.lift.runCount == 2 && (t.head .c).staging == [] &&
    (t.bin 3).map (·.count) == some 4 && (t.record 430).map (·.state) == some .stored &&
    t.lift.orders == [.move .c 3]) = true := by
  decide +kernel

/-- Section 7.10 steps 3 and 4: at run count 2 the turn passes on to A; 434, SHORT, goes to bin 52. -/
theorem test_run_mode_passes_on :
    after (.delivered 3) (runExample ⟨433, .c, 3⟩ .c 2 [431, 434] [432] []) (fun t =>
      t.lift.state == .moving ⟨431, .a, 3⟩ 12 && t.lift.runCount == 1 && t.lift.lastHead == .a) = true ∧
    after (.delivered 3) (runExample ⟨431, .a, 3⟩ .a 1 [434] [432] []) (fun t =>
      t.lift.state == .moving ⟨434, .a, 52⟩ 12 && t.lift.runCount == 2) = true := by
  decide +kernel

/-- Section 7.10 step 6: the transfer timer's expiry faults the lift with its record kept and MOVE still outstanding. -/
theorem test_transfer_timeout : after .transferTimerExpiry (runExample ⟨434, .a, 52⟩ .a 2 [] [432] []) (fun t =>
    t.lift.state == .fault .timeout ⟨434, .a, 52⟩ && t.lift.moveOutstanding == some 52 &&
    (t.record 434).map (·.state) == some .transferFault && t.alarm.latched.liftFault &&
    t.link.branch.notices.getLast? == some (.liftFault .timeout 434 .a 52)) = true := by
  decide +kernel

/-- Section 6.6: the rack of the crowded evening, with bins 53 and 40 as they stand at a step. -/
def crowded (mass40 count40 mass53 count53 : Nat) : BinTable :=
  let s : Bin := ⟨.standard, 1, 30000000, 0, 0, .locked⟩
  let q : Bin := ⟨.quarantine, 0, 30000000, 0, 0, .locked⟩
  ⟨List.replicate 40 { s with zone := 0 } ++ [{ s with count := count40, mass := mass40 }, { s with count := 8, mass := 7400000 }] ++
    List.replicate 10 { s with zone := 0 } ++ [{ q with count := 8, mass := 7900000 }, { q with count := count53, mass := mass53 },
      { q with count := 1, mass := 20000000 }, { q with count := 4, mass := 10500000 }] ++
      List.replicate 4 { q with cls := .disabled }, [0, 0, 1, 1], List.replicate 4 false, false⟩

/-- Section 6.6 steps 1 to 5: 418 fits bin 40; 420, late, goes to 53; 425 overflows to 53; 426 fits nowhere; 427 overflows
to 54. -/
theorem test_crowded_evening :
    (crowded 6580000 7 27900000 2).fit 1 (record 418 .judged none) = .first 40 ∧
    (crowded 7520918 8 27900000 2).fit 0
      { record 420 .judged none with verdict := .overMass, late := true, measured := some 520000 } = .first 53 ∧
    (crowded 7520918 8 28420000 3).fit 1 { record 425 .judged none with measured := some 1204350 } = .overflow 53 ∧
    (crowded 7520918 8 29624350 4).fit 0 { record 426 .judged none with verdict := .unsettled, measured := none } =
      .nowhere ∧
    (crowded 7520918 8 29624350 4).fit 1 { record 427 .judged none with measured := some 875000 } = .overflow 54 := by
  decide +kernel

/-- Section 8.9: DAY at 08:05:10, three officers, bin 53 with four STORED bags. -/
def morning : State :=
  let s := at_ 29110 quiet
  let s := holdingRecords [record 420 .stored (some 53)] s
  { s with
    rack := { s.rack with bins := s.rack.bins.set 53 ⟨.quarantine, 0, 30000000, 4, 29624350, .locked⟩ }
    release := { s.release with officers := [some ⟨1204, .teller, true⟩, some ⟨2310, .supervisor, true⟩,
      some ⟨3007, .teller, true⟩] ++ List.replicate 13 none } }

/-- The same with bin 53 reserved by an officer. -/
def reserved (officer : Nat) : State :=
  { morning with
    rack := { morning.rack with bins := morning.rack.bins.modify 53 fun b => { b with lock := .reserved } }
    release := { morning.release with reservations := [⟨53, officer, 29110, 60⟩] } }

/-- The same with bin 53 UNLOCKING or UNLOCKED by 1,204 and 2,310. -/
def opening (lock : LockState) : State :=
  { morning with
    rack := { morning.rack with bins := morning.rack.bins.modify 53 fun b => { b with lock := lock } }
    lift := { morning.lift with unlockList := if lock = .unlocking then [53] else [] }
    release := { morning.release with unlocks := [⟨53, 1204, 2310, some 10, false⟩] } }

/-- Section 8.9 step 1: the request is taken and bin 53 RESERVED. -/
theorem test_release_request : after (.releaseRequest req 53 1204) morning (fun t =>
    t.release.reservations == [⟨53, 1204, 29110, 60⟩] && (t.bin 53).map (·.lock) == some .reserved &&
    t.link.service.reply == some (.ok (.reserved 53 60))) = true := by
  decide +kernel

/-- Section 8.9 step 2: the same officer is refused and the reservation cancelled. R150 check 6: two tellers cannot release
a quarantine bin. -/
theorem test_release_confirm :
    after (.releaseConfirm req 53 1204) (reserved 1204) (fun t => t.release.reservations == [] &&
      (t.bin 53).map (·.lock) == some .locked && t.link.service.reply == some (.refused .sameOfficer)) = true ∧
    after (.releaseConfirm req 53 3007) (reserved 1204) (fun t =>
      t.link.service.reply == some (.refused .supervisorRequired)) = true := by
  decide +kernel

/-- R157: a shut with the floor empty releases the records of bin 53 with the officer pair. -/
theorem test_bin_shut : after (.binShut 53 true) (opening (.unlocked 29120)) (fun t =>
    t.log.records == [{ record 420 .released (some 53) with releaseTime := some 29110, officers := some (1204, 2310) }] &&
    (t.bin 53) == some ⟨.quarantine, 0, 30000000, 0, 0, .locked⟩ && t.release.unlocks == []) = true := by
  decide +kernel

/-- Section 9.8: in PULSE mode a TAMPER activation latches its cause, energises the line and starts the pulse timer. -/
def pulsing : State := { moving 13 false quiet with alarm := { State.reset.alarm with mode := .pulse } }

theorem test_tamper_pulse : after (.debounceTimerExpiry 13) pulsing (fun t =>
    t.alarm.latched.tamper && t.alarm.pulseTimer == some 2000 && (t.output 12).owner && (t.output 12).check == some 50) = true := by
  decide +kernel

/-- R177: ACTIVE_LOW makes the de-energised ALARM line high at once, with its check timer as it was. -/
theorem test_alarm_polarity :
    quiet.outputHigh 12 = false ∧
    after (.alarmSet req ⟨some .level, 2000, some .activeLow, quiet.alarm.enables⟩) quiet (fun t =>
      t.outputHigh 12 && !(t.output 12).driven && (t.output 12).check == (quiet.output 12).check) = true := by
  decide +kernel

/-- R176: an acknowledgement clears TAMPER with the line inactive and keeps it with the line active. -/
theorem test_alarm_ack :
    let latched : State := { quiet with alarm := { quiet.alarm with latched := { quiet.alarm.latched with tamper := true } } }
    after (.alarmAck req) latched (fun t => !t.alarm.latched.tamper) = true ∧
      after (.alarmAck req) (held 13 true latched) (fun t => t.alarm.latched.tamper) = true := by
  decide +kernel

/-- Section 10.4: a span step of 10,000,000 mg on channel WA whose last reading is due; `k` is 0, so one code completes it. -/
def spanning (kind : CalKind) : State :=
  let p : Reading := makeReading 81800 1850 8200000 false false false
  let w : WeighRecord := ⟨.service, 10, 2, 0, 2000, 4, 3, some p, true, true, 300, 4000⟩
  { withChannel .a (fun c => { c with
      state := .weighing w
      zero := 1850
      span := 8200000
      conversion := some ⟨false, false⟩
      settleTimer := some 4000 }) quiet with
    service := { quiet.service with step := some ⟨.a, kind, .weighing⟩ } }

/-- Section 10.4: the span becomes 8,197,123, with CAL_DONE on the service port; a verify of the old span fails by 3,510. -/
theorem test_calibration :
    after (.conversionComplete .a 81800#18) (spanning (.span 10000000)) (fun t =>
      (t.channel .a).span == 8197123 && (t.channel .a).state == .idle && t.service.step == none &&
      t.link.service.notices == [.calDone .a .span (.spanDone 79950 8200000 8197123)]) = true ∧
    after (.conversionComplete .a 81800#18) (spanning (.verify 10000000 2000)) (fun t =>
      t.link.service.notices == [.calDone .a .verify (.fail 10003510 3510)]) = true := by
  decide +kernel

/-- Section 4.6, the UNADVISED line: a later ADVISE late-matches record 418, which becomes ACCEPTED with the late flag set;
the advice is entered LODGED. -/
def unadvised : State :=
  { holdingRecords [{ record 418 .judged none with verdict := .unadvised, advice := none, expected := none, tolerance := none }]
      (at_ 1000 quiet) with judge := mixedTables }

theorem test_late_match : after (.advise req mixedBag) unadvised (fun t =>
    t.log.records == [{ record 418 .judged none with late := true }] &&
    t.advices.entries == [mixedEntry (.lodged 418)] && t.advices.order == [0] &&
    t.link.service.reply == some (.ok (.lateMatch 0 936700 418 .accepted))) = true := by
  decide +kernel

/-- R54 check 5: a valid-until time of 19:00:45 is stored as 19:00:00, and refused once the clock stands there. -/
theorem test_advise_window :
    let advice := { mixedBag with validUntil := 68445 }
    let s : State := { quiet with judge := mixedTables }
    after (.advise req advice) (at_ 68399 s) (fun t => t.advices.entries.map (·.validUntil) == [68400]) = true ∧
    after (.advise req advice) (at_ 68400 s) (fun t => t.link.service.reply == some (.refused .badWindow)) = true := by
  decide +kernel

/-- R42 with section 2.4: −18,768 mg lies inside the zero window, and the zero becomes 1,700. -/
def idleChannel (r : Option Reading) (s : State) : State :=
  withChannel .a (fun c => { c with state := .idle, zero := 1850, span := 8200000, latest := r, zeroTimer := some 5 }) s

theorem test_zero_tracking : after (.zeroIntervalExpiry .a)
    (idleChannel (some (makeReading 1700 1850 8200000 false true false)) quiet) (fun t =>
      (t.channel .a).zero == 1700 && !(t.channel .a).zeroDrift) = true := by
  decide +kernel

/-- R194, R205: the frame of STATUS (kind 0x01, number 7) on the service port, and the same frame with a bad check. -/
theorem test_frame :
    frameBytes 1 7 [] = 0xA5#8 :: 0#8 :: 1#8 :: 7#8 :: checkBytes (crc16 [0, 1, 7]) ∧
    requestOfFrame .service 1 7 [] = .status ⟨.service, 7, true⟩ := by
  decide +kernel

/-- R194, R198, R205: the reply to STATUS number 7 has kind 0x81 and its number, a refusal is its result code alone, and
LINK_RESTORED is kind 0x41, number 0, with no payload. -/
theorem test_frames_sent :
    replyFrame (.status ⟨.service, 7, true⟩) (.refused .wrongPort) =
      [0xA5, 1, 0x81, 7, 3] ++ checkBytes (crc16 [1, 0x81, 7, 3]) ∧
    noticeFrame .linkRestored = [0xA5, 0, 0x41, 0] ++ checkBytes (crc16 [0, 0x41, 0]) := by
  decide +kernel

/-- R5, R198, section 11.6: the reply of HEAD_OPEN to heads A and B, opened and refused TEMP_HIGH (15), is 0, 0, 15. -/
theorem test_head_open_reply :
    replyFrame (.headOpen ⟨.branch, 9, true⟩ [0, 1]) (.ok (.headOutcomes [(.a, none), (.b, some .tempHigh)])) =
      [0xA5, 3, 0x85, 9, 0, 0, 15] ++ checkBytes (crc16 [3, 0x85, 9, 0, 0, 15]) := by
  decide +kernel

/-- R194, R205: CLOCK_SET carries one time of four bytes, the low byte first; a payload of three is malformed. -/
theorem test_clock_set_frame :
    requestOfFrame .service 0x2C 9 [0x2A, 1, 0, 0] = .clockSet ⟨.service, 9, true⟩ 298 ∧
    requestOf (requestOfFrame .service 0x2C 9 [0x2A, 1, 0]) = some ⟨.service, 9, false⟩ := by
  decide +kernel

/-- R206: five images make a reply of 226 bytes, which ends in the continuation's low byte first. -/
theorem test_log_read_reply :
    let p := replyPayload (.ok (.records (List.replicate 5 (recordImage (record 418 .judged none))) 423))
    p.length = 226 ∧ p.take 2 = [0, 5] ∧ p.drop 222 = [0xA7, 1, 0, 0] := by
  decide +kernel

/-- R198 with R54: an ADVISE payload whose reference length byte is 17 has a reference that check 2 refuses, 16 one it
takes. -/
theorem test_reference_length :
    let payload (n : Byte) : List Byte := [0xF1, 0x23, 0x64, 2, 1, 2, 0x5C, 0x1C, 0, 0, n] ++ List.replicate 16 0x41 ++ [1, 2, 150, 0]
    (adviseOf (payload 16)).reference.length = 16 ∧ (adviseOf (payload 16)).lines = [(2, 150)] ∧
    (adviseOf (payload 16)).tag = 40117233 ∧ (adviseOf (payload 17)).reference.length = 17 ∧
    adviseLengthOk (payload 17) = true := by
  decide +kernel

/-- R164: a head that awaits its decision is found CLOSED after an activation of its cradle line. -/
theorem test_undecided_stays_closed :
    after (.debounceTimerExpiry 6) (moving 6 false (withHead .b (fun hd => { hd with decision := .awaited none }) quiet)) (fun t =>
      (t.head .b).state == .closed && (t.head .b).starting) = true := by
  decide +kernel

/-- R137: heads A and B fill their staging queues in one step; the lift is given to the first of them, whichever comes first
in the arbitration order. -/
theorem test_first_fill_is_granted :
    let waiting := fun seq => fun hd : Head => { hd with decision := .awaited none, cradleRecord := some seq }
    let s := holdingRecords [record 430 .judged none, record 431 .judged none]
      (withHead .a (waiting 430) (withHead .b (waiting 431) (inMode .night quiet)))
    (settledInTurn [decideIfReady .b, decideIfReady .a] s).lift.lastHead = .b ∧
      (settledInTurn [decideIfReady .a, decideIfReady .b] s).lift.lastHead = .a := by
  decide +kernel

/-- R173: the clock stays at its maximum, and counts up to it. -/
theorem test_clock : after .clockSecond (at_ 4294967295 quiet) (fun t => t.clock == some 4294967295) = true ∧
    after .clockSecond (at_ 4294967294 quiet) (fun t => t.clock == some 4294967295) = true ∧
    after .clockSecond quiet (fun t => t.clock == none) = true := by
  decide +kernel

/-- R7: the first beam break in READY starts a deposit with the flap still released and the lamp out. -/
theorem test_beam : after (.debounceTimerExpiry 1) (moving 1 false (withHead .a (fun hd =>
    { hd with state := .ready, reservation := true }) quiet)) (fun t =>
      (t.head .a).state == .intake && (t.head .a).beamCount == 1 && (t.head .a).intakeTimer == some 45 &&
      (t.output 0).owner && !(t.output 2).owner) = true := by
  decide +kernel

/-- R99: LOG_PURGE in DAY removes the RELEASED record and frees its entry; R139: NIGHT needs the clock. -/
theorem test_purge_and_night :
    after (.logPurge req) { holdingRecords [record 418 .released (some 53), { record 419 .stored (some 53) with advice := none }] quiet with
      advices := ⟨[mixedEntry (.lodged 418)], [0]⟩ } (fun t =>
        t.log.records.map (·.seq) == [419] && t.advices == ⟨[], []⟩ &&
        t.link.service.reply == some (.ok (.purged 1 1))) = true ∧
    after (.modeSetNight req) quiet (fun t => t.link.service.reply == some (.refused .clockUnset)) = true ∧
    after (.modeSetNight req) (at_ 5 quiet) (fun t => t.mode == .night) = true := by
  decide +kernel

/-- R195: a frame whose check differs is counted at its port and discarded. -/
theorem test_bad_check : after (.byteReceived .service 0) { quiet with link := { quiet.link with service :=
    { quiet.link.service with receiver := .inFrame [0, 1, 7, 0] } } } (fun t =>
      t.service.stats.serviceErrors == 1 && t.link.service.receiver == .hunting) = true := by
  decide +kernel

/-! ### States and operands that meet the statements' hypotheses, clause by clause -/

/-- A head put into a state. -/
def headIn (h : HeadId) (st : HeadState) (s : State) : State := withHead h (fun hd => { hd with state := st }) s

/-- The lift put into a state, its MOVE outstanding. -/
def liftIn (st : LiftState) (s : State) : State :=
  { s with lift := { s.lift with state := st, transferTimer := some 40, moveOutstanding := some 3 } }

/-- An input line with its timer running toward being established. -/
def unestablished (n : Nat) (s : State) : State := s.setInput n (.cold false)

theorem witness_StepRunsTheFrontCommand :
    (State.reset.withCommand .clockSecond).pending = .clockSecond :: State.reset.pending := rfl

theorem witness_SupplyRestartKeepsTheBatteryWell :
    (quiet.Sized ∧ (∀ l ∈ quiet.inputs, 0 < l.debounce) ∧ (∀ b ∈ quiet.rack.bins, b.lock = .locked) ∧
      quiet.release.reservations = [] ∧ quiet.release.unlocks = [] ∧ quiet.lift.state = .idle) ∧
    (liftIn (.moving ⟨1, .a, 3⟩ 5) quiet).lift.state = .moving ⟨1, .a, 3⟩ 5 ∧
    (liftIn (.fault .drive ⟨1, .a, 3⟩) quiet).lift.state = .fault .drive ⟨1, .a, 3⟩ :=
  ⟨⟨sized rfl, by decide +kernel⟩, rfl, rfl⟩

theorem witness_LinesAreDebounced :
    quiet.Sized ∧ (quiet.input 0).raw = false ∧
    ((quiet.input 0).debounced = some false ∧ (quiet.input 0).raw ≠ true ∧ 0 < (quiet.input 0).debounce) ∧
    (((moving 15 true quiet).input 15).debounced = some true ∧ ((moving 15 true quiet).input 15).raw ≠ true ∧
      0 < ((moving 15 true quiet).input 15).debounce) ∧
    (∀ n, n = 12 ∨ n = 14 ∨ n = 15 → (State.reset.input n).timer.isSome = true ∧ (State.reset.input n).debounced = none ∧
      ((moving n true quiet).input n).timer.isSome = true ∧
      ((moving n true quiet).input n).debounced = some (!((moving n true quiet).input n).raw)) :=
  ⟨sized rfl, rfl, by decide +kernel, by decide +kernel, by rintro n (rfl | rfl | rfl) <;> decide +kernel⟩

/-- Head A with lines 0 to 2 established, line 2 (its cradle) at a level found first, line 3 (its gate) about to be
established, and its restart decision awaited; of the other heads, those given await theirs. -/
def deciding (cradle : Bool) (waiting : List HeadId) (record : Option Nat) (staging : List Nat) : State :=
  let s := waiting.foldl (fun s k => withHead k (fun hd => { hd with decision := .awaited none }) s)
    (unestablished 3 (held 2 cradle quiet))
  withHead .a (fun hd => { hd with decision := .awaited (some cradle), cradleRecord := record, staging := staging }) s

/-- The restart decision: with a record, by the room in staging, the cradle and the gate; RECOVER, the fault and CLOSED; and
the last of the three, with DAY_PENDING. -/
theorem witness_LinesAreDebounced_decision :
    let s := fun cradle => deciding cradle [.b] none []
    let bag := fun cradle staging => liftIn (.moving ⟨1, .b, 3⟩ 5) (deciding cradle [.b] (some 7) staging)
    let shut := (bag false []).setInput 3 { (bag false []).input 3 with high := true }
    let last := inMode (.dayPending .request) (deciding false [] none [])
    ((s true).Sized ∧ (bag true []).Sized ∧ shut.Sized ∧ last.Sized) ∧
    ((3 : Nat) / 4 = headIndex .a ∧ (3 : Nat) ≠ cradleLine .a ∧
      (∀ m < 16, m / 4 = headIndex .a → m ≠ 3 → ((s true).input m).debounced.isSome = true) ∧
      ((s true).input 3).debounced = none ∧ ((s true).input 3).timer.isSome = true ∧
      ((s true).head .a).decision = .awaited (some true) ∧ ((s true).head .a).state = .closed ∧
      ((s true).head .b).starting = true ∧ ((s true).head .a).cradleRecord = none) ∧
    (((bag true [1, 2]).head .a).staging.length = 2 ∧ (bag true [1]).active 2 = true ∧ (bag false [1]).active 2 = false ∧
      ((bag false []).input 3).raw = false ∧ (shut.input 3).raw = true ∧ (bag false []).lift.state ≠ .idle ∧
      ((bag true []).head .a).cradleRecord = some 7) ∧
    ((inMode .night (s true)).mode ≠ .day ∧ 1 ≤ (s true).logFree ∧ ((s true).channel .a).state = .off ∧
      (s true).service.step = none ∧ (s true).mode = .day ∧ ((s false).head .a).decision = .awaited (some false)) ∧
    ((∀ k, k ≠ .a → (last.head k).starting = false ∧ (last.head k).state = .closed) ∧ (∀ k, (last.head k).staging = []) ∧
      last.release.mode = .dayPending .request ∧ last.lift.state = .idle) := by
  refine ⟨⟨sized rfl, sized rfl, sized rfl, sized rfl⟩, by decide +kernel, by decide +kernel, by decide +kernel, ?_, ?_, rfl, rfl⟩
  · exact each (by simp) (by decide +kernel) (by decide +kernel)
  · exact each rfl rfl rfl

/-- Head A CLOSED, head B WARMING, head C READY with its flap shut, and TAMPER about to activate. -/
def tampered : State := moving 13 false (held 8 true (headIn .b .warming (headIn .c .ready quiet)))

theorem witness_TamperClosesTheHeads :
    (tampered.Sized ∧ (tampered.input 13).debounced = some false ∧ (tampered.input 13).raw = true ∧
      (tampered.input 13).timer.isSome = true) ∧
    (tampered.head .a).state = .closed ∧ (tampered.head .b).state = .warming ∧ (tampered.head .c).state = .ready ∧
    tampered.active (intakeShutLine .c) = true ∧
    ¬(((held 8 false tampered).head .c).state = .ready ∧ (held 8 false tampered).active (intakeShutLine .c) = true) :=
  ⟨⟨sized rfl, by decide +kernel⟩, by decide +kernel⟩

/-- Head A READY with its beam about to be broken. -/
def beamBreaking : State := moving 1 false (withHead .a (fun hd => { hd with state := .ready, reservation := true }) quiet)

theorem witness_BeamStartsADeposit : beamBreaking.Sized ∧ (1 : Nat) = chuteBeamLine .a ∧
    (beamBreaking.head .a).state = .ready ∧ (beamBreaking.input 1).debounced = some false ∧
    (beamBreaking.input 1).raw = true ∧ (beamBreaking.input 1).timer.isSome = true :=
  ⟨sized rfl, by decide +kernel⟩

/-- Head A in DESCENT over an IDLE channel with its cradle about to be occupied. -/
def landing : State := moving 2 false (idleChannel none (headIn .a .descent quiet))

theorem witness_LandingStartsTheExamination : landing.Sized ∧ (2 : Nat) = cradleLine .a ∧
    (landing.head .a).state = .descent ∧ (landing.input 2).debounced = some false ∧ (landing.input 2).raw = true ∧
    (landing.input 2).timer.isSome = true ∧ (landing.channel .a).state = .idle ∧ (landing.channel .a).refFault = false :=
  ⟨sized rfl, by decide +kernel⟩

/-- Head A in EXAMINE with its window open and one tag. -/
def examining : State := withHead .a (fun hd => { hd with state := .examine, windowTimer := some 600, tags := [1] }) quiet

theorem witness_TagWindowCollectsTags :
    examining.Sized ∧ (examining.head .a).state = .examine ∧ (examining.head .a).windowTimer.isSome = true ∧
    (examining.head .a).weighing = none ∧ (999999999 : Nat) ∉ (examining.head .a).tags ∧
    (examining.head .a).tags.length < 2 ∧ (1 : Nat) ∈ (examining.head .a).tags ∧ (quiet.head .a).windowTimer = none :=
  ⟨sized rfl, by decide +kernel⟩

/-- Head A with the timers of a deposit running. -/
def timed (st : HeadState) : State := withHead .a (fun hd => { hd with
  state := st
  intakeTimer := some 45
  descentTimer := some 2000
  gateTimer := some 3 }) quiet

theorem witness_HeadsFaultWithTheirCause : quiet.Sized ∧ (timed .intake).Sized ∧ (timed .descent).Sized ∧
    (timed .discharge).Sized ∧ (moving 2 false quiet).Sized ∧
    ((timed .intake).head .a).state = .intake ∧ ((timed .intake).head .a).intakeTimer.isSome = true ∧
    ((timed .descent).head .a).state = .descent ∧ ((timed .descent).head .a).descentTimer.isSome = true ∧
    ((timed .discharge).head .a).state = .discharge ∧ ((timed .discharge).head .a).gateTimer.isSome = true ∧
    ((moving 2 false quiet).head .a).state = .closed ∧ ((moving 2 false quiet).head .a).starting = false ∧
    ((headIn .a .warming (moving 2 false quiet)).head .a).state = .warming ∧
    ((headIn .a .ready (moving 2 false quiet)).head .a).state = .ready ∧ (2 : Nat) = cradleLine .a ∧
    ((moving 2 false quiet).input 2).debounced = some false ∧ ((moving 2 false quiet).input 2).raw = true ∧
    ((moving 2 false quiet).input 2).timer.isSome = true :=
  ⟨sized rfl, sized rfl, sized rfl, sized rfl, sized rfl, by decide +kernel⟩

/-- CRADLE_LOST: head A in EXAMINE with a weighing, in RECOVER, and in HOLD, its cradle line about to deactivate. -/
theorem witness_HeadsFaultWithTheirCause_lost :
    let s := fun st reservation => moving 2 true (withChannel .a (fun c => { c with
      state := .weighing ⟨.head, 10, 2, 0, 2000, 2, 0, none, false, false, 300, 4000⟩ })
      (withHead .a (fun hd => { hd with state := st, reservation := reservation }) quiet))
    (s .examine true).Sized ∧ (s .recover true).Sized ∧ (s .hold false).Sized ∧
    ((s .examine true).head .a).state = .examine ∧ ((s .recover true).head .a).state = .recover ∧
    ((s .hold false).head .a).state = .hold ∧ ((s .examine true).head .a).reservation = true ∧
    ((s .examine true).input 2).debounced = some true ∧ ((s .examine true).input 2).raw = false ∧
    ((s .examine true).input 2).timer.isSome = true :=
  ⟨sized rfl, sized rfl, sized rfl, by decide +kernel⟩

theorem witness_VerdictIsTheFirstThatHolds :
    let w : WeighOutcome := .settled 929206 false
    (∃ n, TagOutcome.tag 5 = .tag n) ∧ (∃ m neg, w = .settled m neg) ∧ ¬(∃ n, TagOutcome.noTag = .tag n) ∧
    ¬(∃ m neg, WeighOutcome.unsettled .timeout = .settled m neg) ∧
    (∃ m neg i e c, WeighOutcome.settled 929205 false = .settled m neg ∧ Lookup.pending 0 936700 2 = .pending i e c ∧
      (m : Int) < (e : Int) - 7494) ∧
    (∃ m neg i e c, WeighOutcome.settled 944195 false = .settled m neg ∧ Lookup.pending 0 936700 2 = .pending i e c ∧
      (e : Int) + 7494 < m) ∧
    ¬(∃ m neg i e c, w = .settled m neg ∧ Lookup.pending 0 936700 2 = .pending i e c ∧ (m : Int) < (e : Int) - 7494) ∧
    ¬(∃ m neg i e c, w = .settled m neg ∧ Lookup.pending 0 936700 2 = .pending i e c ∧ (e : Int) + 7494 < m) := by
  refine ⟨⟨5, rfl⟩, ⟨929206, false, rfl⟩, ?_, ?_, ⟨929205, false, 0, 936700, 2, rfl, rfl, by decide⟩,
    ⟨944195, false, 0, 936700, 2, rfl, rfl, by decide⟩, ?_, ?_⟩
  · rintro ⟨n, h⟩; cases h
  · rintro ⟨m, neg, h⟩; cases h
  · rintro ⟨m, neg, i, e, c, ⟨⟩, ⟨⟩, h⟩; omega
  · rintro ⟨m, neg, i, e, c, ⟨⟩, ⟨⟩, h⟩; omega

theorem witness_JudgementMakesTheRecord :
    let s := beforeJudgement 1 940918
    let tagged := fun tags => withHead .a (fun hd => { hd with tags := tags, weighing := some (.unsettled .timeout) }) s
    s.Sized ∧ (s.head .a).state = .examine ∧ (s.head .a).reservation = true ∧ (s.head .a).windowTimer.isSome = true ∧
    (s.head .a).weighing = some (.settled 940918 false) ∧ (s.head .a).tags = [40117233] ∧ s.cradle .a = true ∧
    (∀ tags, ((tagged tags).head .a).tags = tags ∧ ((tagged tags).head .a).weighing = some (.unsettled .timeout) ∧
      ((tagged tags).head .a).windowTimer.isSome = true) ∧
    s.advices.lookup 40117233 = .pending 0 936700 2 ∧ s.advices.lookup 5 = .lodged ∧ s.advices.lookup 6 = .none :=
  ⟨sized rfl, rfl, rfl, rfl, rfl, rfl, by decide +kernel, fun _ => ⟨rfl, rfl, rfl⟩, by decide +kernel⟩

/-- Head A in DISCHARGE with the gate open and its cradle about to clear; the lift is MOVING. -/
def clearing : State :=
  liftIn (.moving ⟨1, .b, 3⟩ 5) (moving 2 true (withHead .a (fun hd => { hd with state := .discharge, cradleRecord := some 7 }) quiet))

/-- Head A in DISCHARGE with its cradle cleared and its gate about to shut; its channel is IDLE. -/
def shutting (cause : Option CloseCause) : State :=
  moving 3 false (idleChannel none (withHead .a (fun hd => { hd with state := .discharge, closePending := cause }) quiet))

theorem witness_DischargeGoesToStaging :
    (clearing.Sized ∧ (clearing.head .a).state = .discharge ∧ (clearing.input 2).timer.isSome = true ∧
      (2 : Nat) = cradleLine .a ∧ (clearing.head .a).cradleRecord = some 7 ∧ (clearing.input 2).debounced = some true ∧
      (clearing.input 2).raw = false ∧ clearing.active (gateShutLine .a) = false ∧ clearing.lift.state ≠ .idle) ∧
    ((shutting (some .tamper)).Sized ∧ ((shutting (some .tamper)).head .a).state = .discharge ∧
      ((shutting (some .tamper)).input 3).timer.isSome = true ∧ (3 : Nat) = gateShutLine .a ∧
      ((shutting (some .tamper)).head .a).cradleRecord = none ∧
      ((shutting (some .tamper)).input 3).debounced = some false ∧ ((shutting (some .tamper)).input 3).raw = true ∧
      ((shutting (some .tamper)).head .a).closePending = some .tamper) ∧
    ((shutting none).Sized ∧ ((shutting none).head .a).closePending = none ∧
      ((shutting none).channel .a).state = .idle ∧ 2 ≤ (shutting none).logFree) :=
  ⟨⟨sized rfl, by decide +kernel⟩, ⟨sized rfl, by decide +kernel⟩, sized rfl, by decide +kernel⟩

/-- A weighing record with nothing run yet. -/
def fresh (who : Requester) : WeighRecord := ⟨who, 10, 2, 0, 2000, 2, 0, none, false, false, 300, 4000⟩

/-- A channel with every timer running. -/
def running (st : ChannelState) (waiting : Bool) : State := withChannel .a (fun c => { c with
  state := st
  waiting := waiting
  warmUpTimer := some 8
  paceTimer := some 10
  acquireTimer := if waiting then some 2 else none
  idleTimer := some 30
  delayTimer := some 300 }) quiet

theorem witness_ChannelTimersAct :
    ((running (.warming .running) false).channel .a).state = .warming .running ∧
    ((running (.warming .running) false).channel .a).warmUpTimer.isSome = true ∧
    ((running (.weighing (fresh .head)) false).channel .a).state = .weighing (fresh .head) ∧
    ((running (.weighing (fresh .head)) false).channel .a).delayTimer.isSome = true ∧
    ((running .idle false).channel .a).idleTimer.isSome = true ∧
    ((running .idle false).channel .a).paceTimer.isSome = true ∧ ((running .idle false).channel .a).acquireTimer = none ∧
    ((running .idle true).channel .a).acquireTimer.isSome = true ∧ ((running .idle true).channel .a).waiting = true ∧
    ((withChannel .a (fun c => { c with waiting := false }) (running .idle true)).channel .a).acquireTimer.isSome = true ∧
    ((withChannel .a (fun c => { c with waiting := false }) (running .idle true)).channel .a).waiting = false := by
  decide +kernel

/-- Channel A IDLE with three codes gathered and the fourth converting, or with none gathered. -/
def gathering (count : Nat) : State := withChannel .a (fun c => { c with
  state := .idle
  gathered := ⟨count, 0, false, true⟩
  conversion := some ⟨false, true⟩ }) quiet

theorem witness_CodesBecomeReadings :
    ((gathering 2).channel .a).conversion = some ⟨false, true⟩ ∧
    ((gathering 2).channel .a).gathered.count + 1 < 2 ^ ((gathering 2).channel .a).exponent ∧
    ((gathering 3).channel .a).state = .idle ∧
    2 ^ ((gathering 3).channel .a).exponent ≤ ((gathering 3).channel .a).gathered.count + 1 := by
  decide +kernel

theorem witness_RoundingIsToTheNearest : 1 ≤ 1 ∧ 0 < 1 ∧ averageCode 1 (-5) = -2 ∧ roundAway 3 2 = 2 ∧ roundAway (-3) 2 = -2 := by
  decide

/-- Head A WARMING, its channel DONE with three clear codes gathered and the fourth converting. -/
def warmed : State := headIn .a .warming (withChannel .a (fun c => { c with
  state := .warming .done
  gathered := ⟨3, 0, false, true⟩
  conversion := some ⟨false, true⟩ }) quiet)

theorem witness_WarmUpEndsInReady :
    let c := warmed.channel .a
    warmed.Sized ∧ (warmed.head .a).state = .warming ∧ c.state = .warming .done ∧ c.conversion = some ⟨false, true⟩ ∧
    2 ^ c.settings.exponent ≤ c.gathered.count + 1 ∧ c.gathered.clear = true ∧ c.gathered.saturated = false ∧
    (131070#18 : ConverterCode).toInt ≠ -131072 ∧ (131070#18 : ConverterCode).toInt ≠ 131071 ∧ c.refFault = false ∧
    warmed.cradle .a = false ∧ warmed.service.step = none ∧ 1 ≤ warmed.logFree ∧ 2 ≤ warmed.logFree :=
  ⟨sized rfl, by decide +kernel⟩

/-- The last free place of the log is taken: head B READY with its flap shut, head C READY with its flap open. -/
theorem witness_WarmUpEndsInReady_last :
    let s := held 4 true (headIn .b .ready (headIn .c .ready
      { warmed with log := { warmed.log with records := List.replicate 1022 (record 1 .stored none), reservations := 1 } }))
    s.logFree = 1 ∧ (s.head .a).state = .warming ∧ (s.head .b).state = .ready ∧ (s.head .c).state = .ready ∧
    s.active (intakeShutLine .b) = true ∧ s.active (intakeShutLine .c) = false := by
  decide +kernel

/-- A weighing of channel A one stable reading from its settle count, asked by a head in EXAMINE or by the service
controller. -/
def settling (who : Requester) : WeighRecord :=
  ⟨who, 10, 2, 0, 2000, 4, 3, some (makeReading 81800 1850 8200000 false false false), true, true, 300, 4000⟩

/-- The channel of such a weighing with its last code converting. -/
def settlingAt (who : Requester) (s : State) : State := withChannel .a (fun c => { c with
  state := .weighing (settling who)
  zero := 1850
  span := 8200000
  conversion := some ⟨false, false⟩
  settleTimer := some 4000 }) s

/-- What the statements about the last reading of a weighing ask of it, for the code 81,800. -/
theorem witness_last_reading :
    let c := (settlingAt .head examining).channel .a
    let r := makeReading (averageCode 0 (c.gathered.sum + (81800#18 : ConverterCode).toInt)) c.zero c.span
      (c.gathered.saturated || isSaturated (81800#18 : ConverterCode).toInt) (c.gathered.clear && false) false
    let p := makeReading 81800 1850 8200000 false false false
    c.conversion = some ⟨false, false⟩ ∧ 2 ^ (settling .head).exponent ≤ c.gathered.count + 1 ∧
    (settling .head).delayRun = true ∧ (settling .head).previous = some p ∧
    (settling .head).count ≤ (settling .head).stable + 1 ∧ p.saturated = false ∧ p.flag ≠ .high ∧
    r.saturated = false ∧ r.flag ≠ .high ∧ r.mass ≤ p.mass + (settling .head).band ∧
    p.mass ≤ r.mass + (settling .head).band := by
  decide +kernel

/-- Head A's tag window is done and its weighing one stable reading from its end; with a saturated latest reading or none. -/
def weighingLast (saturated : Bool) : State :=
  let s := withHead .a (fun hd => { hd with windowDone := true, windowTimer := none, weighing := none }) (beforeJudgement 1 0)
  withChannel .a (fun c => { c with latest := if saturated then some (makeReading 131071 1850 8200000 true false false) else none })
    (settlingAt .head s)

/-- The weighing completes second, settled by the code 81,800 or at its timer's expiry. -/
theorem witness_JudgementMakesTheRecord_weighing_second (b : Bool) :
    let s := weighingLast b
    s.Sized ∧ (s.head .a).state = .examine ∧ (s.head .a).reservation = true ∧ s.cradle .a = true ∧
    (s.head .a).windowDone = true ∧ (s.channel .a).state = .weighing (settling .head) ∧
    (s.channel .a).settleTimer.isSome = true ∧ (s.channel .a).conversion = some ⟨false, false⟩ ∧
    (settling .head).anyReading = true ∧
    ((s.channel .a).latest.map (·.saturated) = if b then some true else none) := by
  cases b
  · exact ⟨sized rfl, by decide +kernel⟩
  · exact ⟨sized rfl, by decide +kernel⟩

theorem witness_WeighingEndsWithItsOutcome :
    let s := settlingAt .head examining
    s.Sized ∧ (s.head .a).state = .examine ∧ (s.head .a).windowDone = false ∧
    (s.channel .a).state = .weighing (settling .head) ∧ (settling .head).requester = .head ∧
    (s.channel .a).settleTimer.isSome = true :=
  ⟨sized rfl, by decide +kernel⟩

theorem witness_CalibrationEndsWithItsResult :
    ((spanning (.span 10000000)).channel .a).state = .weighing (settling .service) ∧
    (settling .service).requester = .service ∧
    (∀ kind, (spanning kind).service.step = some ⟨.a, kind, .weighing⟩) ∧
    ((spanning .zero).channel .a).conversion = some ⟨false, false⟩ ∧
    2000 ≤ (81800 : Int) - 1850 ∧ (3849 : Int) - 1850 < 2000 ∧
    1 ≤ candidateSpan 10000000 79950 ∧ candidateSpan 10000000 79950 ≤ 16777215 ∧
    16777215 < candidateSpan 25000000 2000 :=
  ⟨by decide +kernel, rfl, fun _ => rfl, by decide +kernel⟩

/-- A latest reading of channel A, clear, with the unclamped mass given by its code. -/
def latestOf (average : Int) (saturated : Bool) : State :=
  idleChannel (some (makeReading average 1850 8200000 saturated true false)) quiet

theorem witness_ZeroIsTracked :
    let low := makeReading 1700 1850 8200000 false true false
    let far := makeReading 9370 1850 8200000 false true false
    ((latestOf 1700 false).channel .a).state = .idle ∧ ((latestOf 1700 false).channel .a).zeroTimer.isSome = true ∧
    (held 2 true (latestOf 1700 false)).cradle .a = true ∧ (latestOf 1700 false).cradle .a = false ∧
    ((latestOf 1700 false).channel .a).refFault = false ∧ ((latestOf 1700 false).channel .a).latest = some low ∧
    low.clear = true ∧ low.saturated = false ∧ low.unclamped.natAbs ≤ ((latestOf 1700 false).channel .a).settings.zeroWindow ∧
    ((latestOf 9370 false).channel .a).latest = some far ∧ 50000 < far.unclamped.natAbs ∧
    ((latestOf 9370 false).channel .a).zeroDrift = false ∧
    ((withChannel .a (fun c => { c with zeroDrift := true }) (latestOf 9370 false)).channel .a).zeroDrift = true := by
  decide +kernel

/-- The scanner in a state. -/
def scannerIn (st : ScanState) : State := { quiet with scanner := { quiet.scanner with state := st } }

theorem witness_ScannerConvertsInOrder :
    (scannerIn .idle).scanner.state = .idle ∧ quiet.scanner.state ≠ .idle ∧
    quiet.scanner.state = .scanning [] 25 false ∧
    (scannerIn (.scanning [5000, 5000] 25 true)).scanner.state = .scanning [5000, 5000] 25 true ∧
    [5000, 5000].length < 3 ∧ (0 : Int) ≤ 6000 := by
  decide +kernel

theorem witness_EndOfScanJudges :
    let s := scannerIn (.scanning [4749, 5250, 5251] 25 true)
    let shut := held 0 true (headIn .a .ready s)
    let weighed := settlingAt .head (headIn .a .examine s)
    let served : State := { settlingAt .service s with service := { s.service with step := some ⟨.a, .zero, .weighing⟩ } }
    let warming := withChannel .a (fun c => { c with state := .warming .running }) (headIn .a .warming s)
    s.scanner.state = .scanning [4749, 5250, 5251] 25 true ∧ (-400 : Int) ≤ 601 ∧ (601 : Int) ≤ 1250 ∧
    (s.channel .a).refFault = false ∧ (4749 : Int) < s.scanner.settings.refLow ∧
    (s.channel .b).refFault = false ∧ ((s.scanner.settings.refHigh : Nat) : Int) < 5251 ∧
    (s.channel .c).refFault = false ∧ s.scanner.tempHigh = false ∧ s.scanner.settings.tempLimit < 601 ∧
    ¬((5250 : Int) < s.scanner.settings.refLow ∨ (s.scanner.settings.refHigh : Int) < 5250) ∧
    s.scanner.settings.tempLimit - 20 ≤ (580 : Int) ∧ ¬(s.scanner.settings.tempLimit - 20 ≤ (579 : Int)) ∧
    (s.head .a).state = .closed ∧ s.service.step = none ∧ s.link.branch.notices.length ≤ 20 ∧
    ((warming.head .a).state = .warming ∧ (warming.channel .a).state = .warming .running) ∧
    ((shut.head .a).state = .ready ∧ shut.active (intakeShutLine .a) = true) ∧
    ((weighed.head .a).state = .examine ∧ (weighed.head .a).windowDone = false ∧
      (weighed.channel .a).state = .weighing (settling .head) ∧ (settling .head).requester = .head) ∧
    ((served.channel .a).state = .weighing (settling .service) ∧ served.service.step = some ⟨.a, .zero, .weighing⟩ ∧
      (settling .service).requester = .service) := by
  decide +kernel

/-- Every staging queue empty. -/
def emptyStaging (s : State) : Prop := ∀ h, (s.head h).staging = []

theorem witness_DeliveryStoresAndGrants :
    let s := runExample ⟨430, .c, 3⟩ .c 1 [431, 434] [432] [433]
    let idle := liftIn (.moving ⟨1, .a, 59⟩ 5) (at_ 9 quiet)
    (idle.lift.state = .moving ⟨1, .a, 59⟩ 5 ∧ idle.lift.moveOutstanding.isSome = true ∧ idle.clock = some 9 ∧
      idle.mode ≠ .dayPending ∧ emptyStaging idle) ∧
    (s.lift.state = .moving ⟨430, .c, 3⟩ 0 ∧ s.lift.moveOutstanding.isSome = true ∧ s.clock = some 12 ∧
      s.mode ≠ .dayPending ∧ ([HeadId.c, .a, .b] = [] ++ .c :: [.a, .b]) ∧ (s.head .c).staging = 433 :: [] ∧
      s.record 433 = some (record 433 .judged none) ∧ (433 : Nat) ≠ 430 ∧ s.fitOf (record 433 .judged none) = .first 3 ∧
      (s.head .c).state ≠ .hold) := by
  refine ⟨⟨rfl, rfl, rfl, by decide +kernel, each rfl rfl rfl⟩, by decide +kernel⟩

/-- A grant out of HOLD, an overflow with the zone-full flag clear, and a record that fits nowhere with the rack-full flag
clear: the standard bins of head C's record are full, and the quarantine bins have room or not. -/
theorem witness_DeliveryStoresAndGrants_full :
    let s := held 10 true (headIn .c .hold (runExample ⟨430, .c, 3⟩ .c 1 [] [] [433]))
    let crowd := fun (quarantine : Nat) => show State from { s with rack := { quiet.rack with
      bins := quiet.rack.bins.map fun b => { b with count := if b.cls = .quarantine then quarantine else 8 } } }
    let x := record 433 .judged none
    ((s.head .c).state = .hold ∧ s.cradle .c = true ∧ s.fitOf x = .first 3) ∧
    ((crowd 0).fitOf x = .overflow 52 ∧ (crowd 0).rack.zoneFull[0]? = some false ∧ (crowd 0).record 433 = some x ∧
      (crowd 0).link.branch.notices.length ≤ 20) ∧
    ((crowd 8).fitOf x = .nowhere ∧ (crowd 8).rack.rackFull = false ∧ ((crowd 8).head .a).staging = [] ∧
      ((crowd 8).head .b).staging = [] ∧
      (crowd 8).log.records.find? (fun r => ((crowd 8).head .c).staging.head? == some r.seq) = some x) := by
  decide +kernel

theorem witness_TransferFaultsKeepTheRecord :
    let s := liftIn (.moving ⟨1, .a, 3⟩ 5) quiet
    s.lift.state = .moving ⟨1, .a, 3⟩ 5 ∧ (59 : Nat) ≤ 59 ∧ (59 : Nat) ≠ 3 ∧ s.lift.moveOutstanding.isSome = true ∧
    s.lift.transferTimer.isSome = true := by
  decide +kernel

theorem witness_UnmatchedReportsAreCounted :
    let f := liftIn (.fault .timeout ⟨1, .a, 3⟩) quiet
    quiet.lift.moveOutstanding = none ∧ quiet.lift.state = .idle ∧ (59 : Nat) < 60 ∧ 0 ∉ quiet.lift.unlockList ∧
    quiet.lock 0 = some .locked ∧ f.lift.state = .fault .timeout ⟨1, .a, 3⟩ ∧ f.lift.moveOutstanding.isSome = true := by
  decide +kernel

theorem witness_UnlockOpensOrFails :
    let s := opening .unlocking
    53 ∈ s.lift.unlockList ∧ s.clock = some 29110 ∧
    s.release.unlocks.find? (fun u => u.bin == 53) = some ⟨53, 1204, 2310, some 10, false⟩ ∧ emptyStaging s ∧
    s.lock 53 = some .unlocking :=
  ⟨by decide +kernel, rfl, by decide +kernel, each rfl rfl rfl, by decide +kernel⟩

theorem witness_BinShutReleasesItsRecords :
    let s := opening (.unlocked 29120)
    s.lock 53 = some (.unlocked 29120) ∧
    s.release.unlocks.find? (fun u => u.bin == 53) = some ⟨53, 1204, 2310, some 10, false⟩ ∧ s.clock = some 29110 ∧
    emptyStaging s ∧ s.bin 53 = some ⟨.quarantine, 0, 30000000, 4, 29624350, .unlocked 29120⟩ :=
  ⟨by decide +kernel, by decide +kernel, rfl, each rfl rfl rfl, by decide +kernel⟩

theorem witness_ReleaseTimersExpire :
    ((reserved 1204).release.reservations.find? (fun v => v.bin == 53) = some ⟨53, 1204, 29110, 60⟩ ∧
      emptyStaging (reserved 1204)) ∧
    (opening (.unlocked 29120)).lock 53 = some (.unlocked 29120) ∧
    (opening (.unlocked 29120)).release.unlocks.find? (fun u => u.bin == 53) = some ⟨53, 1204, 2310, some 10, false⟩ :=
  ⟨⟨by decide +kernel, each rfl rfl rfl⟩, by decide +kernel, by decide +kernel⟩

/-- Heads B and C still awaiting their restart decisions. -/
def undecided : State := withHead .b (fun hd => { hd with decision := .awaited none })
  (withHead .c (fun hd => { hd with decision := .awaited none }) quiet)

theorem witness_ReadbackIsChecked :
    let faulted := quiet.setOutput 14 { quiet.output 14 with fault := true }
    quiet.Sized ∧ (quiet.output 0).check.isSome = true ∧ false = (quiet.output 0).driven ∧
    (true ≠ (quiet.output 14).driven ∧ (quiet.output 14).fault = false) ∧ (faulted.output 14).fault = true ∧
    (true ≠ (quiet.output 5).driven ∧ (5 : Nat) = gateOpenOutput .b ∧ (quiet.head .b).state.isFault = false) ∧
    ((quiet.head .b).state = .closed ∧ (quiet.head .b).starting = false ∧ (undecided.head .b).state = .closed ∧
      (undecided.head .b).starting = true ∧ (undecided.output 5).check.isSome = true ∧ true ≠ (undecided.output 5).driven) ∧
    ({ quiet with alarm := { quiet.alarm with pulseTimer := some 2000 } } : State).alarm.pulseTimer.isSome = true :=
  ⟨sized rfl, by decide +kernel⟩

/-- NIGHT with the clock one second before the schedule's day minute, 390, and before its night start, 1,110. -/
def scheduled (m : Mode) (t : Nat) : State :=
  let s := at_ t (inMode m quiet)
  { s with release := { s.release with schedule := ⟨1110, 390, true⟩ } }

theorem witness_ClockCountsAndSweeps :
    quiet.clock = none ∧ (at_ 4294967295 quiet).clock = some 4294967295 ∧ (4294967294 + 1) % 60 ≠ 0 ∧
    (at_ 59 quiet).clock = some 59 ∧ (59 + 1) % 60 = 0 ∧ (at_ 59 quiet).release.schedule.enabled = false ∧
    (66599 + 1) / 60 % 1440 = (scheduled .day 66599).release.schedule.nightStart ∧
    0 < ({ opening .unlocking with release := (scheduled .day 66599).release } : State).rack.openBins ∧
    (23399 + 1) / 60 % 1440 = (scheduled .night 23399).release.schedule.dayMinute ∧ (scheduled .night 23399).mode = .night ∧
    (∀ h, ((scheduled .night 23399).head h).state = .closed ∧ ((scheduled .night 23399).head h).staging = []) ∧
    (scheduled .night 23399).lift.state = .idle :=
  ⟨rfl, rfl, by decide, rfl, by decide, by decide +kernel, by decide +kernel, by decide +kernel, by decide +kernel,
    by decide +kernel, each ⟨rfl, rfl⟩ ⟨rfl, rfl⟩ ⟨rfl, rfl⟩, by decide +kernel⟩

theorem witness_FrameArrivesWhole : (List.replicate 240 (0xA5 : Byte)).length ≤ 240 ∧
    (quiet.port .service).receiver = .hunting ∧ pump quiet = quiet ∧ quiet.pending = [] :=
  ⟨by decide +kernel, rfl, rfl, rfl⟩

/-- The service port's receiver in a frame. -/
def receiving (l : List Byte) : State :=
  { quiet with link := { quiet.link with service := { quiet.link.service with receiver := .inFrame l } } }

theorem witness_ReceiverDiscardsBadFrames :
    (quiet.port .service).receiver = .hunting ∧ (0xA4#8 : Byte) ≠ 0xA5#8 ∧ ((receiving []).port .service).receiver = .inFrame [] ∧
    240 < (241#8 : Byte).toNat ∧
    ((receiving (frameBody 1 7 [] ++ [0])).port .service).receiver = .inFrame (frameBody 1 7 [] ++ [0#8]) ∧
    [(0#8 : Byte), 0#8] ≠ checkBytes (crc16 (frameBody 1 7 [])) := by
  decide +kernel

theorem witness_WatchExpiryLosesTheLink :
    let c (st : HeadState) : State :=
      let s := held 0 true (headIn .a st quiet)
      { s with link := { s.link with policy := .close } }
    quiet.link.lost = false ∧ quiet.link.timer.isSome = true ∧ quiet.link.policy = .keepOpen ∧
    (c .closed).link.policy = .close ∧ (c .closed).link.timer.isSome = true ∧
    (∀ st ∈ [HeadState.closed, .warming, .ready, .intake, .descent, .examine, .discharge, .hold, .fault .gateJam, .recover],
      ((c st).head .a).state = st) ∧ (c .ready).active (intakeShutLine .a) = true ∧
    (held 0 false (c .ready)).active (intakeShutLine .a) = false := by
  decide +kernel

/-- The service port sending the reply to the request at the front of its queue. -/
def replying (l : List Instr) (body : ReplyBody) : State :=
  { quiet with link := { quiet.link with service :=
    { quiet.link.service with requests := l, reply := some (.ok body), transmitter := .sendingReply } } }

theorem witness_SentFramesLeaveTheirQueues :
    let sent (rep : Reply) : State := { quiet with link := { quiet.link with service :=
      { quiet.link.service with requests := [.status req], reply := some rep, transmitter := .sendingReply } } }
    let records : Reply := .ok (.records (List.replicate 5 (recordImage (record 418 .judged none))) 423)
    (quiet.port .service).transmitter = .free ∧
    ((quiet.port .branch).transmitter = .sendingNotice ∧ (quiet.port .branch).notices = .restarted .cold :: []) ∧
    ((replying [.status req] .done).port .service).transmitter = .sendingReply ∧
    ((replying [.status req] .done).port .service).requests = .status req :: [] ∧
    ((replying [.status req, .logInfo req] .done).port .service).requests = .status req :: .logInfo req :: [] ∧
    (∀ r, Instr.status req ≠ .restart r) ∧ (∀ r, Instr.status req ≠ .coldInitialise r) ∧
    requestOf (.status req) = some req ∧
    (∀ rep, ((sent rep).port .service).reply = some rep ∧ ((sent rep).port .service).transmitter = .sendingReply) ∧
    (∃ images next, records = .ok (.records images next) ∧ images.length ≤ 5 ∧ next < 2 ^ 32) ∧
    (∃ v, Reply.ok (.headOutcomes [(.a, none), (.b, some .tempHigh)]) = .ok (.headOutcomes v)) ∧
    (∃ m v, Reply.ok (.mode .night [(.c, none)]) = .ok (.mode m v)) ∧ isRequestKind 1 = true :=
  ⟨rfl, ⟨rfl, rfl⟩, rfl, rfl, rfl, nofun, nofun, rfl, fun _ => ⟨rfl, rfl⟩, ⟨_, _, rfl, by decide, by decide⟩,
    ⟨_, rfl⟩, ⟨_, _, rfl⟩, by decide +kernel⟩

theorem witness_RestartsFollowTheirReply :
    let s := replying [.coldInitialise req] .done
    let u := replying [.restart req] .done
    let levels := (BitVec.ofBoolListLE (quiet.inputs.map (·.high))).setWidth 16
    s.Sized ∧ (s.port .service).transmitter = .sendingReply ∧ (s.port .service).reply = some (.ok .done) ∧
    (s.port .service).requests = .coldInitialise req :: [] ∧ (u.port .service).requests = .restart req :: [] ∧
    (∀ n < 16, levels.getLsbD n = (u.input n).high) ∧ (∀ l ∈ u.inputs, 0 < l.debounce) ∧
    (∀ b ∈ u.rack.bins, b.lock = .locked) ∧ u.release.reservations = [] ∧ u.release.unlocks = [] :=
  ⟨sized rfl, rfl, rfl, rfl, rfl, by decide +kernel⟩

/-- The service port with a number of requests waiting. -/
def waiting (n : Nat) : State :=
  { quiet with link := { quiet.link with service :=
    { quiet.link.service with requests := List.replicate n (.status req) } } }

theorem witness_RequestsWaitOrAreTurnedAway :
    requestOf (.status req) = some req ∧ 4 ≤ ((waiting 4).port .service).requests.length ∧
    ((waiting 3).port .service).requests ≠ [] ∧ ((waiting 3).port .service).requests.length < 4 ∧
    (quiet.port .service).requests = [] ∧ (quiet.port .branch).requests = [] ∧
    requestOf (.restart branchReq) = some branchReq ∧ serviceOnly (.restart branchReq) = true ∧
    requestOf (.clockSet branchReq 0) = some branchReq ∧ (at_ 0 quiet).clock.isSome = true ∧
    requestOf (.unlistedRequestKind req 5) = some req ∧ (⟨.service, 1, false⟩ : Req).formOk = false := by
  decide +kernel

theorem witness_RefusedRequestsChangeNothing :
    requestOf (.modeSetNight req) = some req ∧ (quiet.port .service).requests = [] ∧
    (∀ q bin officer, Instr.modeSetNight req ≠ .releaseConfirm q bin officer) ∧
    (takeRequest (.modeSetNight req) (quiet.holding req (.modeSetNight req))).2 = .refused .clockUnset :=
  ⟨rfl, rfl, nofun, by decide +kernel⟩

/-- Both kinds of request are taken at once by a quiet part, and after reset. -/
theorem witness_takes : quiet.takes req ∧ quiet.takes branchReq ∧ State.reset.takes req := ⟨⟨rfl, rfl⟩, ⟨rfl, rfl⟩, ⟨rfl, rfl⟩⟩

theorem witness_SelectedReadsShowTheItem :
    let s : State := { holdingRecords [record 1 .stored none, record 2 .stored none] (idleChannel none quiet) with
      advices := ⟨[{ mixedEntry .pending with index := 399, tag := 999999999 }], []⟩ }
    s.takes req ∧ headOfCode 0 = some .a ∧ headOfCode 2 = some .c ∧ (s.channel .a).state = .idle ∧ (s.channel .c).state = .off ∧
    s.advices.entries.find? (fun e => e.index == 399) = some { mixedEntry .pending with index := 399, tag := 999999999 } ∧
    s.advices.entries.find? (fun e => decide (e.state = .pending) && decide (e.tag = 999999999)) =
      some { mixedEntry .pending with index := 399, tag := 999999999 } ∧
    s.log.records = [record 1 .stored none] ++ record 2 .stored none :: [] ∧
    (∀ y ∈ [record 1 .stored none], y.seq ≠ 2) ∧ (∀ y ∈ s.log.records, y.seq ≠ 16777215) ∧ 1 ≤ 5 ∧ 5 ≤ 5 ∧ 59 ≤ 59 ∧ 12 ≤ 12 :=
  ⟨⟨rfl, rfl⟩, by decide +kernel⟩

theorem witness_UnitSettingsAreStored :
    quiet.takes req ∧ headOfCode 2 = some .c ∧
    headSettingsOk ⟨120, 5000, 2000, 10, true⟩ = true ∧ headSettingsOk ⟨5, 500, 100, 1, true⟩ = true ∧
    weighSettingsOk ⟨60, 120, 100, 50, 5, 1000, 50000, 15, 10000, 60, 500000⟩ = true ∧
    weighSettingsOk ⟨1, 1, 2, 1, 0, 0, 0, 2, 500, 1, 0⟩ = true ∧
    ((settlingAt .service quiet).channel .a).state = .weighing (settling .service) ∧
    (∀ w, (quiet.channel .a).state ≠ .weighing w) ∧
    scanSettingsOk ⟨2000, 200, 5000, 6000, 850⟩ = true ∧ scanSettingsOk ⟨100, 5, 3000, 5000, 300⟩ = true ∧
    255 ≤ 255 ∧ 1 ≤ 8 ∧ 8 ≤ 8 ∧ 5 ≤ 120 ∧ 120 ≤ 120 :=
  ⟨⟨rfl, rfl⟩, by decide, by decide, by decide, by decide, by decide, rfl, nofun, by decide, by decide, by decide⟩

theorem witness_TablesAndTimesAreStored : quiet.takes req ∧ 15 ≤ 15 ∧ 1 ≤ 20000 ∧ 20000 ≤ 20000 ∧ 3 ≤ 3 ∧ 2000000 ≤ 2000000 ∧
    200000 ≤ 200000 ∧ 100 ≤ 100 ∧ 1439 ≤ 1439 ∧ 0 ≤ 1439 ∧ 1439 ≠ 0 ∧ 10 ≤ 300 ∧ 300 ≤ 300 ∧ 2 ≤ 30 ∧ 30 ≤ 30 ∧ 1 ≤ 60 ∧ 60 ≤ 60 :=
  ⟨⟨rfl, rfl⟩, by decide⟩

theorem witness_OutOfRangeIsRefused : quiet.takes req ∧ req.port = .service ∧ headOfCode 0 = some .a ∧
    requestOf (.headSet req 0 ⟨4, 500, 100, 1, true⟩) = some req ∧ 4 < 5 ∧
    requestOf (.weighSet req 0 ⟨1, 1, 2, 1, 6, 0, 0, 2, 500, 1, 0⟩) = some req ∧ 5 < 6 ∧
    requestOf (.scanSet req ⟨100, 5, 3000, 5000, 299⟩) = some req ∧ (299 : Int) < 300 ∧
    requestOf (.linkSet req 256 (some .second) (some .close)) = some req ∧ 255 < 256 ∧
    requestOf (.denomSet req 16 .note 1 true) = some req ∧ 15 < 16 ∧
    requestOf (.bagTypeSet req 0 2000001) = some req ∧ 2000000 < 2000001 ∧
    requestOf (.toleranceSet req 0 0 101) = some req ∧ 100 < 101 ∧ requestOf (.logSet req 7) = some req ∧ 7 < 8 ∧
    requestOf (.liftSet req (some .run) 9 5) = some req ∧ 8 < 9 ∧
    requestOf (.scheduleSet req 1440 0 true) = some req ∧ 1439 < 1440 ∧ requestOf (.setReleaseWindow req 5 5) = some req ∧
    requestOf (.releaseSet req 9 2 1) = some req ∧ 9 < 10 ∧ requestOf (.outputSet req 12 true) = some req ∧ 12 ≠ 13 ∧ 12 ≠ 14 ∧
    requestOf (.binRead req 60 1) = some req ∧ 59 < 60 ∧ requestOf (.logRead req 16777216 1) = some req ∧
    16777215 < 16777216 :=
  ⟨⟨rfl, rfl⟩, by decide⟩

theorem witness_LogIsSetAndPurged : quiet.takes req ∧ 8 ≤ 8 ∧ 256 ≤ 256 ∧ quiet.mode = .day ∧ (inMode .night quiet).mode ≠ .day ∧
    (inMode .night quiet).takes req :=
  ⟨⟨rfl, rfl⟩, by decide, by decide, rfl, by decide, ⟨rfl, rfl⟩⟩

theorem witness_BinsAndZonesAreConfigured :
    let used : State := holdingRecords [record 1 .stored (some 52)] quiet
    (quiet.takes req ∧ emptyStaging quiet) ∧
    (quiet.bin 59 = some ⟨.quarantine, 0, 30000000, 0, 0, .locked⟩ ∧ (∀ x ∈ quiet.log.records, x.bin ≠ some 59) ∧
      1000000 ≤ 60000000 ∧ 60000000 ≤ 60000000) ∧
    (morning.bin 53 = some ⟨.quarantine, 0, 30000000, 4, 29624350, .locked⟩ ∧ 4 ≠ 0) ∧
    (used.bin 52 = some ⟨.quarantine, 0, 30000000, 0, 0, .locked⟩ ∧ ∃ x ∈ used.log.records, x.bin = some 52) ∧
    ([0, 1, 2, 3].length = 4 ∧ ∀ z ∈ [0, 1, 2, 3], z ≤ 3) :=
  ⟨⟨⟨rfl, rfl⟩, each rfl rfl rfl⟩, by decide +kernel, by decide +kernel, by decide +kernel, by decide +kernel⟩

/-- NIGHT with the clock set. -/
def night : State := at_ 5 (inMode .night quiet)

/-- A log with no free place. -/
def fullLog : State := { night with log := { night.log with records := List.replicate 1024 (record 1 .stored none) } }

theorem witness_HeadsOpenAndClose :
    let faulty := withChannel .a (fun c => { c with refFault := true }) night
    let hot : State := { night with scanner := { night.scanner with tempHigh := true } }
    let starting := withHead .a (fun hd => { hd with decision := .awaited none }) night
    let ready := held 0 true (headIn .a .ready night)
    (night.takes req ∧ night.Sized ∧ headOfCode 0 = some .a) ∧ quiet.mode ≠ .night ∧
    ((inMode .night quiet).mode = .night ∧ (inMode .night quiet).clock = none) ∧
    (night.mode = .night ∧ night.clock.isSome = true ∧ (night.channel .a).refFault = false ∧ night.scanner.tempHigh = false ∧
      night.active 13 = false ∧ (night.head .a).state.isFault = false ∧ (night.head .a).starting = false ∧
      (night.head .a).state = .closed ∧ (night.channel .a).state = .off ∧ 2 ≤ night.logFree ∧ night.service.step = none) ∧
    (faulty.channel .a).refFault = true ∧ hot.scanner.tempHigh = true ∧ (held 13 true night).active 13 = true ∧
    ((headIn .a (.fault .gateJam) night).head .a).state.isFault = true ∧ fullLog.logFree = 0 ∧
    (starting.head .a).starting = true ∧ ((idleChannel none night).channel .a).state = .idle ∧
    ((ready.head .a).state = .ready ∧ ready.active (intakeShutLine .a) = true ∧ (ready.head .a).closePending = none) ∧
    ((headIn .a .discharge night).head .a).state = .discharge :=
  ⟨⟨⟨rfl, rfl⟩, sized rfl, rfl⟩, by decide +kernel⟩

/-- Head A in FAULT with a cradle record or a reservation, or neither. -/
def faulted (seq : Option Nat) (reservation : Bool) (s : State) : State := withHead .a (fun hd => { hd with
  state := .fault .gateJam
  cradleRecord := seq
  reservation := reservation }) s

theorem witness_ClearFaultGoesOn :
    let on := held 2 true
    ((faulted none false night).takes req ∧ (faulted none false night).Sized ∧ headOfCode 0 = some .a ∧ req.port = .service) ∧
    (night.head .a).state.isFault = false ∧ ((faulted (some 7) false night).head .a).state.isFault = true ∧
    ((on (faulted (some 7) false night)).head .a).cradleRecord.isSome = true ∧ (on (faulted (some 7) false night)).cradle .a = true ∧
    ((on (faulted none false quiet)).head .a).cradleRecord = none ∧ (on (faulted none false quiet)).mode = .day ∧
    (on (faulted none false fullLog)).logFree = 0 ∧ (on (faulted none false fullLog)).mode ≠ .day ∧
    ((on (faulted none true night)).head .a).reservation = true ∧ ((on (faulted none true night)).channel .a).state = .off ∧
    (on (faulted none true night)).service.step = none ∧ (faulted none true night).cradle .a = false :=
  ⟨⟨⟨rfl, rfl⟩, sized rfl, rfl, rfl⟩, by decide +kernel⟩

theorem witness_AdvicesAreEnteredAndWithdrawn :
    let s : State := { at_ 1000 quiet with judge := mixedTables }
    let entered (st : AdviceState) : State := { quiet with advices := ⟨[mixedEntry st], []⟩ }
    (s.takes req ∧ s.advices.Lawful ∧ s.log.records = []) ∧
    ((unadvised.log.records.find? fun x => decide (x.verdict = .unadvised) && !x.late && decide (x.tag = some mixedBag.tag) &&
        (decide (x.state = .judged) || decide (x.state = .inTransfer) || decide (x.state = .stored) ||
          decide (x.state = .transferFault))).map (·.seq) = some 418 ∧
      (∀ h, (unadvised.head h).staging.head? ≠ some 418) ∧ unadvised.advices.Lawful) ∧ 1 ≤ 40117233 ∧
    ((entered .pending).advices.entries.find? fun e => decide (e.state = .pending) && decide (e.tag = 40117233)) =
      some (mixedEntry .pending) ∧
    (∀ e ∈ (entered (.lodged 4)).advices.entries, e.tag = 40117233 → e.state ≠ .pending) ∧
    (∃ e ∈ (entered (.lodged 4)).advices.entries, e.tag = 40117233) ∧ (∀ e ∈ quiet.advices.entries, e.tag ≠ 40117233) := by
  have empty : AdviceTable.Lawful ⟨[], []⟩ := ⟨by decide, by decide, by decide, by decide, by simp⟩
  exact ⟨⟨⟨rfl, rfl⟩, empty, rfl⟩, ⟨by decide +kernel,
    each (by decide +kernel) (by decide +kernel) (by decide +kernel), empty⟩, by decide +kernel⟩

/-- The six checks of ADVISE, each met alone, and all passed, at the edges of their ranges: the mixed bag is good at 1,000;
it is not with the tag 0, a reference of 17 characters or line 2 twice, with line 4 (not enabled), with 20,000,001 mg, at the
minute its time stands in, a week and a second before it, or beside a PENDING entry with its tag. -/
theorem witness_AdvicesAreEnteredAndWithdrawn_checks :
    let s : State := { at_ 1000 quiet with judge := mixedTables }
    let mass (t : JudgeTables) (a : Advice) := (t.tares[a.bagType]?).getD 0 +
        (a.lines.map fun l => l.2 * ((t.denominations[l.1]?).map (·.mass)).getD 0).sum
    let heavy : JudgeTables := { mixedTables with tares := [0, 19125301, 0, 0] }
    let limit : JudgeTables := { mixedTables with tares := [0, 19125300, 0, 0] }
    (¬(mixedBag.tag = 0 ∨ 999999999 < mixedBag.tag ∨ mixedBag.reference = [] ∨ 16 < mixedBag.reference.length ∨
      (∃ x ∈ mixedBag.reference, x.toNat < 0x20 ∨ 0x7E < x.toNat) ∨ 3 < mixedBag.bagType ∨ 3 < mixedBag.serviceClass ∨
      mixedBag.lines = [] ∨ 8 < mixedBag.lines.length ∨ (∃ l ∈ mixedBag.lines, 15 < l.1 ∨ l.2 = 0 ∨ 9999 < l.2) ∨
      ¬(mixedBag.lines.map (·.1)).Nodup)) ∧
    (¬∃ l ∈ mixedBag.lines, ∃ d ∈ mixedTables.denominations[l.1]?, d.enabled = false) ∧
    (16 < (List.replicate 17 (0x41 : Byte)).length ∧ ¬([(2, 1), (2, 2)].map (·.1) : List Nat).Nodup ∧ ¬(16 < (List.replicate 16 (0x41 : Byte)).length)) ∧
    (mixedTables.denominations[4]?).map (·.enabled) = some false ∧
    mass mixedTables mixedBag = 936700 ∧ mass heavy mixedBag = 20000001 ∧ mass limit mixedBag = 20000000 ∧
    (s.clock = some 1000 ∧ 1000 < mixedBag.validUntil / 60 * 60) ∧ (7260 / 60 * 60 ≤ 7260) ∧ (1000 + 604800 < 605820 / 60 * 60) ∧
    ¬(1020 + 604800 < 605820 / 60 * 60) ∧ s.advices.entries.length ≠ 400 ∧
    (∃ e ∈ [mixedEntry .pending], e.state = .pending ∧ e.tag = mixedBag.tag) := by
  decide +kernel

/-- A full advice table, every entry PENDING under its own tag. -/
def fullTable : AdviceTable :=
  ⟨(List.range 400).map fun i => { mixedEntry .pending with index := i, tag := i + 1 }, []⟩

/-- The first check is met by a lawful table. -/
theorem witness_AdvicesAreEnteredAndWithdrawn_full : fullTable.entries.length = 400 ∧ fullTable.Lawful := by
  refine ⟨by simp [fullTable], ⟨?_, ?_, ?_, by decide, ?_⟩⟩
  · simpa [fullTable, List.map_map, Function.comp_def] using List.pairwise_lt_range (n := 400)
  · simp [fullTable, adviceCapacity]
  · simp only [fullTable, List.mem_map, List.mem_range]
    rintro _ ⟨i, -, rfl⟩ _ ⟨j, -, rfl⟩ - - h
    simp at h
    rw [h]
  · simp only [fullTable, List.mem_map, List.mem_range, List.not_mem_nil, false_iff]
    rintro i ⟨_, ⟨j, -, rfl⟩, -, h⟩
    exact absurd h (by simp [AdviceEntry.isPending, mixedEntry])

theorem witness_LiftResolveEndsTheFault :
    let s := at_ 5 (liftIn (.fault .timeout ⟨1, .a, 3⟩) quiet)
    (quiet.takes req ∧ ∀ cause f, quiet.lift.state ≠ .fault cause f) ∧
    (s.takes req ∧ s.lift.state = .fault .timeout ⟨1, .a, 3⟩ ∧ s.clock = some 5 ∧ emptyStaging s ∧ s.mode ≠ .dayPending) :=
  ⟨⟨⟨rfl, rfl⟩, nofun⟩, ⟨rfl, rfl⟩, rfl, rfl, each rfl rfl rfl, by decide +kernel⟩

theorem witness_ModesAreSet :
    let s := at_ 5 quiet
    let busy := liftIn (.moving ⟨1, .a, 3⟩ 5) (headIn .a .intake (headIn .b .descent (headIn .c .intake night)))
    (s.takes req ∧ s.Sized ∧ s.mode = .day ∧ s.rack.openBins = 0 ∧ s.clock.isSome = true ∧
      (∀ h, (s.head h).settings.autoOpen = false) ∧ emptyStaging s) ∧
    (0 < (opening .unlocking).rack.openBins ∧ (opening .unlocking).mode ≠ .night) ∧ quiet.clock = none ∧
    (night.mode = .night ∧ (∀ h, (night.head h).state = .closed ∧ (night.head h).staging = []) ∧ night.lift.state = .idle) ∧
    (busy.mode = .night ∧ busy.lift.state ≠ .idle ∧ ∀ h, (busy.head h).state = .intake ∨ (busy.head h).state = .descent) :=
  ⟨⟨⟨rfl, rfl⟩, sized rfl, rfl, by decide +kernel, rfl, each rfl rfl rfl, each rfl rfl rfl⟩, by decide +kernel, rfl,
    ⟨rfl, each ⟨rfl, rfl⟩ ⟨rfl, rfl⟩ ⟨rfl, rfl⟩, rfl⟩, rfl, by decide +kernel, each (.inl rfl) (.inr rfl) (.inl rfl)⟩

theorem witness_ReleaseNeedsTwoOfficers :
    let s := morning
    (s.takes req ∧ 1 ≤ 9999 ∧ 15 ≤ 15 ∧ s.release.officers[15]? = some none ∧
      (∀ i o, i ≠ 15 → s.release.officers[i]? = some (some o) → o.number ≠ 9999)) ∧
    (s.mode = .day ∧ s.clock = some 29110 ∧ s.release.active = ⟨480, 600⟩ ∧ 480 ≤ 29110 / 60 % 1440 ∧ 29110 / 60 % 1440 < 600 ∧ s.release.knows 1204 = true ∧
      s.bin 53 = some ⟨.quarantine, 0, 30000000, 4, 29624350, .locked⟩ ∧
      (∀ v ∈ s.release.reservations, v.officer ≠ 1204) ∧ s.release.reservations.length < 4) ∧
    ((reserved 1204).takes req ∧ (reserved 1204).mode = .day ∧
      (reserved 1204).release.reservations.find? (fun v => v.bin == 53) = some ⟨53, 1204, 29110, 60⟩ ∧
      (reserved 1204).release.active = ⟨480, 600⟩ ∧ (reserved 1204).clock = some 29110 ∧
      (reserved 1204).release.knows 2310 = true ∧ (reserved 1204).release.isSupervisor 2310 = true ∧
      (reserved 1204).rack.openBins < 2) ∧
    emptyStaging (reserved 1204) := by
  refine ⟨⟨⟨rfl, rfl⟩, by decide, by decide, by decide +kernel, ?_⟩, by decide +kernel, ⟨⟨rfl, rfl⟩, by decide +kernel⟩,
    each rfl rfl rfl⟩
  intro i o _ h
  have all : ∀ x ∈ morning.release.officers, ∀ o, x = some o → o.number ≠ 9999 := by
    intro x hx o ho
    have : (morning.release.officers.all fun x => x.all fun o => o.number != 9999) = true := by decide +kernel
    have := List.all_eq_true.mp this x hx
    subst ho
    simpa using this
  exact all _ (List.mem_of_getElem? h) o rfl

/-- What the statement calls inside: a window's open minute and not its close minute, on the same day (480 to 600) and across
midnight (600 to 480). -/
theorem witness_ReleaseNeedsTwoOfficers_window :
    let inside := fun (w : Window) (now : Nat) =>
      if w.openMinute < w.closeMinute then w.openMinute ≤ now / 60 % 1440 ∧ now / 60 % 1440 < w.closeMinute
      else w.openMinute ≤ now / 60 % 1440 ∨ now / 60 % 1440 < w.closeMinute
    (inside ⟨480, 600⟩ 28800 ∧ inside ⟨480, 600⟩ 35999 ∧ ¬inside ⟨480, 600⟩ 28799 ∧ ¬inside ⟨480, 600⟩ 36000) ∧
    (inside ⟨600, 480⟩ 36000 ∧ inside ⟨600, 480⟩ 0 ∧ inside ⟨600, 480⟩ 28799 ∧ ¬inside ⟨600, 480⟩ 28800 ∧
      ¬inside ⟨600, 480⟩ 35999) ∧
    (reserved 1204).release.active = ⟨480, 600⟩ ∧ (at_ 36000 (reserved 1204)).takes req ∧
    (at_ 36000 (reserved 1204)).mode = .day ∧ quiet.clock = none :=
  ⟨by decide +kernel, by decide +kernel, rfl, ⟨rfl, rfl⟩, rfl, rfl⟩

theorem witness_LinesClockAndAlarmAreSet :
    (quiet.takes req ∧ quiet.Sized) ∧ 1 ≤ (List.range 16).length ∧ (List.range 16).length ≤ 16 ∧ (List.range 16).Nodup ∧
    (∀ n ∈ List.range 16, n ≤ 15) ∧ 12 ≤ 15 ∧ 1 ≤ 255 ∧ 255 ≤ 255 ∧ quiet.service.state = .none ∧
    (branchReq.port ≠ .service ∧ quiet.clock = none) ∧ quiet.advices.entries = [] ∧ quiet.release.schedule.enabled = false ∧
    quiet.alarm.mode = .level ∧ pulsing.alarm.mode = .pulse ∧ quiet.alarm.width = 2000 ∧
    (quiet.output 12).owner = anyCause (bothCauses quiet.alarm.latched quiet.alarm.enables) ∧
    (quiet.output 12).driven = (quiet.output 12).owner ∧ Polarity.activeLow ≠ quiet.alarm.polarity :=
  ⟨⟨⟨rfl, rfl⟩, sized rfl⟩, by decide +kernel⟩

theorem witness_ServiceStatesAreHeld :
    let inService : State := { quiet with service := { quiet.service with state := .pattern } }
    (quiet.takes req ∧ quiet.Sized ∧ quiet.service.step = none ∧ req.port = .service) ∧ night.mode ≠ .day ∧
    (quiet.mode = .day ∧ (held 12 true quiet).active 12 = true ∧ quiet.active 12 = false) ∧
    (inService.service.state ≠ .none ∧ quiet.service.state = .none ∧ inService.takes req) ∧
    (List.replicate 15 true).length = 15 :=
  ⟨⟨⟨rfl, rfl⟩, sized rfl, rfl, rfl⟩, by decide +kernel, by decide +kernel, ⟨by decide +kernel, rfl, rfl, rfl⟩, rfl⟩

theorem witness_CalibrationAndStatistics :
    let inService : State := { quiet with service := { quiet.service with state := .hold } }
    (quiet.takes req ∧ quiet.Sized ∧ headOfCode 0 = some .a ∧ quiet.service.step = none ∧ req.port = .service) ∧
    100000 ≤ 25000000 ∧ 1000000 ≤ 1000000 ∧ night.mode ≠ .day ∧ (quiet.mode = .day ∧ inService.service.state ≠ .none) ∧
    (quiet.head .a).state = .closed ∧
    ¬(((headIn .a .ready quiet).head .a).state = .closed ∨
      (((headIn .a .ready quiet).head .a).state = .fault .unexpectedCradle ∧
        ((headIn .a .ready quiet).head .a).cradleRecord = none)) ∧
    (held 2 true quiet).cradle .a = true ∧ quiet.cradle .a = false ∧ (quiet.channel .a).state = .off ∧
    ((idleChannel none quiet).channel .a).state = .idle ∧ ((idleChannel none quiet).channel .a).refFault = false ∧
    (∃ x ∈ morning.log.records, x.state ≠ .released ∧ x.state ≠ .withdrawn) ∧
    (∀ x ∈ (holdingRecords [record 1 .released none] quiet).log.records, x.state = .released ∨ x.state = .withdrawn) :=
  ⟨⟨⟨rfl, rfl⟩, sized rfl, rfl, rfl, rfl⟩, by decide +kernel⟩

/-- In NIGHT, record 418 JUDGED in head A's staging queue, record 417 STORED in bin 53, and one command pending. -/
def oneBagEach : State :=
  let s := (withHead .a (fun hd => { hd with staging := [418] })
    (holdingRecords [record 417 .stored (some 53), record 418 .judged none]
      { night with log := { night.log with nextSeq := 419 } })).withCommand .unknownDriveReport
  { s with rack := { s.rack with bins := s.rack.bins.set 53 ⟨.quarantine, 0, 30000000, 1, 940918, .locked⟩ } }

/-- What holds of the bins of a table of sixty holds of every bin number. -/
theorem everyBin {s : State} {p : Nat → Bin → Bool} (h : ∀ n < 60, (s.bin n).all (p n) = true)
    (size : s.rack.bins.length = 60) : ∀ n b, s.bin n = some b → p n b = true := by
  intro n b hb
  have lt : n < 60 := by
    by_contra hn
    have : s.bin n = none := List.getElem?_eq_none (by omega)
    simp [this] at hb
  simpa [hb] using h n lt

/-- What a lock state implies of every bin number holds as an equivalence, from the bins of a table of sixty. -/
theorem everyLock {s : State} {p : LockState → Bool} {q : Nat → Bool} (size : s.rack.bins.length = 60)
    (h : ∀ n < 60, ((s.lock n).map p == some true) = q n) (high : ∀ n, q n = true → n < 60) :
    ∀ n, (s.lock n).map p = some true ↔ q n = true := by
  intro n
  by_cases hn : n < 60
  · rw [← h n hn]; simp
  · have : s.bin n = none := List.getElem?_eq_none (by omega)
    simp only [State.lock, this, Option.map_none, reduceCtorEq, false_iff]
    exact fun hq => hn (high n hq)

/-- The hypotheses of ShapesAreKept, EveryBagIsAccountedFor, ReleaseLawIsKept, AdviceTableIsKept and OutputsFollowTheirOwners, and those of
RecordsAndClockAreKept on the log, hold of a state with one bag in hand and one in the rack, and a step from it ends. -/
theorem witness_laws : oneBagEach.Sized ∧ oneBagEach.link.Bounded ∧ oneBagEach.LogLaw ∧ oneBagEach.log.Distinct ∧
    oneBagEach.CustodyLaw ∧ oneBagEach.RackLaw ∧ oneBagEach.DayLaw ∧ oneBagEach.ReleaseLaw ∧ oneBagEach.advices.Lawful ∧
    oneBagEach.Commanded ∧ oneBagEach.Driven ∧ ∃ t, step oneBagEach = .next t := by
  have free (p : LockState → Bool) (hp : ∀ n < 60, ((oneBagEach.lock n).map p == some true) = false) (n : Nat) :
      ¬(oneBagEach.lock n).map p = some true := by
    rw [everyLock (q := fun _ => false) (by decide +kernel) hp (by simp) n]
    simp
  have lock (l : LockState) (b : Nat) (h : oneBagEach.lock b = some l) :
      (oneBagEach.lock b).map (fun x => decide (x = l)) = some true := by simp [h]
  refine ⟨sized rfl, ⟨⟨by decide +kernel, by decide +kernel⟩, by decide +kernel, by decide +kernel⟩,
    ⟨by decide +kernel, by decide +kernel, ?_⟩, ⟨by decide +kernel, by decide +kernel⟩,
    ⟨by decide +kernel, ?_, ?_, ?_⟩, ⟨?_, fun _ h => nomatch h⟩, fun h => absurd h (by decide +kernel),
    ⟨fun b => ⟨fun h => absurd (lock _ b h) (free _ (by decide +kernel) b), nofun⟩,
      fun b => ⟨fun h => absurd (lock _ b h) (free _ (by decide +kernel) b), nofun⟩,
      fun b => ⟨fun h => absurd h (free _ (by decide +kernel) b), nofun⟩, by decide +kernel, by decide +kernel,
      by decide +kernel, by decide +kernel, fun _ => by decide +kernel, nofun, ?_⟩,
    ⟨by decide, by decide, by decide, by decide, by simp [oneBagEach, State.withCommand, withHead, State.setHead,
      holdingRecords, night, at_, inMode, quiet, State.reset, State.cold]⟩, ?_, ?_, _, rfl⟩
  · exact each ⟨nofun, nofun, nofun, nofun, fun _ _ => rfl, nofun⟩ ⟨nofun, nofun, nofun, nofun, fun _ _ => rfl, nofun⟩
      ⟨nofun, nofun, nofun, nofun, fun _ _ => rfl, nofun⟩
  · exact each ⟨by decide +kernel, nofun⟩ ⟨by decide +kernel, nofun⟩ ⟨by decide +kernel, nofun⟩
  · intro seq
    show seq ∈ [418] ↔ ∃ r ∈ [record 417 .stored (some 53), record 418 .judged none], r.seq = seq ∧ r.state = .judged
    simp [record, eq_comm]
  · show ∀ r ∈ [record 417 .stored (some 53), record 418 .judged none], r.lifted = false
    decide
  · intro n b hb
    have := everyBin (s := oneBagEach) (p := fun n b => decide (b.count = (oneBagEach.countedIn n).length ∧
      b.mass = ((oneBagEach.countedIn n).map (·.allocationMass)).sum ∧ b.count ≤ 8 ∧ b.mass ≤ b.limit))
      (by decide +kernel) rfl n b hb
    exact of_decide_eq_true this
  · intro r (h : r ∈ [record 417 .stored (some 53), record 418 .judged none]) hs
    rcases List.mem_cons.1 h with rfl | h
    · cases hs
    · rw [List.mem_singleton.1 h] at hs
      cases hs
  · exact each (by decide +kernel) (by decide +kernel) (by decide +kernel)
  · intro _
    show ∀ o ∈ quiet.outputs, o.driven = o.owner
    decide +kernel

/-- Bin 53 UNLOCKING by two officers, bin 2 RESERVED by a third. -/
def twoLocks : State :=
  let s := opening .unlocking
  { s with
    rack := { s.rack with bins := s.rack.bins.modify 2 fun b => { b with lock := .reserved, count := 1 } }
    release := { s.release with reservations := [⟨2, 3007, 29110, 60⟩] } }

/-- The hypotheses of ReleaseLawIsKept, and EveryBagIsAccountedFor's law of DAY, hold also with a bin open and one reserved. -/
theorem witness_ReleaseLawIsKept : twoLocks.Sized ∧ twoLocks.ReleaseLaw ∧ twoLocks.DayLaw ∧ twoLocks.mode = .day ∧
    ∃ t, step (twoLocks.withCommand .unknownDriveReport) = .next t := by
  have lock (l : LockState) (b : Nat) : twoLocks.lock b = some l ↔ (twoLocks.lock b).map (fun x => decide (x = l)) = some true := by
    cases twoLocks.lock b <;> simp
  have only {α : Type} (n b : Nat) (x : α) (f : α → Nat) (h : f x = n) : (b == n) = true ↔ ∃ v ∈ [x], f v = b := by
    simpa [← h] using eq_comm
  refine ⟨sized rfl, ⟨fun b => ?_, fun b => ?_, fun b => ?_, by decide +kernel, by decide +kernel, by decide +kernel,
    by decide +kernel, fun h => absurd rfl h, by decide +kernel, ?_⟩, fun _ => ⟨rfl, each (by decide +kernel)
    (by decide +kernel) (by decide +kernel)⟩, rfl, _, rfl⟩
  · exact (lock _ b).trans ((everyLock (q := fun n => n == 2) (by decide +kernel) (by decide +kernel) (by simp) b).trans
      (only 2 b (⟨2, 3007, 29110, 60⟩ : Reservation) (·.bin) rfl))
  · exact (lock _ b).trans ((everyLock (q := fun n => n == 53) (by decide +kernel) (by decide +kernel) (by simp) b).trans
      ((only 53 b 53 id rfl).trans ⟨fun ⟨v, h, e⟩ => e ▸ h, fun h => ⟨b, h, rfl⟩⟩))
  · exact (everyLock (q := fun n => n == 53) (by decide +kernel) (by decide +kernel) (by simp) b).trans
      (only 53 b (⟨53, 1204, 2310, some 10, false⟩ : UnlockRecord) (·.bin) rfl)
  · intro r (h : r ∈ [record 420 .stored (some 53)]) hs
    rw [List.mem_singleton.1 h] at hs
    cases hs

theorem witness_RecordsAndClockAreKept : (∀ levels, Instr.unknownDriveReport ≠ .coldStart levels) ∧
    (∀ p, Instr.unknownDriveReport = .frameSent p → ∀ r, (quiet.port p).requests.head? ≠ some (.coldInitialise r)) ∧
    (at_ 5 quiet).clock.isSome = true :=
  ⟨nofun, nofun, rfl⟩

end Sys2Proof.Tests
end

section
/-! Outputs follow their owners: every operation keeps the outputs commanded by the heads and driven by their owners
(R2, R171, R182). -/

namespace Sys2Proof.Machine

/-! ### Outputs that follow -/

/-- The outputs, the heads that command them, and whether a service state is held: there are 15 outputs, each head commands
its four, and with no service state held each is driven at its owner's level (R2, R171, R182). -/
structure OutputsFollow (heads : PerHead Head) (outputs : List OutputLine) (service : ServiceState) : Prop where
  sized     : outputs.length = 15
  commanded : ∀ h, ((outputs[flapReleaseOutput h]?).getD .cold).owner = (heads.get h).flap ∧
    ((outputs[gateOpenOutput h]?).getD .cold).owner = (heads.get h).gate ∧
    ((outputs[intakeLampOutput h]?).getD .cold).owner = (heads.get h).lamp ∧
    ((outputs[readerOnOutput h]?).getD .cold).owner = (heads.get h).reader
  driven    : service = .none → ∀ o ∈ outputs, o.driven = o.owner

/-- The outputs of a state follow. -/
def State.Follows (s : State) : Prop := OutputsFollow s.heads s.outputs s.service.state

theorem State.follows_iff (s : State) : s.Follows ↔ s.outputs.length = 15 ∧ s.Commanded ∧ s.Driven :=
  ⟨fun f => ⟨f.sized, f.commanded, f.driven⟩, fun ⟨sized, commanded, driven⟩ => ⟨sized, commanded, driven⟩⟩

/-- The four levels that a head commands (R2). -/
def Head.levels (hd : Head) : Bool × Bool × Bool × Bool := (hd.flap, hd.gate, hd.lamp, hd.reader)

variable {s t : State}

/-- Only the levels of the heads, the outputs and the service state count. -/
theorem State.Follows.congr (fs : s.Follows) (levels : ∀ h, (t.head h).levels = (s.head h).levels)
    (outputs : t.outputs = s.outputs) (service : t.service.state = s.service.state) : t.Follows := by
  refine ⟨outputs ▸ fs.sized, fun h => ?_, service ▸ outputs ▸ fs.driven⟩
  have same := levels h
  simp only [Head.levels, Prod.mk.injEq] at same
  obtain ⟨flap, gate, lamp, reader⟩ := same
  have commanded := fs.commanded h
  rw [outputs]
  exact ⟨commanded.1.trans flap.symm, commanded.2.1.trans gate.symm, commanded.2.2.1.trans lamp.symm,
    commanded.2.2.2.trans reader.symm⟩

/-- Work on other fields leaves the outputs following. -/
theorem State.Follows.of_same (fs : s.Follows) (heads : t.heads = s.heads) (outputs : t.outputs = s.outputs)
    (service : t.service.state = s.service.state) : t.Follows :=
  fs.congr (fun h => by rw [State.head, State.head, heads]) outputs service

/-! ### Commands to outputs -/

/-- With no service state held an output read by its number is driven at its owner's level. -/
theorem State.Driven.output (driven : s.Driven) (free : s.service.state = .none) (n : Nat) :
    (s.output n).driven = (s.output n).owner := by
  simp only [State.output]
  cases e : s.outputs[n]? with
  | none => rfl
  | some x => exact driven free x (List.mem_of_getElem? e)

/-- An output commanded by its owner is driven so while no service state is held (R171). -/
theorem handOutput_driven (n : Nat) (v : Bool) (driven : s.Driven) : (handOutput n v s).Driven := by
  intro none o mem
  have free : s.service.state = .none := by simpa using none
  simp only [handOutput, free, ite_true, State.setOutput] at mem
  obtain mem | rfl := List.mem_or_eq_of_mem_set mem
  · exact driven free o mem
  · unfold OutputLine.drive
    split
    · next same => exact same
    · rfl

/-- The ALARM line and the GP outputs belong to no head. -/
theorem State.Follows.handOutput {n : Nat} {v : Bool} (no : 12 ≤ n) (fs : s.Follows) : (handOutput n v s).Follows := by
  obtain ⟨sized, commanded, driven⟩ := s.follows_iff.1 fs
  refine (State.follows_iff _).2 ⟨by simp [sized], fun h => ?_, handOutput_driven n v driven⟩
  have lt : 4 * headIndex h + 3 < 12 := by cases h <;> simp [headIndex]
  rw [handOutput_output_of_ne, handOutput_output_of_ne, handOutput_output_of_ne, handOutput_output_of_ne]
  · simpa using commanded h
  all_goals simp only [flapReleaseOutput, gateOpenOutput, intakeLampOutput, readerOnOutput]; omega

theorem driveHead_driven (h : HeadId) (driven : s.Driven) : (driveHead h s).Driven :=
  handOutput_driven _ _ (handOutput_driven _ _ (handOutput_driven _ _ (handOutput_driven _ _ driven)))

/-- A head that changes with its outputs commanded at once keeps them following (R2). -/
theorem State.Follows.updateHead {h : HeadId} {f : Head → Head} (fs : s.Follows) : (updateHead h f s).Follows := by
  obtain ⟨sized, commanded, driven⟩ := s.follows_iff.1 fs
  refine (State.follows_iff _).2 ⟨by simp [sized], fun k => ?_, driveHead_driven h driven⟩
  by_cases e : k = h
  · subst e
    simpa [Machine.updateHead] using driveHead_output (s.setHead k (f (s.head k))) k (by simpa using sized)
  · have apart : headIndex k ≠ headIndex h := by
      cases k <;> cases h <;> simp_all [headIndex]
    have kept (i : Nat) (lt : i < 4) : (Machine.updateHead h f s).output (4 * headIndex k + i) = s.output (4 * headIndex k + i) :=
      driveHead_output_of_ne _ (by omega)
    have same := commanded k
    simp only [flapReleaseOutput, gateOpenOutput, intakeLampOutput, readerOnOutput] at same ⊢
    rw [updateHead_head_of_ne _ _ e]
    exact ⟨(kept 0 (by omega)).symm ▸ same.1, (kept 1 (by omega)).symm ▸ same.2.1, (kept 2 (by omega)).symm ▸ same.2.2.1,
      (kept 3 (by omega)).symm ▸ same.2.2.2⟩

/-- A head replaced by one that commands the same levels keeps the outputs following. -/
theorem State.Follows.setHead {h : HeadId} {v : Head} (fs : s.Follows) (same : v.levels = (s.head h).levels) :
    (s.setHead h v).Follows := by
  refine fs.congr (fun k => ?_) rfl rfl
  by_cases e : k = h
  · subst e; simp [same]
  · rw [State.setHead_head_of_ne _ _ e]

end Sys2Proof.Machine
end

section
namespace Sys2Proof.Machine

variable {s t : State} {h : HeadId}

namespace State.Follows

/-! ### The shared operations keep the outputs following -/

theorem setPort {p : PortId} {v : Port} (fs : s.Follows) : (s.setPort p v).Follows :=
  fs.of_same (by simp) (by simp) (by simp)

theorem notify {n : Notice} (fs : s.Follows) : (notify n s).Follows := fs.setPort

theorem alarmLevel (fs : s.Follows) : (alarmLevel s).Follows := by
  unfold Machine.alarmLevel
  split
  · exact fs.handOutput (by decide)
  · exact fs

theorem reportAlarm {c : AlarmCause} (fs : s.Follows) : (reportAlarm c s).Follows := by
  unfold Machine.reportAlarm
  split
  · exact fs
  · dsimp only
    split
    · exact alarmLevel fs
    · split
      · exact handOutput (s := { s with alarm := _ }) (by decide) fs
      · exact fs

/-! ### The log and the channels -/

theorem updateStats {f : Stats → Stats} (fs : s.Follows) : (updateStats f s).Follows := fs

theorem updateHeadStats {f : HeadStats → HeadStats} (fs : s.Follows) : (updateHeadStats h f s).Follows := fs

theorem lowWaterFall (fs : s.Follows) : (lowWaterFall s).Follows := by
  unfold Machine.lowWaterFall
  split
  · exact notify fs
  · exact fs

theorem lowWaterRise (fs : s.Follows) : (lowWaterRise s).Follows := by
  unfold Machine.lowWaterRise
  split <;> exact fs

theorem judgeLowWater (fs : s.Follows) : (judgeLowWater s).Follows := fs.lowWaterRise.lowWaterFall

theorem takeReservation (fs : s.Follows) (taken : takeReservation h s = some t) : t.Follows := by
  unfold Machine.takeReservation at taken
  split at taken
  · cases taken
  · cases taken
    exact lowWaterFall (fs.setHead (v := { s.head h with reservation := true }) rfl)

theorem giveBack (fs : s.Follows) : (giveBack h s).Follows := by
  unfold Machine.giveBack
  split
  · exact lowWaterRise (fs.setHead (v := { s.head h with reservation := false }) rfl)
  · exact fs

theorem updateChannel {f : Channel → Channel} (fs : s.Follows) : (updateChannel h f s).Follows := fs

theorem refreshIdle (fs : s.Follows) : (refreshIdle h s).Follows := fs

theorem abandonWeighing (fs : s.Follows) : (abandonWeighing h s).Follows := fs

theorem stopStep (fs : s.Follows) : (stopStep s).Follows := fs.of_same (by simp) (by simp) (by simp)

theorem askWarm (fs : s.Follows) : (askWarm h s).Follows := by
  simp only [Machine.askWarm]
  repeat' split
  on_goal 4 => exact stopStep fs
  all_goals exact fs

theorem endUnwantedWarmUp (fs : s.Follows) : (endUnwantedWarmUp h s).Follows :=
  fs.of_same (by simp) (by simp) (by simp)

theorem zeroFailed {mass : Option Int} (fs : s.Follows) : (zeroFailed h mass s).Follows :=
  fs.of_same (by simp) (by simp) (by simp)

theorem evaluateZero (fs : s.Follows) : (evaluateZero h s).Follows := fs.of_same (by simp) (by simp) (by simp)

/-! ### The heads -/

theorem moveHead {f : Head → Head} (fs : s.Follows) : (moveHead h f s).Follows := by
  simp only [Machine.moveHead]
  split
  · exact fs.updateHead.stopStep
  · exact fs.updateHead

theorem closeHead {c : ClosedCause} (fs : s.Follows) : (closeHead h c s).Follows :=
  fs.notify.moveHead.endUnwantedWarmUp

theorem closeReady {c : CloseCause} (fs : s.Follows) : (closeReady h c s).Follows := fs.giveBack.closeHead

theorem receiveClose {c : CloseCause} (fs : s.Follows) : (receiveClose h c s).Follows := by
  simp only [Machine.receiveClose]
  repeat' split
  · exact fs
  · exact fs.updateHead.closeReady
  · exact fs.updateHead
  · exact fs.updateHead.closeHead
  · exact fs.updateHead

theorem foldl {α : Type} {f : State → α → State} {l : List α} (fs : s.Follows)
    (keeps : ∀ s a, s.Follows → (f s a).Follows) : (l.foldl f s).Follows :=
  List.foldlRecOn l f fs fun _ ft a _ => keeps _ a ft

theorem closeAll {c : CloseCause} (fs : s.Follows) : (closeAll c s).Follows := fs.foldl fun _ _ ft => ft.receiveClose

theorem logFullSignal (fs : s.Follows) : (logFullSignal s).Follows :=
  fs.foldl fun _ _ ft => by
    split
    · exact ft.receiveClose
    · exact ft

theorem signalIfFull (fs : s.Follows) : (signalIfFull s).Follows := by
  unfold Machine.signalIfFull
  split
  · exact fs.logFullSignal
  · exact fs

theorem enterFault {c : HeadFaultCause} (fs : s.Follows) : (enterFault h c s).Follows := by
  simp only [Machine.enterFault]
  split
  · exact fs.moveHead.abandonWeighing.notify.reportAlarm.updateHeadStats
  · exact fs.moveHead.notify.reportAlarm.updateHeadStats

theorem endDischarge (fs : s.Follows) : (endDischarge h s).Follows := by
  simp only [Machine.endDischarge]
  split
  · exact fs.updateHead.closeHead
  · split
    · exact fs.updateHead.askWarm.moveHead
    · split
      · next taken => exact (fs.updateHead.takeReservation taken).moveHead.signalIfFull
      · exact fs.updateHead.closeHead

theorem cradleCleared (fs : s.Follows) : (cradleCleared h s).Follows := by
  simp only [Machine.cradleCleared]
  repeat' split
  · exact fs
  · exact fs.updateHead.endDischarge
  · exact fs.updateHead

theorem openGate (fs : s.Follows) : (openGate h s).Follows := by
  simp only [Machine.openGate]
  split
  · exact fs.moveHead
  · exact fs.moveHead.cradleCleared

theorem enterDischarge (fs : s.Follows) : (enterDischarge h s).Follows := by
  unfold Machine.enterDischarge
  split
  · exact fs.openGate
  · exact fs.moveHead

theorem enterHold (fs : s.Follows) : (enterHold h s).Follows := by
  simp only [Machine.enterHold]
  split
  · exact fs.moveHead.openGate
  · exact fs.moveHead

theorem leaveHold (fs : s.Follows) : (leaveHold h s).Follows := by
  unfold Machine.leaveHold
  split
  · exact fs.openGate
  · exact fs

/-- A head in EXAMINE commands no gate, so that its outputs follow a record made there (R2, R86). -/
theorem createRecord {make : Nat → Record} (fs : s.Follows) (state : (s.head h).state = .examine) :
    (createRecord h make s).Follows := by
  refine Follows.setHead (s := { s with log := _ }) fs ?_
  have gate : ((s.head h).state == .discharge) = false := by rw [state]; rfl
  show Head.levels { s.head h with reservation := false, cradleRecord := _, landed := none } = (s.head h).levels
  simp only [Head.levels, Head.flap, Head.gate, Head.lamp, Head.reader, gate, Bool.false_and]

theorem judge {w : WeighOutcome} (fs : s.Follows) (state : (s.head h).state = .examine) : (Machine.judge h w s).Follows := by
  simp only [Machine.judge]
  refine (?_ : State.Follows _).notify.updateHeadStats.enterDischarge
  have made := fs.createRecord (make := judgedRecord h (s.head h) w (lookupFor s.advices (tagOutcome (s.head h).tags))
    (toleranceFor s.judge (lookupFor s.advices (tagOutcome (s.head h).tags)))) state
  split
  · exact made.of_same rfl rfl rfl
  · exact made

theorem headOutcome {w : WeighOutcome} (fs : s.Follows) : (headOutcome h w s).Follows := by
  simp only [Machine.headOutcome]
  repeat' split
  · next state _ => exact fs.updateHead.judge (by rw [updateHead_head]; exact state)
  · exact fs.updateHead
  · exact fs

/-! ### Weighings and readings -/

theorem endStep {w : WeighOutcome} {average : Int} (fs : s.Follows) : (endStep h w average s).Follows := by
  simp only [Machine.endStep]
  repeat' split
  · exact fs
  · exact notify fs
  · exact fs

theorem finishWeighing {w : WeighOutcome} {average : Int} (fs : s.Follows) : (finishWeighing h w average s).Follows := by
  simp only [Machine.finishWeighing]
  repeat' split
  · exact headOutcome fs
  · exact endStep fs
  · exact fs

theorem startWeighing {q : Requester} (fs : s.Follows) : (startWeighing h q s).Follows := by
  simp only [Machine.startWeighing]
  repeat' split
  · exact finishWeighing fs
  · exact fs
  · exact fs

theorem enterExamine (fs : s.Follows) : (enterExamine h s).Follows := fs.moveHead.startWeighing

theorem enterRecover (fs : s.Follows) : (enterRecover h s).Follows := by
  simp only [Machine.enterRecover]
  split
  · exact fs.moveHead.enterExamine
  · exact fs.moveHead.askWarm
  · exact fs.moveHead.askWarm
  · exact fs.moveHead.askWarm.enterExamine

theorem headChannelIdle (fs : s.Follows) : (headChannelIdle h s).Follows := by
  simp only [Machine.headChannelIdle]
  repeat' split
  · exact fs.enterFault
  · next taken => exact (fs.takeReservation taken).moveHead.signalIfFull
  · exact fs.closeHead
  · exact fs.enterExamine
  · exact fs

theorem stepChannelIdle (fs : s.Follows) : (stepChannelIdle h s).Follows := by
  simp only [Machine.stepChannelIdle]
  repeat' split
  · exact startWeighing fs
  · exact fs
  · exact fs

theorem countReading {w : WeighRecord} {r : Reading} (fs : s.Follows) : (countReading h w r s).Follows := by
  simp only [Machine.countReading]
  repeat' split
  on_goal 3 => exact finishWeighing fs
  all_goals exact fs

theorem endWarmUp {average : Int} {saturated clear : Bool} (fs : s.Follows) :
    (endWarmUp h average saturated clear s).Follows := by
  simp only [Machine.endWarmUp]
  repeat' split
  · exact fs.updateChannel.refreshIdle.headChannelIdle.stepChannelIdle
  · exact fs.zeroFailed.updateChannel.refreshIdle.headChannelIdle.stepChannelIdle
  · exact fs.updateChannel.updateChannel.refreshIdle.headChannelIdle.stepChannelIdle

theorem completeReading (fs : s.Follows) : (completeReading h s).Follows := by
  simp only [Machine.completeReading]
  split
  · exact fs.endWarmUp
  · exact countReading fs
  all_goals exact fs

theorem addConversion {code : Int} (fs : s.Follows) : (addConversion h code s).Follows := by
  simp only [Machine.addConversion]
  repeat' split
  on_goal 3 => exact completeReading fs
  all_goals exact fs

theorem settleExpired (fs : s.Follows) : (settleExpired h s).Follows := by
  simp only [Machine.settleExpired]
  split
  · exact fs.finishWeighing
  · exact fs

/-! ### Line events at a head -/

theorem startDeposit (fs : s.Follows) : (startDeposit h s).Follows := fs.moveHead

theorem countBeam (fs : s.Follows) : (countBeam h s).Follows := fs.updateHead

theorem intakeShut (fs : s.Follows) : (intakeShut h s).Follows := by
  simp only [Machine.intakeShut]
  repeat' split
  · exact fs.closeReady
  · exact fs
  · exact fs.enterExamine
  · exact fs.moveHead
  · exact fs

theorem chuteBeam (fs : s.Follows) : (chuteBeam h s).Follows := by
  simp only [Machine.chuteBeam]
  split
  · exact fs.startDeposit
  · exact fs.countBeam
  · exact fs.countBeam
  · exact fs

theorem cradleActivated (fs : s.Follows) : (cradleActivated h s).Follows := by
  simp only [Machine.cradleActivated]
  split
  · split
    · exact fs
    · exact fs.enterFault
  · exact fs.enterFault
  · exact fs.enterFault
  · exact fs.updateHead
  · exact fs.enterExamine
  · split
    · exact fs.enterFault
    · exact fs
  all_goals exact fs

theorem cradleDeactivated (fs : s.Follows) : (cradleDeactivated h s).Follows := by
  simp only [Machine.cradleDeactivated]
  split
  · exact fs.updateHead
  · exact fs.giveBack.enterFault
  · exact fs.cradleCleared
  · exact fs.enterFault
  · exact fs.giveBack.enterFault
  all_goals exact fs

theorem gateShut (fs : s.Follows) : (gateShut h s).Follows := by
  unfold Machine.gateShut
  split
  · exact fs.endDischarge
  · exact fs

theorem headEdge {role : Nat} {up : Bool} (fs : s.Follows) : (headEdge h role up s).Follows := by
  unfold Machine.headEdge
  split
  · exact fs.intakeShut
  · exact fs.chuteBeam
  · exact fs.cradleActivated
  · exact fs.cradleDeactivated
  · exact fs.gateShut
  · exact fs

theorem outputMismatch (fs : s.Follows) : (outputMismatch h s).Follows := by
  unfold Machine.outputMismatch
  split
  · exact fs
  · split
    · exact fs
    · exact fs.enterFault
  all_goals exact fs.enterFault

/-! ### The lift, the rack and release control -/

theorem rackFullCheck {r : Record} (fs : s.Follows) : (rackFullCheck h r s).Follows :=
  fs.of_same (by simp) (by simp) (by simp)

theorem grant {r : Record} {bin run : Nat} {overflowed : Bool} (fs : s.Follows) :
    (grant h r bin overflowed run s).Follows := by
  have allocated : (allocate r bin overflowed s).Follows := fs.of_same (by simp) (by simp) (by simp)
  have popped := allocated.setHead (h := h)
    (v := { (allocate r bin overflowed s).head h with staging := ((allocate r bin overflowed s).head h).staging.tail }) rfl
  exact popped.leaveHold.of_same rfl rfl rfl

theorem consider (fs : s.Follows) : (consider h s).2.Follows := by
  obtain e | ⟨r, e⟩ := consider_frame s h
  · rwa [e]
  · rw [e]; exact fs.rackFullCheck

theorem firstEligible {l : List HeadId} (fs : s.Follows) : (firstEligible l s).2.Follows := by
  induction l generalizing s with
  | nil => exact fs
  | cons h rest ih =>
    have considered := fs.consider (h := h)
    unfold Machine.firstEligible
    split
    · next e => rwa [e] at considered
    · next e => rw [e] at considered; exact ih considered

theorem grantChosen {run : Nat} {c : Option (HeadId × Record × Nat × Bool) × State} (fs : c.2.Follows) :
    (grantChosen run c).Follows := by
  unfold Machine.grantChosen
  split
  · exact grant fs
  · exact fs

theorem arbitrate (fs : s.Follows) : (arbitrate s).Follows := by
  unfold Machine.arbitrate
  split
  · dsimp only
    split
    · exact grantChosen fs.firstEligible
    · split
      · have first := fs.firstEligible (l := [s.lift.lastHead])
        split
        · next e => rw [e] at first; exact grantChosen first
        · next e => rw [e] at first; exact grantChosen first.firstEligible
      · exact grantChosen fs.firstEligible
  · exact fs
  · exact fs

theorem arbitrateIfFilled {before : State} (fs : s.Follows) : (arbitrateIfFilled before s).Follows := by
  unfold Machine.arbitrateIfFilled
  split
  · exact fs.arbitrate
  · exact fs

theorem enterLiftFault {d : LiftFaultDetail} {f : InFlight} (fs : s.Follows) : (enterLiftFault d f s).Follows :=
  reportAlarm (notify fs)

theorem moveAnswered (fs : s.Follows) : (moveAnswered s).Follows := fs

theorem storeInFlight {f : InFlight} {mark : StoredMark} (fs : s.Follows) : (storeInFlight f mark s).Follows :=
  notify (s := s.updateRecord _ _) fs

theorem liftIdle (fs : s.Follows) : (liftIdle s).Follows := fs

theorem moveReport {rep : LateReport} (fs : s.Follows) : (moveReport rep s).Follows := by
  unfold Machine.moveReport
  split
  · exact fs
  · split
    · exact fs
    · split
      · split
        · exact fs.storeInFlight.liftIdle.arbitrate
        · exact fs.moveAnswered.enterLiftFault
      · exact fs.moveAnswered.enterLiftFault
    · exact fs.moveAnswered.notify

theorem openHead (fs : s.Follows) : (openHead h s).2.Follows := by
  unfold Machine.openHead
  split
  · dsimp only
    split
    · exact fs.updateHead.askWarm.moveHead
    · exact fs.updateHead.askWarm.moveHead
    all_goals
      split
      · next taken => exact (fs.updateHead.askWarm.takeReservation taken).moveHead
      · exact fs.updateHead
  · exact fs.updateHead

theorem decideOpenings {auto full : Bool} {l : List HeadId} (fs : s.Follows) :
    (decideOpenings auto l full s).2.2.Follows := by
  induction l generalizing full s with
  | nil => exact fs
  | cons h rest ih =>
    unfold Machine.decideOpenings
    split
    · refine ih (?_ : State.Follows _)
      split
      · exact fs.notify
      · exact fs
    · exact ih fs.openHead

theorem openHeads {auto : Bool} {l : List HeadId} (fs : s.Follows) : (openHeads auto l s).2.Follows := by
  unfold Machine.openHeads
  dsimp only
  split
  · exact fs.decideOpenings.logFullSignal
  · exact fs.decideOpenings

/-- The end of a service state drives every output at its owner's level (R182). -/
theorem endServiceState (fs : s.Follows) : (endServiceState s).Follows := by
  unfold Machine.endServiceState
  split
  · exact fs
  · refine ⟨by simpa using fs.sized, fun h => ?_, fun _ o mem => ?_⟩
    · have owner : ∀ n : Nat, (((s.outputs.map OutputLine.giveBack)[n]?).getD OutputLine.cold).owner =
          ((s.outputs[n]?).getD OutputLine.cold).owner := by
        intro n
        cases e : s.outputs[n]? <;> simp [e, OutputLine.giveBack]
      simpa only [owner] using fs.commanded h
    · obtain ⟨x, -, rfl⟩ := List.mem_map.1 mem
      rfl

theorem changeMode {m : Mode} {source : ModeSource} (fs : s.Follows) : (changeMode m source s).Follows := notify fs

theorem evaluateDrain (fs : s.Follows) : (evaluateDrain s).Follows := by
  unfold Machine.evaluateDrain
  repeat' split
  · exact fs.changeMode
  all_goals exact fs

theorem settleDrain {before : State} (fs : s.Follows) : (settleDrain before s).Follows := by
  unfold Machine.settleDrain
  split
  · exact fs.evaluateDrain
  · exact fs

theorem settled {f : State → State} (fs : (f s).Follows) : (settled f s).Follows := fs.arbitrateIfFilled.settleDrain

theorem settledInTurn {l : List (State → State)} (fs : s.Follows)
    (keeps : ∀ f ∈ l, ∀ s : State, s.Follows → (f s).Follows) : (settledInTurn l s).Follows :=
  settleDrain (List.foldlRecOn l _ fs fun t ft f mem => (keeps f mem t ft).arbitrateIfFilled)

theorem endReservation {v : Reservation} {reason : EndReason} (fs : s.Follows) : (endReservation v reason s).Follows :=
  notify fs

theorem activateWindow (fs : s.Follows) : (activateWindow s).Follows := by
  unfold Machine.activateWindow
  split <;> exact fs

theorem cancelReservations (fs : s.Follows) : (cancelReservations s).Follows := by
  unfold Machine.cancelReservations
  split
  · exact fs
  · exact (fs.foldl fun _ _ ft => ft.endReservation).arbitrate

theorem setNight {source : ModeSource} {out : List (HeadId × Option Refuse)} (fs : s.Follows)
    (ok : setNight source s = .ok (out, t)) : t.Follows := by
  unfold Machine.setNight at ok
  repeat' split at ok
  · cases ok; exact fs
  · cases ok
  · cases ok; exact fs.activateWindow.changeMode
  · cases ok
  · cases ok; exact fs.cancelReservations.activateWindow.changeMode.endServiceState.openHeads

theorem setDay {source : ModeSource} (fs : s.Follows) : (setDay source s).Follows := by
  unfold Machine.setDay
  split
  · exact fs.changeMode.closeAll.evaluateDrain
  all_goals exact fs

theorem minuteBoundary {now : Nat} (fs : s.Follows) : (minuteBoundary now s).Follows := by
  have swept : (sweepAdvices now s).Follows :=
    foldl (s := { s with advices := _ }) fs fun _ _ ft => ft.notify
  unfold Machine.minuteBoundary evaluateSchedule
  repeat' split
  · exact swept
  · next ok => exact swept.setNight ok
  · exact swept.notify
  · exact swept.setDay
  · exact swept

theorem failUnlock {u : UnlockRecord} {cause : UnlockFailCause} (fs : s.Follows) : (failUnlock u cause s).Follows :=
  notify fs

theorem openLong {u : UnlockRecord} {since : Nat} (fs : s.Follows) : (openLong u since s).Follows :=
  reportAlarm (notify fs)

end State.Follows

end Sys2Proof.Machine
end

section
namespace Sys2Proof.Machine

variable {s t : State} {h : HeadId}

namespace State.Follows

/-! ### The lines and the supply restart -/

theorem tamperActivated (fs : s.Follows) : (tamperActivated s).Follows := fs.reportAlarm.closeAll

theorem restartCase {cradle : Bool} (fs : s.Follows) : (restartCase h cradle s).Follows := by
  unfold Machine.restartCase
  repeat' split
  · exact fs.updateHead.enterHold
  · exact fs.moveHead.endUnwantedWarmUp
  · exact fs.enterFault
  · next taken => exact (fs.takeReservation taken).updateHead.enterRecover
  · exact fs.enterFault

theorem restartEnd (fs : s.Follows) : (restartEnd s).Follows := fs.judgeLowWater.arbitrate.evaluateDrain

theorem decideIfReady (fs : s.Follows) : (decideIfReady h s).Follows := by
  simp only [Machine.decideIfReady]
  repeat' split
  · exact fs
  · exact fs.updateHead.restartCase
  · exact fs.updateHead.restartCase.restartEnd
  · exact fs

theorem headFirstLevel {role : Nat} {active : Bool} (fs : s.Follows) : (headFirstLevel h role active s).Follows := by
  unfold Machine.headFirstLevel
  repeat' split
  · exact fs.cradleActivated
  · exact fs
  · exact fs.updateHead
  · exact fs

theorem channelSeesCradle {role : Nat} {active : Bool} (fs : s.Follows) :
    (channelSeesCradle h role active s).Follows := by
  unfold Machine.channelSeesCradle
  split <;> exact fs

theorem signalFirstLevel {n : Nat} {active : Bool} (fs : s.Follows) : (signalFirstLevel n active s).Follows := by
  unfold Machine.signalFirstLevel
  repeat' split
  · exact fs.channelSeesCradle.headFirstLevel
  · exact fs.tamperActivated
  · exact fs

theorem setInput {n : Nat} {v : InputLine} (fs : s.Follows) : (s.setInput n v).Follows := fs

theorem establish {n : Nat} (fs : s.Follows) : (establish n s).Follows := by
  simp only [Machine.establish]
  split
  · exact fs.setInput.signalFirstLevel.decideIfReady
  · exact fs.setInput.signalFirstLevel

theorem signalEdge {n : Nat} {up : Bool} (fs : s.Follows) : (signalEdge n up s).Follows := by
  unfold Machine.signalEdge
  repeat' split
  · exact fs.channelSeesCradle.headEdge
  · exact fs.tamperActivated
  · exact fs

theorem recordEdge {n : Nat} {up : Bool} (fs : s.Follows) : (recordEdge n up s).Follows := by
  simp only [Machine.recordEdge]
  repeat' split
  · exact fs.setInput.notify
  · exact fs
  · exact fs

theorem takeEdge {n : Nat} (fs : s.Follows) : (takeEdge n s).Follows := fs.setInput.signalEdge.recordEdge

theorem rawChanged {n : Nat} (fs : s.Follows) : (rawChanged n s).Follows := by
  simp only [Machine.rawChanged]
  repeat' split
  on_goal 1 => exact fs.establish
  on_goal 3 => exact fs.takeEdge
  all_goals exact fs

theorem debounceExpired {n : Nat} (fs : s.Follows) : (debounceExpired n s).Follows := by
  simp only [Machine.debounceExpired]
  repeat' split
  on_goal 2 => exact fs.establish
  on_goal 3 => exact fs.takeEdge
  all_goals exact fs

theorem restartLift (fs : s.Follows) : (restartLift s).Follows := by
  simp only [Machine.restartLift]
  split
  · exact fs
  · exact enterLiftFault fs
  · exact reportAlarm fs

theorem restartUnlock {u : UnlockRecord} (fs : s.Follows) : (restartUnlock s u).Follows := by
  unfold Machine.restartUnlock
  repeat' split
  · exact fs.failUnlock
  · exact reportAlarm fs
  · exact fs.openLong
  · exact fs

theorem restartRelease (fs : s.Follows) : (restartRelease s).Follows := by
  have unlocked {u : State} {l : List UnlockRecord} (fu : u.Follows) : (l.foldl Machine.restartUnlock u).Follows :=
    fu.foldl fun _ _ ft => ft.restartUnlock
  have relocked : (s.release.reservations.foldl (fun s v => setLock v.bin .locked s) s).Follows :=
    fs.foldl fun _ _ ft => ft
  simp only [Machine.restartRelease]
  split
  · refine (unlocked ?_).arbitrate
    exact relocked
  · refine unlocked ?_
    exact relocked

theorem establishAtOnce {n : Nat} (fs : s.Follows) : (establishAtOnce s n).Follows := by
  simp only [Machine.establishAtOnce]
  split
  · exact fs.setInput.signalFirstLevel
  · exact fs

theorem drawn (fs : s.Follows) : s.drawn.Follows := fs

theorem restartLines (fs : s.Follows) : (restartLines s).Follows := by
  have lines (u : State) (fu : u.Follows) : ((List.range 16).foldl Machine.establishAtOnce u).Follows :=
    fu.foldl fun _ _ ft => ft.establishAtOnce
  have decided (u : State) (l : List HeadId) (fu : u.Follows) : (Machine.settledInTurn (l.map Machine.decideIfReady) u).Follows :=
    fu.settledInTurn fun f mem t ft => by
      obtain ⟨h, -, rfl⟩ := List.mem_map.1 mem
      exact ft.decideIfReady
  simp only [Machine.restartLines]
  refine decided _ _ (lines _ ?_).drawn
  exact fs

end State.Follows

/-- An output commanded while no service state is held is driven at once (R171). -/
theorem handOutput_output_same {n : Nat} (v : Bool) (free : s.service.state = .none) (lt : n < s.outputs.length) :
    (handOutput n v s).output n = ({ s.output n with owner := v } : OutputLine).drive v := by
  simp only [handOutput, free, ite_true, State.setOutput_output _ _ lt]

/-- A GP output at a supply restart is de-energised, and then driven at the level its host set (R170). -/
theorem OutputLine.restarted_drive (o : OutputLine) : (o.restarted true).drive (o.restarted true).owner =
    { o with driven := o.owner, fault := false, check := some 50 } := by
  cases e : o.owner <;> simp [OutputLine.restarted, OutputLine.drive, e]

/-- An output at a supply restart: its fault flag clear, its check timer running, de-energised but for a GP output that the
host holds energised (R170, R171). -/
theorem restartOutputs_output (free : s.service.state = .none) (sized : s.outputs.length = 15) {n : Nat} (lt : n < 15) :
    let kept := (n == gpOut1 || n == gpOut2) && (s.output n).owner
    (restartOutputs s).output n =
      { s.output n with owner := kept, driven := kept, fault := false, check := some 50 } := by
  have line (m : Nat) : State.output { s with outputs := s.outputs.mapIdx (fun i o => o.restarted (i == gpOut1 || i == gpOut2)) } m = if m < 15 then (s.output m).restarted (m == gpOut1 || m == gpOut2)
        else .cold := by
    simp only [State.output, List.getElem?_mapIdx]
    by_cases lt : m < 15
    · simp [sized, lt]
    · simp [sized, lt]
  simp only [restartOutputs]
  by_cases two : n = gpOut2
  · subst two
    rw [handOutput_output_same _ (by simpa using free) (by simp [sized, gpOut2])]
    rw [handOutput_output_of_ne _ _ (by decide), line]
    simpa [gpOut2] using OutputLine.restarted_drive (s.output 14)
  · rw [handOutput_output_of_ne _ _ two]
    by_cases one : n = gpOut1
    · subst one
      rw [handOutput_output_same _ (by simpa using free) (by simp [sized, gpOut1]), line]
      simpa [gpOut1] using OutputLine.restarted_drive (s.output 13)
    · rw [handOutput_output_of_ne _ _ one, line]
      simp [lt, OutputLine.restarted, one, two]

@[simp] theorem restartOutputs_outputs_length : (restartOutputs s).outputs.length = s.outputs.length := by
  simp [restartOutputs]

@[simp] theorem restartOutputs_service : (restartOutputs s).service = s.service := by simp [restartOutputs]

/-- At a supply restart every output is driven at its owner's level (R170, R171). -/
theorem restartOutputs_driven (free : s.service.state = .none) (sized : s.outputs.length = 15) :
    (restartOutputs s).Driven := by
  intro _ o mem
  obtain ⟨n, lt, rfl⟩ := List.mem_iff_getElem.1 mem
  have here : (restartOutputs s).output n = (restartOutputs s).outputs[n] := by
    rw [State.output, List.getElem?_eq_getElem lt]
    rfl
  rw [← here, restartOutputs_output free sized (by simpa [sized] using lt)]

/-- A head that awaits its decision commands no output energised (R2, R164). -/
theorem Head.levels_replaced (hd : Head) : hd.replaced.levels = (false, false, false, false) := rfl

namespace State.Follows

/-- At a supply restart the outputs follow whatever they were: every head is CLOSED and commands none (R2, R170). -/
theorem supplyRestart {cause : RestartCause} (sized : s.outputs.length = 15) : (supplyRestart cause s).Follows := by
  have follows (u : State) (free : u.service.state = .none) (sized : u.outputs.length = 15) :
      (restartHeads (restartOutputs u)).Follows := by
    refine (State.follows_iff _).2 ⟨?_, fun h => ?_, restartOutputs_driven free sized⟩
    · exact (restartOutputs_outputs_length (s := u)).trans sized
    · have off {n : Nat} (lt : n < 12) : ((restartOutputs u).output n).owner = false := by
        rw [restartOutputs_output free sized (by omega)]
        simp only [gpOut1, gpOut2, Bool.and_eq_false_imp, Bool.or_eq_true, beq_iff_eq]
        omega
      have lt : 4 * headIndex h + 3 < 12 := by cases h <;> simp [headIndex]
      have levels : ((restartHeads (restartOutputs u)).head h).levels = (false, false, false, false) := by
        simp only [restartHeads, State.head, PerHead.get_map]
        rfl
      simp only [Head.levels, Prod.mk.injEq] at levels
      obtain ⟨flap, gate, lamp, reader⟩ := levels
      rw [flap, gate, lamp, reader]
      exact ⟨off (by simp only [flapReleaseOutput]; omega), off (by simp only [gateOpenOutput]; omega),
        off (by simp only [intakeLampOutput]; omega), off (by simp only [readerOnOutput]; omega)⟩
  exact (follows (restartAlarm (restartService (restartLink cause s))) rfl
    (by simpa [restartAlarm, restartService, restartLink] using sized)).restartLift.restartRelease.restartLines

/-- After a cold start the outputs follow (R2, R170). -/
theorem cold (levels : BitVec 16) (free : Nat) (pending : List Instr) : (State.cold levels free pending).Follows := by
  refine ⟨rfl, fun h => ?_, fun _ o mem => ?_⟩
  · cases h <;> exact ⟨rfl, rfl, rfl, rfl⟩
  · rw [List.eq_of_mem_replicate mem]
    rfl

end State.Follows

end Sys2Proof.Machine
end

section
namespace Sys2Proof.Machine

variable {s t : State} {h : HeadId}

namespace State.Follows

/-! ### Requests -/

theorem guarded {only : Bool} {r : Req} {own : State → State × Reply} (fs : s.Follows) (taken : (own s).1.Follows) :
    (guarded only r own s).1.Follows := by
  unfold Machine.guarded
  split
  · exact fs
  · split
    · exact fs
    · exact taken

theorem settledReply {own : State → State × Reply} (taken : (own s).1.Follows) : (settledReply own s).1.Follows :=
  taken.arbitrateIfFilled.settleDrain

theorem takeHeadOpen {r : Req} {l : List Nat} (fs : s.Follows) : (takeHeadOpen r l s).1.Follows := by
  refine fs.guarded (settledReply ?_)
  split
  · exact fs
  · split
    · exact fs
    · split
      · exact fs
      · exact fs.openHeads

theorem takeHeadClose {r : Req} {l : List Nat} (fs : s.Follows) : (takeHeadClose r l s).1.Follows := by
  refine fs.guarded (settledReply ?_)
  split
  · exact fs
  · exact fs.foldl fun _ _ ft => ft.receiveClose

theorem takeHeadSet {r : Req} {n : Nat} {v : HeadSettings} (fs : s.Follows) : (takeHeadSet r n v s).1.Follows := by
  refine fs.guarded ?_
  split
  · exact fs
  · split
    · exact fs.setHead (v := { s.head _ with settings := v }) rfl
    · exact fs

theorem clearFault (fs : s.Follows) (ok : clearFault h s = .ok t) : t.Follows := by
  simp only [Machine.clearFault] at ok
  repeat' split at ok
  · cases ok; exact fs.updateHead.enterHold
  · cases ok
  · cases ok; exact fs.updateHead.enterRecover
  · next taken => cases ok; exact (fs.takeReservation taken).updateHead.enterRecover.signalIfFull
  · cases ok
  · cases ok; exact fs.giveBack.closeHead

theorem takeHeadClearFault {r : Req} {n : Nat} (fs : s.Follows) : (takeHeadClearFault r n s).1.Follows := by
  refine fs.guarded (settledReply ?_)
  split
  · exact fs
  · split
    · split
      · next ok => exact fs.clearFault ok
      · exact fs
    · exact fs

theorem takeAdvise {r : Req} {a : Advice} (fs : s.Follows) : (takeAdvise r a s).1.Follows := by
  refine fs.guarded (settledReply ?_)
  unfold checked
  split
  · exact fs
  · unfold enterAdvice
    split
    · unfold lateMatch
      dsimp only [accept]
      split
      · exact arbitrate (s := { s.updateRecord _ _ with advices := _ }) fs
      · exact fs
    · exact fs

theorem takeBinSet {r : Req} {bin zone limit : Nat} {cls : Option BinClass} (fs : s.Follows) :
    (takeBinSet r bin cls zone limit s).1.Follows := by
  refine fs.guarded (settledReply ?_)
  unfold checked
  split
  · exact fs
  · exact arbitrate (s := s.updateBin _ _) fs

theorem takeZoneMapSet {r : Req} {zones : List Nat} (fs : s.Follows) : (takeZoneMapSet r zones s).1.Follows := by
  refine fs.guarded (settledReply ?_)
  split
  · exact fs
  · split
    · exact fs
    · exact arbitrate (s := { s with rack := _ }) fs

theorem takeLiftResolve {r : Req} {o : Option ResolveOutcome} (fs : s.Follows) : (takeLiftResolve r o s).1.Follows := by
  refine fs.guarded (settledReply ?_)
  split
  · exact fs
  · split
    · unfold resolveLift
      split
      · exact fs.storeInFlight.liftIdle.arbitrate
      · exact arbitrate (s := Machine.liftIdle (retrieveInFlight _ s)) fs
    · exact fs
    · exact fs

theorem takeModeSetNight {r : Req} (fs : s.Follows) : (takeModeSetNight r s).1.Follows := by
  refine fs.guarded (settledReply ?_)
  split
  · next ok => exact fs.setNight ok
  · exact fs

theorem takeModeSetDay {r : Req} (fs : s.Follows) : (takeModeSetDay r s).1.Follows := fs.guarded (settledReply fs.setDay)

theorem writeOfficer {slot : Nat} {new : Option Officer} (fs : s.Follows) : (writeOfficer slot new s).Follows := by
  simp only [Machine.writeOfficer]
  split
  · exact arbitrate (endReservation fs)
  · exact fs

theorem takeOfficerSet {r : Req} {slot n : Nat} {role : Option Role} {on : Bool} (fs : s.Follows) :
    (takeOfficerSet r slot n role on s).1.Follows := by
  refine fs.guarded (settledReply ?_)
  split
  · exact fs
  · split
    · exact fs
    · split
      · exact fs
      · exact fs.writeOfficer

theorem takeReleaseConfirm {r : Req} {bin officer : Nat} (fs : s.Follows) :
    (takeReleaseConfirm r bin officer s).1.Follows := by
  refine fs.guarded (settledReply ?_)
  split
  · exact fs
  · repeat' split
    on_goal 2 => exact fs.endReservation.arbitrate
    on_goal 2 => exact fs.endReservation.arbitrate
    all_goals exact fs

theorem takeReleaseCancel {r : Req} {bin officer : Nat} (fs : s.Follows) :
    (takeReleaseCancel r bin officer s).1.Follows := by
  refine fs.guarded (settledReply ?_)
  repeat' split
  · exact fs
  · exact fs
  · exact fs.endReservation.arbitrate

theorem senseReadbacks (fs : s.Follows) : (senseReadbacks s).Follows := by
  have line (n : Nat) : (((Machine.senseReadbacks s).outputs[n]?).getD OutputLine.cold).owner = (s.output n).owner := by
    simp only [Machine.senseReadbacks, State.drawn, State.output, List.getElem?_mapIdx]
    cases s.outputs[n]? <;> rfl
  refine ⟨by simpa [Machine.senseReadbacks] using fs.sized, fun h => ?_, fun free o mem => ?_⟩
  · rw [line, line, line, line]
    exact fs.commanded h
  · obtain ⟨i, lt, rfl⟩ := List.mem_mapIdx.1 mem
    exact fs.driven free (s.outputs[i]) (List.getElem_mem lt)

theorem setLine {n debounce : Nat} {p : Polarity} (fs : s.Follows) : (setLine n p debounce s).Follows := by
  simp only [Machine.setLine]
  split
  · exact fs
  · exact fs.setInput.rawChanged

theorem takeLineSet {r : Req} {n debounce : Nat} {p : Polarity} (fs : s.Follows) :
    (takeLineSet r n p debounce s).1.Follows := by
  refine fs.guarded (settledReply ?_)
  repeat' split
  · exact fs
  · exact fs
  · exact fs.setLine

theorem takeOutputSet {r : Req} {n : Nat} {v : Bool} (fs : s.Follows) : (takeOutputSet r n v s).1.Follows := by
  refine fs.guarded ?_
  split
  · next gp =>
    refine fs.handOutput ?_
    obtain rfl | rfl := gp <;> decide
  · exact fs

theorem takeClockSet {r : Req} {v : BitVec 32} (fs : s.Follows) : (takeClockSet r v s).1.Follows :=
  fs.guarded (settledReply (minuteBoundary (s := { s with clock := _ }) fs))

theorem takeAlarmAck {r : Req} (fs : s.Follows) : (takeAlarmAck r s).1.Follows :=
  fs.guarded (alarmLevel (s := { s with alarm := _ }) fs)

theorem setAlarm {m : AlarmMode} {w : Nat} {p : Polarity} {e : AlarmFlags} (fs : s.Follows) :
    (setAlarm m w p e s).Follows := by
  simp only [Machine.setAlarm]
  split
  · exact handOutput (s := { s with alarm := _ }) (by decide) fs
  · exact alarmLevel (s := { s with alarm := _ }) fs

theorem takeAlarmSet {r : Req} {v : AlarmRequest} (fs : s.Follows) : (takeAlarmSet r v s).1.Follows := by
  refine fs.guarded ?_
  repeat' split
  · exact fs
  · exact fs.setAlarm
  · exact fs

/-- While a service state is held the outputs need not be driven at their owners' levels (R181, R182). -/
theorem of_held (fs : s.Follows) (heads : t.heads = s.heads) (length : t.outputs.length = 15)
    (owner : ∀ n, (t.output n).owner = (s.output n).owner) (held : t.service.state ≠ .none) : t.Follows := by
  refine ⟨length, fun h => ?_, fun none => absurd none held⟩
  have commanded := fs.commanded h
  simp only [State.output] at owner
  simp only [owner, heads]
  exact commanded

theorem drivePattern_length (pattern : List Bool) (l : List OutputLine) : (drivePattern pattern l).length = l.length := by
  simp [drivePattern]

theorem drivePattern_owner (pattern : List Bool) (l : List OutputLine) (n : Nat) :
    (((drivePattern pattern l)[n]?).getD OutputLine.cold).owner = ((l[n]?).getD OutputLine.cold).owner := by
  simp only [drivePattern, List.getElem?_mapIdx]
  cases l[n]? <;> rfl

theorem enterService {k : ServiceKind} (fs : s.Follows) : (enterService k s).Follows := by
  have stopped := fs.stopStep
  have length := stopped.sized
  refine stopped.of_held rfl ?_ (fun n => ?_) ?_
  · cases k <;> simp only [Machine.enterService, serviceOutputs, drivePattern_length, List.length_map] <;> exact length
  · simp only [State.output]
    cases k <;> simp only [Machine.enterService, serviceOutputs, drivePattern_owner, List.getElem?_map, stopStep_frame] <;>
      cases s.outputs[n]? <;> rfl
  · cases k <;> simp [Machine.enterService, serviceStateOf]

theorem takeServiceEnter {r : Req} {k : Option ServiceKind} (fs : s.Follows) : (takeServiceEnter r k s).1.Follows := by
  refine fs.guarded ?_
  repeat' split
  on_goal 4 => exact fs.enterService
  all_goals exact fs

theorem takePatternSet {r : Req} {l : List (Option Bool)} (fs : s.Follows) : (takePatternSet r l s).1.Follows := by
  refine fs.guarded ?_
  split
  · exact fs
  · next p _ =>
    show (storePattern p s).Follows
    unfold storePattern
    dsimp only
    split
    · next held =>
      refine fs.of_held rfl ?_ (drivePattern_owner p s.outputs) ?_
      · exact (drivePattern_length p s.outputs).trans fs.sized
      · intro none; cases held.symm.trans none
    · exact fs

theorem startStep {k : CalKind} (fs : s.Follows) : (startStep h k s).Follows := by
  unfold Machine.startStep
  split
  · exact startWeighing fs
  · exact refreshIdle (askWarm fs)

theorem takeStep {n : Nat} {ok empty : Bool} {k : CalKind} (fs : s.Follows) : (takeStep n ok k empty s).1.Follows := by
  unfold Machine.takeStep
  repeat' split
  · exact fs
  · exact fs
  · unfold checked
    split
    · exact fs
    · exact fs.stopStep.startStep

/-- A request taken keeps the outputs following. -/
theorem takeRequest (c : Instr) (fs : s.Follows) : (takeRequest c s).1.Follows := by
  cases c
  case headOpen => exact fs.takeHeadOpen
  case headClose => exact fs.takeHeadClose
  case headSet => exact fs.takeHeadSet
  case headClearFault => exact fs.takeHeadClearFault
  case advise => exact fs.takeAdvise
  case binSet => exact fs.takeBinSet
  case zoneMapSet => exact fs.takeZoneMapSet
  case liftResolve => exact fs.takeLiftResolve
  case modeSetNight => exact fs.takeModeSetNight
  case modeSetDay => exact fs.takeModeSetDay
  case officerSet => exact fs.takeOfficerSet
  case releaseConfirm => exact fs.takeReleaseConfirm
  case releaseCancel => exact fs.takeReleaseCancel
  case lineStatus => exact fs.guarded fs.senseReadbacks
  case lineSet => exact fs.takeLineSet
  case outputSet => exact fs.takeOutputSet
  case clockSet => exact fs.takeClockSet
  case alarmAck => exact fs.takeAlarmAck
  case alarmSet => exact fs.takeAlarmSet
  case serviceEnter => exact fs.takeServiceEnter
  case serviceExit => exact fs.guarded fs.endServiceState
  case patternSet => exact fs.takePatternSet
  case snapshot => exact fs.guarded fs.senseReadbacks
  case calZero => exact fs.guarded fs.takeStep
  case calSpan => exact fs.guarded fs.takeStep
  case calVerify => exact fs.guarded fs.takeStep
  case status => exact fs.guarded fs.setPort
  case unlistedRequestKind => exact fs
  case identify => exact fs.guarded fs
  case weightRead =>
    refine fs.guarded ?_
    split
    · exact fs
    · dsimp only
      split <;> exact fs
  case settingsRead =>
    refine fs.guarded ?_
    split <;> exact fs
  case linkSet =>
    refine fs.guarded ?_
    repeat' split
    all_goals exact fs
  case weighSet =>
    refine fs.guarded ?_
    repeat' split
    all_goals exact fs
  case scanSet =>
    refine fs.guarded ?_
    split <;> exact fs
  case withdraw =>
    refine fs.guarded ?_
    repeat' split
    all_goals exact fs
  case adviceQuery =>
    refine fs.guarded ?_
    split <;> exact fs
  case denomSet =>
    refine fs.guarded ?_
    split <;> exact fs
  case bagTypeSet =>
    refine fs.guarded ?_
    split <;> exact fs
  case toleranceSet =>
    refine fs.guarded ?_
    split <;> exact fs
  case logRead =>
    refine fs.guarded ?_
    split <;> exact fs
  case logPurge =>
    refine fs.guarded ?_
    split
    · unfold purge
      dsimp only [accept]
      split
      · exact fs
      · exact lowWaterRise (s := { s with log := _, advices := _ }) fs
    · exact fs
  case logSet =>
    refine fs.guarded ?_
    split
    · exact judgeLowWater (s := { s with log := _ }) fs
    · exact fs
  case binRead =>
    refine fs.guarded ?_
    split <;> exact fs
  case liftSet =>
    refine fs.guarded ?_
    repeat' split
    all_goals exact fs
  case scheduleSet =>
    refine fs.guarded ?_
    split <;> exact fs
  case setReleaseWindow =>
    refine fs.guarded ?_
    split <;> exact fs
  case releaseSet =>
    refine fs.guarded ?_
    split <;> exact fs
  case releaseRequest =>
    refine fs.guarded ?_
    unfold checked
    split <;> exact fs
  case lineAck =>
    refine fs.guarded ?_
    split <;> exact fs
  case lineReportSet =>
    refine fs.guarded ?_
    repeat' split
    all_goals exact fs
  case coldInitialise =>
    refine fs.guarded ?_
    unfold checked
    split <;> exact fs
  case auxRead => exact fs.guarded fs
  case logInfo => exact fs.guarded fs
  case liftRead => exact fs.guarded fs
  case releaseRead => exact fs.guarded fs
  case clockRead => exact fs.guarded fs
  case statsRead => exact fs.guarded fs
  case statsClear => exact fs.guarded fs
  case restart => exact fs.guarded fs
  all_goals exact fs

/-! ### Commands -/

theorem frameSeen {p : PortId} (fs : s.Follows) : (frameSeen p s).Follows :=
  fs.of_same (by simp) (by simp) (by simp)

theorem answer {p : PortId} {out : State × Reply} (fs : out.1.Follows) : (answer p out).Follows := fs.setPort

theorem arrive {r : Req} {c : Instr} {take : State → State × Reply} (fs : s.Follows)
    (taken : ∀ u : State, u.Follows → (take u).1.Follows) : (arrive r c take s).Follows := by
  simp only [Machine.arrive]
  repeat' split
  · exact fs.frameSeen.setPort
  · exact answer (taken _ fs.frameSeen.setPort)
  · exact fs.frameSeen.setPort

theorem receiveByte {p : PortId} {byte : Byte} (fs : s.Follows) : (receiveByte p byte s).Follows := by
  have received {v : Receiver} : (withReceiver p v s).Follows := fs.setPort
  have discarded : (discardFrame p s).Follows := received.updateStats
  unfold Machine.receiveByte
  split
  · split
    · exact received
    · exact fs
  · split
    · exact fs
    · split
      · exact discarded
      · split
        · simp only [closeFrame]
          repeat' split
          · unfold handOn
            dsimp only
            split
            · exact received.arrive fun u fu => fu.takeRequest _
            · exact received.frameSeen
          · exact discarded
          · exact discarded
        · exact received

theorem frameGone {p : PortId} (fs : s.Follows) : (frameGone p s).Follows := by
  simp only [Machine.frameGone]
  split
  · exact fs
  · exact fs.setPort
  · unfold afterReply
    split
    · exact supplyRestart (by simpa using fs.sized)
    · exact .cold _ _ _
    · unfold takeNext
      split
      · exact answer (fs.setPort.takeRequest _)
      · exact fs.setPort

theorem judgeReference {mv : Int} (fs : s.Follows) : (judgeReference h mv s).Follows := by
  unfold Machine.judgeReference
  repeat' split
  · exact fs
  · exact (updateChannel fs).finishWeighing.receiveClose.notify.reportAlarm
  · exact fs

theorem judgeTemperature {temp : Int} (fs : s.Follows) : (judgeTemperature temp s).Follows := by
  simp only [Machine.judgeTemperature]
  repeat' split
  · exact fs
  · exact fs
  · have hot : State.Follows { s with scanner := { s.scanner with tempHigh := true } } := fs
    exact hot.closeAll.notify.reportAlarm
  · exact fs

theorem auxConversion {v : Int} (fs : s.Follows) : (auxConversion v s).Follows := by
  unfold Machine.auxConversion
  split
  · split
    · refine settledInTurn (s := { s with scanner := _ }) fs fun f mem u fu => ?_
      simp only [List.mem_cons, List.not_mem_nil, or_false] at mem
      obtain rfl | rfl | rfl | rfl := mem
      · exact fu.judgeReference
      · exact fu.judgeReference
      · exact fu.judgeReference
      · exact fu.judgeTemperature
    · exact fs
  · exact fs
  · exact fs

theorem tagReported {n : Nat} (fs : s.Follows) : (tagReported h n s).Follows := by
  unfold Machine.tagReported
  split
  · exact fs.setHead rfl
  · exact fs

theorem unlockFails {bin : Nat} {cause : UnlockFailCause} (fs : s.Follows) : (unlockFails bin cause s).Follows := by
  unfold Machine.unlockFails
  split
  · exact fs.failUnlock.arbitrate
  · exact fs

theorem setOutput {n : Nat} {o : OutputLine} (fs : s.Follows) (owner : o.owner = (s.output n).owner)
    (driven : o.driven = (s.output n).driven) : (s.setOutput n o).Follows := by
  have line (m : Nat) : ((s.setOutput n o).output m).owner = (s.output m).owner := by
    by_cases e : m = n
    · subst e
      by_cases lt : m < s.outputs.length
      · rw [State.setOutput_output _ _ lt, owner]
      · rw [State.setOutput, List.set_eq_of_length_le (by omega)]
    · rw [State.setOutput_output_of_ne _ _ e]
  refine (State.follows_iff _).2 ⟨by simpa using fs.sized, fun h => ?_, fun free x mem => ?_⟩
  · rw [line, line, line, line]
    exact fs.commanded h
  · obtain mem | rfl := List.mem_or_eq_of_mem_set mem
    · exact fs.driven free x mem
    · rw [driven, owner]
      exact State.Driven.output ((State.follows_iff _).1 fs).2.2 free n

theorem checkExpired {n : Nat} {level : Bool} (fs : s.Follows) : (checkExpired n level s).Follows := by
  have checked {o : OutputLine} (owner : o.owner = (s.output n).owner) (driven : o.driven = (s.output n).driven) :
      (s.setOutput n o).Follows := fs.setOutput owner driven
  simp only [Machine.checkExpired]
  split
  · exact fs
  · split
    · exact checked rfl rfl
    · have told {u : State} (fu : u.Follows) : State.Follows (match latchOwner n with
          | some h => Machine.outputMismatch h u
          | none => u) := by
        split
        · exact fu.outputMismatch
        · exact fu
      simp only [checkMismatch]
      refine told ?_
      split
      · exact checked rfl rfl
      · exact notify (setOutput (checked rfl rfl) rfl rfl)

theorem of_done {u : State} (fu : u.Follows) (next : done u = .next t) : t.Follows := by
  obtain rfl := Host.Outcome.next.inj next
  exact fu

/-- An event keeps the outputs following. -/
theorem event {c : Instr} (fs : s.Follows) (event : requestOf c = none) (next : exec c s = .next t) : t.Follows := by
  cases c <;> simp only [requestOf, reduceCtorEq] at event
  case coldStart => exact of_done (.cold _ _ _) next
  case supplyRestart => exact of_done (supplyRestart (by simpa [State.withLevels] using fs.sized)) next
  case rawLevelChange =>
    refine of_done (settled ?_) next
    unfold rawLevelChange
    split
    · exact fs
    · exact fs.setInput.rawChanged
  case debounceTimerExpiry => exact of_done (settled fs.debounceExpired) next
  case tagReport => exact of_done fs.tagReported next
  case intakeTimerExpiry =>
    refine of_done (settled ?_) next
    unfold intakeExpired
    split
    · exact fs.enterFault
    · exact fs
  case descentTimerExpiry =>
    refine of_done (settled ?_) next
    unfold descentExpired
    split
    · exact fs.enterFault
    · exact fs
  case windowTimerExpiry =>
    refine of_done (settled ?_) next
    simp only [windowExpired]
    repeat' split
    · next running _ _ _ => exact fs.updateHead.judge (by rw [updateHead_head]; exact running.1)
    · exact fs.updateHead
    · exact fs
  case gateTimerExpiry =>
    refine of_done (settled ?_) next
    unfold gateExpired
    split
    · exact fs.enterFault
    · exact fs
  case conversionComplete => exact of_done (settled fs.addConversion) next
  case settleTimerExpiry =>
    refine of_done (settled ?_) next
    unfold settleTimerExpired
    split
    · exact fs.settleExpired
    · exact fs
  case zeroIntervalExpiry =>
    refine of_done ?_ next
    unfold zeroIntervalExpired
    split
    · exact fs.evaluateZero.updateChannel
    · exact fs
  case auxConversionComplete => exact of_done fs.auxConversion next
  case delivered =>
    refine of_done ?_ next
    split
    · exact fs
    · exact settled fs.moveReport
  case moveFault => exact of_done (settled fs.moveReport) next
  case binOpened =>
    refine of_done ?_ next
    split <;> exact fs
  case unlockFault =>
    refine of_done ?_ next
    split
    · exact settled fs.unlockFails
    · exact fs
  case binShut =>
    refine of_done ?_ next
    split
    · refine settled ?_
      simp only [binIsShut]
      refine arbitrate ?_
      split <;> exact notify fs
    · exact fs
    · exact fs
  case transferTimerExpiry =>
    refine of_done ?_ next
    unfold transferExpired
    repeat' split
    · exact fs.enterLiftFault
    all_goals exact fs
  case confirmTimerExpiry =>
    refine of_done (settled ?_) next
    unfold confirmExpired
    split
    · exact fs.endReservation.arbitrate
    · exact fs
  case unlockTimerExpiry =>
    refine of_done (settled ?_) next
    unfold unlockExpired
    split
    · exact fs.unlockFails
    · exact fs
  case openLongTimerExpiry =>
    refine of_done ?_ next
    unfold openLongExpired
    repeat' split
    · exact fs.openLong
    all_goals exact fs
  case checkTimerExpiry => exact of_done (settled fs.checkExpired) next
  case pulseTimerExpiry =>
    refine of_done ?_ next
    unfold pulseExpired
    split
    · exact handOutput (s := { s with alarm := _ }) (by decide) fs
    · exact fs
  case clockSecond =>
    refine of_done (settled ?_) next
    simp only [clockTick]
    repeat' split
    · exact fs
    · have counted {now : Option Nat} : State.Follows { s with clock := now } := fs
      exact counted.minuteBoundary
    all_goals exact fs
  case byteReceived => exact of_done fs.receiveByte next
  case interByteGap =>
    refine of_done ?_ next
    unfold gap
    split
    · exact fs
    · exact fs.setPort.updateStats
  case watchTimerExpiry =>
    refine of_done (settled ?_) next
    have lost : State.Follows { s with link := { s.link with lost := true, timer := none } } := fs
    simp only [watchExpired]
    repeat' split
    · exact lost.reportAlarm.closeAll
    · exact lost.reportAlarm
    · exact fs
  case frameSent => exact of_done fs.frameGone next
  all_goals
    refine of_done ?_ next
    exact fs

/-- A command keeps the outputs following. -/
theorem exec {c : Instr} (fs : s.Follows) (next : exec c s = .next t) : t.Follows := by
  cases request : requestOf c with
  | none => exact fs.event request next
  | some r =>
    rw [exec_request s request] at next
    exact of_done (fs.arrive fun u fu => fu.takeRequest c) next

end State.Follows

/-- Settles O60: the outputs that follow are kept by every command. -/
theorem outputsFollowTheirOwners : Obligations.OutputsFollowTheirOwners := by
  intro s t sized commanded driven next
  have fs : s.Follows := s.follows_iff.2 ⟨sized.outputs, commanded, driven⟩
  have ft : t.Follows := by
    unfold step at next
    split at next
    · cases next; exact fs
    · next rest _ =>
      have waiting : State.Follows { s with pending := rest } := fs
      exact waiting.exec next
  exact (t.follows_iff.1 ft).2

end Sys2Proof.Machine
end

section
/-! What follows a step's work: the arbitration it calls for, the drain evaluation, the recording of an edge and the serving
of the transmitters leave the work as it stands (R123, R142, R166, R199). -/

namespace Sys2Proof.Machine

variable {s t u w : State}

/-! ### What the end of a step leaves -/

/-- `t` is `w` after the end of a step in which no arbitration ran: every block is as it was, but for the device mode, the
latched event flags and the ports, whose notices are kept. -/
structure State.Settles (w t : State) : Prop where
  heads    : t.heads = w.heads
  channels : t.channels = w.channels
  scanner  : t.scanner = w.scanner
  advices  : t.advices = w.advices
  judge    : t.judge = w.judge
  log      : t.log = w.log
  rack     : t.rack = w.rack
  lift     : t.lift = w.lift
  outputs  : t.outputs = w.outputs
  clock    : t.clock = w.clock
  alarm    : t.alarm = w.alarm
  service  : t.service = w.service
  lines    : ∀ n, (t.input n).debounced = (w.input n).debounced
  watch    : t.link.count = w.link.count ∧ t.link.unit = w.link.unit ∧ t.link.policy = w.link.policy ∧
    t.link.lost = w.link.lost ∧ t.link.timer = w.link.timer
  notices  : ∀ p, ∀ m ∈ (w.port p).notices, m ∈ (t.port p).notices

namespace State.Settles

theorem refl (s : State) : s.Settles s :=
  ⟨rfl, rfl, rfl, rfl, rfl, rfl, rfl, rfl, rfl, rfl, rfl, rfl, fun _ => rfl, ⟨rfl, rfl, rfl, rfl, rfl⟩, fun _ _ mem => mem⟩

theorem trans (a : u.Settles w) (b : w.Settles t) : u.Settles t where
  heads := b.heads.trans a.heads
  channels := b.channels.trans a.channels
  scanner := b.scanner.trans a.scanner
  advices := b.advices.trans a.advices
  judge := b.judge.trans a.judge
  log := b.log.trans a.log
  rack := b.rack.trans a.rack
  lift := b.lift.trans a.lift
  outputs := b.outputs.trans a.outputs
  clock := b.clock.trans a.clock
  alarm := b.alarm.trans a.alarm
  service := b.service.trans a.service
  lines n := (b.lines n).trans (a.lines n)
  watch :=
    let ⟨count, unit, policy, lost, timer⟩ := a.watch
    let ⟨count', unit', policy', lost', timer'⟩ := b.watch
    ⟨count'.trans count, unit'.trans unit, policy'.trans policy, lost'.trans lost, timer'.trans timer⟩
  notices p m mem := b.notices p m (a.notices p m mem)

theorem head (a : w.Settles t) (h : HeadId) : t.head h = w.head h := by rw [State.head, a.heads, State.head]

theorem channel (a : w.Settles t) (h : HeadId) : t.channel h = w.channel h := by
  rw [State.channel, a.channels, State.channel]

theorem output (a : w.Settles t) (n : Nat) : t.output n = w.output n := by rw [State.output, a.outputs, State.output]

theorem active (a : w.Settles t) (n : Nat) : t.active n = w.active n := by
  rw [State.active, InputLine.level, a.lines, State.active, InputLine.level]

/-- A notice of the branch link is kept. -/
theorem branch (a : w.Settles t) {m : Notice} (mem : m ∈ w.link.branch.notices) : m ∈ t.link.branch.notices :=
  a.notices .branch m mem

/-- A notice of the service port is kept. -/
theorem service_notice (a : w.Settles t) {m : Notice} (mem : m ∈ w.link.service.notices) : m ∈ t.link.service.notices :=
  a.notices .service m mem

/-- A change of the notices alone. -/
theorem notify (n : Notice) (w : State) : w.Settles (notify n w) where
  heads := by simp
  channels := by simp
  scanner := by simp
  advices := by simp
  judge := by simp
  log := by simp
  rack := by simp
  lift := by simp
  outputs := by simp
  clock := by simp
  alarm := by simp
  service := by simp
  lines _ := by simp
  watch := by simp
  notices p m mem := mem_notices_notify w p n m mem

theorem pump (w : State) : w.Settles (pump w) where
  heads := by simp
  channels := by simp
  scanner := by simp
  advices := by simp
  judge := by simp
  log := by simp
  rack := by simp
  lift := by simp
  outputs := by simp
  clock := by simp
  alarm := by simp
  service := by simp
  lines _ := by simp
  watch := by simp
  notices p m mem := by simpa using mem

/-- A change of mode, with its notice (R138). -/
theorem changeMode (m : Mode) (source : ModeSource) (w : State) : w.Settles (changeMode m source w) :=
  .trans (w := { w with release := { w.release with mode := m } })
    ⟨rfl, rfl, rfl, rfl, rfl, rfl, rfl, rfl, rfl, rfl, rfl, rfl, fun _ => rfl, ⟨rfl, rfl, rfl, rfl, rfl⟩,
      fun p _ mem => by cases p <;> exact mem⟩ (notify _ _)

theorem evaluateDrain (w : State) : w.Settles (evaluateDrain w) := by
  unfold Machine.evaluateDrain
  split
  · split
    · exact changeMode ..
    · exact refl w
  all_goals exact refl w

theorem settleDrain (s w : State) : w.Settles (settleDrain s w) := by
  unfold Machine.settleDrain
  split
  · exact evaluateDrain w
  · exact refl w

/-- A line that keeps its debounced level. -/
theorem setInput (w : State) (n : Nat) {v : InputLine} (same : v.debounced = (w.input n).debounced) :
    w.Settles (w.setInput n v) where
  heads := rfl
  channels := rfl
  scanner := rfl
  advices := rfl
  judge := rfl
  log := rfl
  rack := rfl
  lift := rfl
  outputs := rfl
  clock := rfl
  alarm := rfl
  service := rfl
  lines m := by
    rcases eq_or_ne m n with rfl | ne
    · by_cases lt : m < w.inputs.length
      · rw [State.setInput_input _ _ lt, same]
      · rw [State.setInput, List.set_eq_of_length_le (by omega)]
    · rw [State.setInput_input_of_ne _ _ ne]
  watch := ⟨rfl, rfl, rfl, rfl, rfl⟩
  notices p _ mem := by cases p <;> exact mem

/-- The recording of an edge sets an event flag and may send a notice (R166). -/
theorem recordEdge (n : Nat) (activation : Bool) (w : State) : w.Settles (recordEdge n activation w) := by
  simp only [Machine.recordEdge]
  split
  · split
    · exact .trans (setInput w n (v := { w.input n with event := true }) rfl) (notify _ _)
    · exact setInput w n (v := { w.input n with event := true }) rfl
  · exact refl w

/-- The reply made ready, and the transmitters served. -/
theorem replied (r : Req) (rep : Reply) (w : State) : w.Settles (w.replied r rep) := by
  refine .trans (w := w.setPort r.port { w.port r.port with reply := some rep }) ?_ (pump _)
  exact ⟨by simp, by simp, by simp, by simp, by simp, by simp, by simp, by simp, by simp, by simp, by simp, by simp, by simp,
    by simp, fun p m mem => by
      rcases eq_or_ne p r.port with rfl | ne
      · simpa using mem
      · rwa [State.setPort_port_of_ne _ _ ne]⟩

end State.Settles

/-! ### Work after which no arbitration runs -/

/-- No arbitration follows: the work filled no staging queue, or left the lift busy (R123). -/
def State.Undisturbed (s w : State) : Prop :=
  (∀ h, (w.head h).staging = (s.head h).staging) ∨ w.lift.state ≠ .idle

theorem arbitrateIfFilled_of_undisturbed (quiet : s.Undisturbed w) : arbitrateIfFilled s w = w := by
  rcases quiet with same | busy
  · exact arbitrateIfFilled_of_staging s w same
  · unfold arbitrateIfFilled
    split
    · exact arbitrate_of_busy w busy
    · rfl

theorem State.Undisturbed.settles (quiet : s.Undisturbed w) (a : w.Settles u) : s.Undisturbed u := by
  rcases quiet with same | busy
  · exact .inl fun h => by rw [a.head, same]
  · exact .inr (by rwa [a.lift])

/-- A settled step leaves its work as it stands, where no arbitration follows it. -/
theorem settles_settled (f : State → State) (quiet : s.Undisturbed (f s)) : (f s).Settles (settled f s) := by
  rw [settled, withArbitration, arbitrateIfFilled_of_undisturbed quiet]
  exact .settleDrain ..

/-- Only what the work makes of the state counts. -/
theorem settled_congr {f g : State → State} (same : f s = g s) : settled f s = settled g s := by
  simp only [settled, withArbitration, same]

/-- A settled step with its transmitters served. -/
theorem done_settled (f : State → State) (quiet : s.Undisturbed (f s)) :
    ∃ t, done (settled f s) = .next t ∧ (f s).Settles t :=
  ⟨_, rfl, (settles_settled f quiet).trans (.pump _)⟩

/-! ### Edges of the lines -/

/-- The state in which the debounced level of a line has taken its raw level, before its owner is told (R163). -/
def State.lineTaken (s : State) (n : Nat) : State :=
  s.setInput n { s.input n with debounced := some (s.input n).raw, timer := none }

theorem State.lineTaken_active (sized : s.Sized) {n : Nat} (lt : n < 16) : (s.lineTaken n).active n = (s.input n).raw := by
  rw [State.lineTaken, State.active, State.setInput_input _ _ (by rw [sized.inputs]; exact lt)]
  rfl

theorem State.lineTaken_active_of_ne {n m : Nat} (ne : m ≠ n) : (s.lineTaken n).active m = s.active m := by
  rw [State.lineTaken, State.active, State.setInput_input_of_ne _ _ ne, State.active]

/-- The expiry of a debounce timer on an edge: the owner is told, and the step ends (R163, R165). -/
theorem exec_edge {n : Fin 16} {m : Nat} {a : Bool} (line : n.val = m) (debounced : (s.input n).debounced = some (!a))
    (raw : (s.input n).raw = a) (running : (s.input n).timer.isSome = true)
    (quiet : s.Undisturbed (signalEdge m a (s.lineTaken m))) :
    ∃ t, exec (.debounceTimerExpiry n) s = .next t ∧ (signalEdge m a (s.lineTaken m)).Settles t := by
  subst line raw
  have taken : debounceExpired n s = takeEdge n s := by
    have going : (s.input n).timer.isNone = false := by cases e : (s.input n).timer <;> simp_all
    simp [debounceExpired, debounced, going]
  have recorded : (signalEdge n (s.input n).raw (s.lineTaken n)).Settles (debounceExpired n s) := by
    rw [taken]
    exact .recordEdge ..
  obtain ⟨t, next, settles⟩ := done_settled (debounceExpired n) (quiet.settles recorded)
  exact ⟨t, next, recorded.trans settles⟩

/-- The owner and the role of each line of a head (R162). -/
theorem ownerHead_intakeShut (h : HeadId) : ownerHead (intakeShutLine h) = some h ∧ lineRole (intakeShutLine h) = 0 := by
  cases h <;> exact ⟨rfl, rfl⟩

theorem ownerHead_chuteBeam (h : HeadId) : ownerHead (chuteBeamLine h) = some h ∧ lineRole (chuteBeamLine h) = 1 := by
  cases h <;> exact ⟨rfl, rfl⟩

theorem ownerHead_cradle (h : HeadId) : ownerHead (cradleLine h) = some h ∧ lineRole (cradleLine h) = 2 := by
  cases h <;> exact ⟨rfl, rfl⟩

theorem ownerHead_gateShut (h : HeadId) : ownerHead (gateShutLine h) = some h ∧ lineRole (gateShutLine h) = 3 := by
  cases h <;> exact ⟨rfl, rfl⟩

theorem signalEdge_chuteBeam (h : HeadId) : signalEdge (chuteBeamLine h) true s = chuteBeam h s := by
  obtain ⟨owner, role⟩ := ownerHead_chuteBeam h
  simp [signalEdge, owner, role, headEdge, channelSeesCradle]

theorem signalEdge_cradle (h : HeadId) :
    signalEdge (cradleLine h) true s = cradleActivated h (updateChannel h Channel.cradleSeen s) := by
  obtain ⟨owner, role⟩ := ownerHead_cradle h
  simp [signalEdge, owner, role, headEdge, channelSeesCradle]

theorem signalEdge_cradle_off (h : HeadId) : signalEdge (cradleLine h) false s = cradleDeactivated h s := by
  obtain ⟨owner, role⟩ := ownerHead_cradle h
  simp [signalEdge, owner, role, headEdge, channelSeesCradle]

theorem signalEdge_gateShut (h : HeadId) : signalEdge (gateShutLine h) true s = gateShut h s := by
  obtain ⟨owner, role⟩ := ownerHead_gateShut h
  simp [signalEdge, owner, role, headEdge, channelSeesCradle]

theorem signalEdge_tamper : signalEdge tamperLine true s = tamperActivated s := rfl

/-! ### Heads that command their outputs -/

/-- Head `h` commands its four outputs by its state (R2). -/
structure State.Commands (s : State) (h : HeadId) : Prop where
  flap   : (s.output (flapReleaseOutput h)).owner = (s.head h).flap
  gate   : (s.output (gateOpenOutput h)).owner = (s.head h).gate
  lamp   : (s.output (intakeLampOutput h)).owner = (s.head h).lamp
  reader : (s.output (readerOnOutput h)).owner = (s.head h).reader

namespace State.Commands

theorem of_same {h : HeadId} (c : s.Commands h) (head : t.head h = s.head h) (outputs : t.outputs = s.outputs) :
    t.Commands h := by
  have same : ∀ n, t.output n = s.output n := fun n => by rw [State.output, outputs, State.output]
  exact ⟨by rw [same, head]; exact c.flap, by rw [same, head]; exact c.gate, by rw [same, head]; exact c.lamp,
    by rw [same, head]; exact c.reader⟩

/-- What other heads and the alarm do to their outputs. -/
theorem of_outputs {h : HeadId} (c : s.Commands h) (head : t.head h = s.head h)
    (outputs : ∀ n, n / 4 = headIndex h → t.output n = s.output n) : t.Commands h where
  flap := by rw [outputs _ (by simp [flapReleaseOutput]), head]; exact c.flap
  gate := by rw [outputs _ (by simp only [gateOpenOutput]; omega), head]; exact c.gate
  lamp := by rw [outputs _ (by simp only [intakeLampOutput]; omega), head]; exact c.lamp
  reader := by rw [outputs _ (by simp only [readerOnOutput]; omega), head]; exact c.reader

theorem settles {h : HeadId} (c : s.Commands h) (a : s.Settles t) : t.Commands h := c.of_same (a.head h) a.outputs

end State.Commands

theorem updateHead_commands (sized : s.outputs.length = 15) (h : HeadId) (f : Head → Head) : (updateHead h f s).Commands h := by
  obtain ⟨flap, gate, lamp, reader⟩ := driveHead_output (s.setHead h (f (s.head h))) h (by simpa using sized)
  exact ⟨by rw [updateHead, flap]; simp, by rw [updateHead, gate]; simp, by rw [updateHead, lamp]; simp,
    by rw [updateHead, reader]; simp⟩

@[simp] theorem moveHead_outputs (h : HeadId) (f : Head → Head) (s : State) :
    (moveHead h f s).outputs = (updateHead h f s).outputs := by
  simp only [moveHead]
  split <;> simp

@[simp] theorem moveHead_outputs_length (h : HeadId) (f : Head → Head) (s : State) :
    (moveHead h f s).outputs.length = s.outputs.length := by simp

theorem moveHead_commands (sized : s.outputs.length = 15) (h : HeadId) (f : Head → Head) : (moveHead h f s).Commands h :=
  (updateHead_commands sized h f).of_same (by simp) (by simp)

end Sys2Proof.Machine
end

section
/-! The state after a cold start meets every law of the device (R2, R53, R91, R115, R120, R138, R148, R157, R171, R200). -/

namespace Sys2Proof.Machine

variable (levels : BitVec 16) (free : Nat) (pending : List Instr)

@[simp] theorem State.cold_head (h : HeadId) : (State.cold levels free pending).head h = .cold := by cases h <;> rfl

theorem State.cold_sized : (State.cold levels free pending).Sized :=
  ⟨by simp [State.cold], rfl, rfl, rfl, rfl, rfl, rfl, rfl, rfl, rfl⟩

theorem Link.cold_bounded : Link.cold.Bounded :=
  ⟨⟨by decide, by decide⟩, ⟨by decide, by decide⟩⟩

/-- A head after a cold start holds neither a reservation nor a bag. -/
theorem Head.cold_reserving : Head.cold.Reserving :=
  ⟨nofun, nofun, nofun, nofun, fun _ _ => rfl, nofun⟩

theorem State.cold_logLaw : (State.cold levels free pending).LogLaw :=
  ⟨rfl, Nat.zero_le _, fun h => by rw [State.cold_head]; exact Head.cold_reserving⟩

theorem CustodyLog.cold_distinct : CustodyLog.cold.Distinct := ⟨.nil, nofun⟩

theorem State.cold_bags : (State.cold levels free pending).bags = [] := rfl

theorem State.cold_custodyLaw : (State.cold levels free pending).CustodyLaw where
  once := by rw [State.cold_bags]; exact .nil
  staged h := by rw [State.cold_head]; exact ⟨by decide, nofun⟩
  judged seq := by
    rw [State.cold_bags]
    simp [State.cold, CustodyLog.cold]
  lift := by simp [State.cold, CustodyLog.cold, Lift.cold, Lift.agrees]

/-- Every bin is LOCKED and empty after a cold start (R104). -/
theorem BinTable.cold_bin {b : Bin} (mem : b ∈ BinTable.cold.bins) : b.count = 0 ∧ b.mass = 0 ∧ b.lock = .locked := by
  rcases List.mem_append.mp mem with mem | mem <;> rw [List.eq_of_mem_replicate mem] <;> exact ⟨rfl, rfl, rfl⟩

theorem State.cold_rackLaw : (State.cold levels free pending).RackLaw where
  bins n b found := by
    obtain ⟨count, mass, _⟩ := BinTable.cold_bin (List.mem_of_getElem? found)
    exact ⟨count, mass, by omega, by omega⟩
  flight := nofun

theorem State.cold_dayLaw : (State.cold levels free pending).DayLaw := fun _ =>
  ⟨rfl, fun h => by rw [State.cold_head]; exact ⟨.inl rfl, rfl, rfl⟩⟩

theorem AdviceTable.lawful_nil : AdviceTable.Lawful ⟨[], []⟩ :=
  ⟨.nil, nofun, nofun, .nil, fun _ => ⟨nofun, fun ⟨_, mem, _⟩ => nomatch mem⟩⟩

/-- A rack whose bins are all LOCKED has no bin of another lock state. -/
theorem State.lock_of_all_locked {s : State} (all : ∀ b ∈ s.rack.bins, b.lock = .locked) {n : Nat} {l : LockState}
    (lock : s.lock n = some l) : l = .locked := by
  obtain ⟨b, found, rfl⟩ := Option.map_eq_some_iff.mp lock
  exact all b (List.mem_of_getElem? found)

theorem BinTable.openBins_of_all_locked {t : BinTable} (all : ∀ b ∈ t.bins, b.lock = .locked) : t.openBins = 0 :=
  List.countP_eq_zero.mpr fun b mem => by simp [all b mem, LockState.isOpen]

/-- With every bin LOCKED, nothing reserved, nothing unlocked and no record, the law of release holds. -/
theorem State.releaseLaw_of_all_locked {s : State} (all : ∀ b ∈ s.rack.bins, b.lock = .locked)
    (reservations : s.release.reservations = []) (unlocks : s.release.unlocks = []) (list : s.lift.unlockList = [])
    (records : s.log.records = []) : s.ReleaseLaw where
  reserved b := by
    rw [reservations]
    exact ⟨fun lock => (LockState.noConfusion (State.lock_of_all_locked all lock)), by simp⟩
  unlocking b := by
    rw [list]
    exact ⟨fun lock => (LockState.noConfusion (State.lock_of_all_locked all lock)), by simp⟩
  recorded b := by
    rw [unlocks]
    refine ⟨fun lock => ?_, by simp⟩
    obtain ⟨l, lock, isOpen⟩ := Option.map_eq_some_iff.mp lock
    rw [State.lock_of_all_locked all lock] at isOpen
    cases isOpen
  oneBin := by rw [reservations]; exact .nil
  oneOfficer := by rw [reservations]; exact .nil
  four := by rw [reservations]; exact Nat.zero_le _
  two := by
    rw [BinTable.openBins_of_all_locked all]
    omega
  dayOnly _ := ⟨reservations, BinTable.openBins_of_all_locked all⟩
  pair := by simp [unlocks]
  released := by simp [records]

/-- Settles O4: each law, of any state after a cold start. -/
theorem resetMeetsTheLaws : Obligations.ResetMeetsTheLaws := by
  obtain ⟨_, commanded, driven⟩ := (State.follows_iff _).mp (State.Follows.cold 0 0 [])
  exact ⟨State.cold_sized .., Link.cold_bounded, State.cold_logLaw .., CustodyLog.cold_distinct, State.cold_custodyLaw ..,
    State.cold_rackLaw .., State.cold_dayLaw 0 0 [], AdviceTable.lawful_nil, driven, commanded,
    State.releaseLaw_of_all_locked (fun _ mem => (BinTable.cold_bin mem).2.2) rfl rfl rfl rfl⟩

end Sys2Proof.Machine
end

section
/-! Notices gather: every operation keeps the notices that stand in their queues and the settings of the link watch, and adds
at most so many to the branch queue (R200, R201). -/

namespace Sys2Proof.Machine

variable {s t u : State}

/-- Between two states notices have only gathered, at most `n` of them on the branch link, and the link watch is as it was. -/
structure State.Raises (s : State) (n : Nat) (t : State) : Prop where
  watch  : t.link.count = s.link.count ∧ t.link.unit = s.link.unit ∧ t.link.policy = s.link.policy ∧
    t.link.lost = s.link.lost ∧ t.link.timer = s.link.timer
  kept   : ∀ p, ∀ m ∈ (s.port p).notices, m ∈ (t.port p).notices
  branch : t.link.branch.notices.length ≤ s.link.branch.notices.length + n

theorem Port.offer_notices_length_le (p : Port) (c : Nat) (m : Notice) :
    (p.offer c m).notices.length ≤ p.notices.length + 1 := by
  unfold Port.offer
  split <;> simp

namespace State.Raises

variable {n : Nat}

theorem refl (s : State) : s.Raises 0 s := ⟨⟨rfl, rfl, rfl, rfl, rfl⟩, fun _ _ mem => mem, Nat.le_refl _⟩

theorem trans {k : Nat} (a : s.Raises n t) (b : t.Raises k u) : s.Raises (n + k) u where
  watch :=
    let ⟨count, unit, policy, lost, timer⟩ := a.watch
    let ⟨count', unit', policy', lost', timer'⟩ := b.watch
    ⟨count'.trans count, unit'.trans unit, policy'.trans policy, lost'.trans lost, timer'.trans timer⟩
  kept p m mem := b.kept p m (a.kept p m mem)
  branch := by have first := a.branch; have second := b.branch; omega

theorem le {k : Nat} (a : s.Raises n t) (le : n ≤ k) : s.Raises k t :=
  ⟨a.watch, a.kept, Nat.le_trans a.branch (by omega)⟩

/-- Work that leaves the link interface alone. -/
theorem of_link (a : s.Raises n t) (same : u.link = t.link) : s.Raises n u :=
  ⟨by rw [same]; exact a.watch, fun p m mem => by
    have kept := a.kept p m mem
    cases p <;> simpa only [State.port, same] using kept, by rw [same]; exact a.branch⟩

theorem notify (m : Notice) (a : s.Raises n t) : s.Raises (n + 1) (notify m t) where
  watch := by simpa using a.watch
  kept p k mem := mem_notices_notify t p m k (a.kept p k mem)
  branch := by
    have before := a.branch
    have grown := Port.offer_notices_length_le t.link.branch (noticeCapacity .branch) m
    have port : (Machine.notify m t).link.branch = _ := notify_port t m .branch
    rw [port]
    split
    · exact Nat.le_trans grown (by omega)
    · exact Nat.le_trans before (by omega)

/-- CAL_DONE goes to the service port (R200). -/
theorem calDone (h : HeadId) (kind : CalName) (o : CalOutcome) (a : s.Raises n t) :
    s.Raises n (Machine.notify (.calDone h kind o) t) :=
  { a.notify (.calDone h kind o) with branch := a.branch }

/-- A notice of the branch link finds room, where those before it left some. -/
theorem mem_notify (a : s.Raises n t) {m : Notice} (port : m.port = .branch) (room : s.link.branch.notices.length + n < 32) :
    m ∈ (Machine.notify m t).link.branch.notices := by
  have before := a.branch
  have found : (Machine.notify m t).link.branch = _ := notify_port t m .branch
  rw [found, if_pos port.symm]
  exact Port.mem_offer _ _ _ (show t.link.branch.notices.length < 32 by omega)

/-- A notice that stands in the branch queue stays there. -/
theorem mem (a : s.Raises n t) {m : Notice} (mem : m ∈ s.link.branch.notices) : m ∈ t.link.branch.notices :=
  a.kept .branch m mem

theorem setHead (a : s.Raises n t) (h : HeadId) (v : Head) : s.Raises n (t.setHead h v) := a.of_link rfl

theorem updateHead (a : s.Raises n t) (h : HeadId) (f : Head → Head) : s.Raises n (updateHead h f t) := a.of_link (by simp)

theorem updateChannel (a : s.Raises n t) (h : HeadId) (f : Channel → Channel) : s.Raises n (updateChannel h f t) :=
  a.of_link (by simp)

theorem refreshIdle (a : s.Raises n t) (h : HeadId) : s.Raises n (refreshIdle h t) := a.of_link (by simp)

theorem abandonWeighing (a : s.Raises n t) (h : HeadId) : s.Raises n (abandonWeighing h t) := a.of_link (by simp)

theorem endUnwantedWarmUp (a : s.Raises n t) (h : HeadId) : s.Raises n (endUnwantedWarmUp h t) := a.of_link (by simp)

theorem reportAlarm (a : s.Raises n t) (c : AlarmCause) : s.Raises n (reportAlarm c t) := a.of_link (by simp)

theorem updateHeadStats (a : s.Raises n t) (h : HeadId) (f : HeadStats → HeadStats) :
    s.Raises n (updateHeadStats h f t) := a.of_link (by simp)

theorem giveBack (a : s.Raises n t) (h : HeadId) : s.Raises n (giveBack h t) := a.of_link (by simp)

theorem stopStep (a : s.Raises n t) : s.Raises n (stopStep t) := by
  simp only [Machine.stopStep]
  split
  · exact a
  · refine refreshIdle ?_ _
    repeat' split
    · refine updateChannel (calDone _ _ _ ?_) _ _
      exact a.of_link (by simp)
    · refine calDone _ _ _ ?_
      exact a.of_link (by simp)
    · refine updateChannel (calDone _ _ _ ?_) _ _
      exact a.of_link rfl
    · refine calDone _ _ _ ?_
      exact a.of_link rfl

theorem moveHead (a : s.Raises n t) (h : HeadId) (f : Head → Head) : s.Raises n (moveHead h f t) := by
  simp only [Machine.moveHead]
  split
  · exact ((a.updateHead h f).stopStep).refreshIdle h
  · exact (a.updateHead h f).refreshIdle h

theorem askWarm (a : s.Raises n t) (h : HeadId) : s.Raises n (askWarm h t) := by
  simp only [Machine.askWarm]
  split
  · exact a.updateChannel ..
  · exact a
  · exact a
  · split
    · split
      · exact (a.abandonWeighing h).stopStep
      · exact a.abandonWeighing h
    · exact a

theorem lowWaterFall (a : s.Raises n t) : s.Raises (n + 1) (lowWaterFall t) := by
  unfold Machine.lowWaterFall
  split
  · refine notify _ ?_
    exact a.of_link rfl
  · exact a.le (by omega)

theorem takeReservation (a : s.Raises n t) {h : HeadId} (taken : takeReservation h t = some u) : s.Raises (n + 1) u := by
  simp only [Machine.takeReservation] at taken
  split at taken
  · cases taken
  · cases taken
    refine lowWaterFall ?_
    exact a.of_link rfl

theorem closeHead (a : s.Raises n t) (h : HeadId) (cause : ClosedCause) : s.Raises (n + 1) (closeHead h cause t) :=
  (((a.notify _).moveHead _ _).endUnwantedWarmUp _)

theorem closeReady (a : s.Raises n t) (h : HeadId) (cause : CloseCause) : s.Raises (n + 1) (closeReady h cause t) :=
  (a.giveBack h).closeHead h _

theorem receiveClose (a : s.Raises n t) (h : HeadId) (c : CloseCause) : s.Raises (n + 1) (receiveClose h c t) := by
  simp only [Machine.receiveClose]
  split
  · exact a.le (by omega)
  · split
    · split
      · exact (a.updateHead ..).closeReady ..
      · exact (a.updateHead ..).le (by omega)
    · exact (a.updateHead ..).closeHead ..
    · exact (a.updateHead ..).le (by omega)

theorem closeAll (a : s.Raises n t) (c : CloseCause) : s.Raises (n + 3) (closeAll c t) :=
  ((a.receiveClose .a c).receiveClose .b c).receiveClose .c c

theorem receiveIfReady (a : s.Raises n t) (h : HeadId) :
    s.Raises (n + 1) (if (t.head h).state = .ready then Machine.receiveClose h .logFull t else t) := by
  split
  · exact a.receiveClose ..
  · exact a.le (by omega)

theorem logFullSignal (a : s.Raises n t) : s.Raises (n + 3) (logFullSignal t) :=
  ((a.receiveIfReady .a).receiveIfReady .b).receiveIfReady .c

theorem signalIfFull (a : s.Raises n t) : s.Raises (n + 3) (signalIfFull t) := by
  simp only [Machine.signalIfFull]
  split
  · exact a.logFullSignal
  · exact a.le (by omega)

theorem enterFault (a : s.Raises n t) (h : HeadId) (cause : HeadFaultCause) : s.Raises (n + 1) (enterFault h cause t) := by
  simp only [Machine.enterFault]
  refine ((notify _ ?_).reportAlarm _).updateHeadStats _ _
  split
  · exact (a.moveHead ..).abandonWeighing _
  · exact a.moveHead ..

end State.Raises

/-- HEAD_FAULT is sent where its queue has room (R23). -/
theorem enterFault_sends (h : HeadId) (cause : HeadFaultCause) (room : s.link.branch.notices.length < 32) :
    Notice.headFault h cause ∈ (enterFault h cause s).link.branch.notices := by
  simp only [enterFault]
  split
  · exact (((State.Raises.refl _).reportAlarm _).updateHeadStats _ _).mem
      ((((State.Raises.refl s).moveHead ..).abandonWeighing _).mem_notify rfl (by omega))
  · exact (((State.Raises.refl _).reportAlarm _).updateHeadStats _ _).mem
      (((State.Raises.refl s).moveHead ..).mem_notify rfl (by omega))

end Sys2Proof.Machine
end

section
/-! TAMPER, the link watch, the tag window, the readback check, the beam and the landing: what each does to the heads (R2, R7,
R9, R10, R11, R19, R36, R169, R172, R177, R201). -/

namespace Sys2Proof.Machine

variable {s t : State}

/-! ### Close pending, by the state it finds -/

section
variable {h : HeadId} (c : CloseCause)

theorem receiveClose_head_of_closed (closed : (s.head h).state = .closed) : (receiveClose h c s).head h = s.head h := by
  rw [receiveClose_head, closed]

theorem receiveClose_head_of_warming (warming : (s.head h).state = .warming) :
    (receiveClose h c s).head h = { s.head h with state := .closed, closePending := none } := by
  rw [receiveClose_head, warming]

theorem receiveClose_head_of_shut (ready : (s.head h).state = .ready) (shut : s.active (intakeShutLine h) = true) :
    (receiveClose h c s).head h = { s.head h with state := .closed, closePending := none, reservation := false } := by
  rw [receiveClose_head, ready, shut]
  rfl

/-- Every other head keeps the flag, with an earlier cause kept (R19). -/
theorem receiveClose_head_of_kept (closed : (s.head h).state ≠ .closed) (warming : (s.head h).state ≠ .warming)
    (shut : ¬((s.head h).state = .ready ∧ s.active (intakeShutLine h) = true)) :
    (receiveClose h c s).head h = { s.head h with closePending := some ((s.head h).closePending.getD c) } := by
  rw [receiveClose_head]
  split
  · exact absurd ‹_› closed
  · exact absurd ‹_› warming
  · next ready =>
    rw [if_neg fun active => shut ⟨ready, active⟩]
  · rfl

/-- Close pending leaves the staging queue as it is. -/
theorem receiveClose_staging (k : HeadId) : ((receiveClose h c s).head k).staging = (s.head k).staging := by
  rcases eq_or_ne k h with rfl | ne
  · rw [receiveClose_head]
    split <;> try rfl
    split <;> rfl
  · rw [receiveClose_head_of_ne _ _ ne]

theorem closeAll_staging (k : HeadId) : ((closeAll c s).head k).staging = (s.head k).staging := by
  rw [closeAll_head, receiveClose_staging]
end

/-- Close pending makes and loses no record. -/
theorem receiveClose_records (c : CloseCause) (h : HeadId) : (receiveClose h c s).log.records = s.log.records := by
  simp only [receiveClose, closeReady, closeHead]
  repeat' split
  all_goals simp

theorem closeAll_records (c : CloseCause) : (closeAll c s).log.records = s.log.records := by
  simp [closeAll, HeadId.all, receiveClose_records]

/-- What close pending makes of a head, case by case, where the state it reaches has the head and the line of `s` (R19, R20,
R21). -/
theorem received_cases {w : State} {h : HeadId} {c : CloseCause} {v : Head} (head : w.head h = s.head h)
    (line : w.active (intakeShutLine h) = s.active (intakeShutLine h)) (got : v = (receiveClose h c w).head h) :
    ((s.head h).state = .closed → v = s.head h) ∧
      ((s.head h).state = .warming → v.state = .closed ∧ v.closePending = none) ∧
      ((s.head h).state = .ready → s.active (intakeShutLine h) = true →
        v.state = .closed ∧ v.closePending = none ∧ v.reservation = false) ∧
      ((s.head h).state ≠ .closed → (s.head h).state ≠ .warming →
        ¬((s.head h).state = .ready ∧ s.active (intakeShutLine h) = true) →
        v = { s.head h with closePending := some ((s.head h).closePending.getD c) }) := by
  subst got
  rw [← head, ← line]
  refine ⟨fun closed => receiveClose_head_of_closed c closed, fun warming => ?_, fun ready shut => ?_,
    fun closed warming shut => receiveClose_head_of_kept c closed warming shut⟩
  · rw [receiveClose_head_of_warming c warming]
    exact ⟨rfl, rfl⟩
  · rw [receiveClose_head_of_shut c ready shut]
    exact ⟨rfl, rfl, rfl⟩

theorem tamperActivated_head (h : HeadId) :
    (tamperActivated s).head h = (receiveClose h .tamper (reportAlarm .tamper s)).head h := closeAll_head ..

/-- Settles O6: `closeAll` reaches every head, and nothing follows it that moves one. -/
theorem tamperClosesTheHeads : Obligations.TamperClosesTheHeads := by
  intro s sized debounced raw running
  have quiet : s.Undisturbed (signalEdge tamperLine true (s.lineTaken tamperLine)) :=
    .inl fun h => by simp [signalEdge_tamper, tamperActivated_head, receiveClose_staging, State.lineTaken]
  obtain ⟨t, next, settles⟩ := exec_edge (n := 13) (a := true) rfl debounced raw running quiet
  have work : signalEdge ((13 : Fin 16) : Nat) true (s.lineTaken ((13 : Fin 16) : Nat)) =
      tamperActivated (s.lineTaken tamperLine) := rfl
  rw [work] at settles
  refine ⟨t, next, ?_, ?_, fun h => received_cases (w := reportAlarm .tamper (s.lineTaken tamperLine)) (by simp [State.lineTaken])
    ?_ ((settles.head h).trans (tamperActivated_head h))⟩
  · rw [settles.active, show (13 : Nat) = tamperLine from rfl]
    simpa [tamperActivated, raw] using (State.lineTaken_active sized (n := tamperLine) (by decide)).trans raw
  · rw [settles.alarm]
    simpa [tamperActivated, causeSet] using reportAlarm_latched (s.lineTaken tamperLine) .tamper
  · simpa using State.lineTaken_active_of_ne (by cases h <;> decide)

/-- Settles O32: the expiry is `closeAll` with policy CLOSE, and touches no head with ADMIT. -/
theorem watchExpiryLosesTheLink : Obligations.WatchExpiryLosesTheLink := by
  intro s up running
  let down : State := { s with link := { s.link with lost := true, timer := none } }
  let lost : State := reportAlarm .linkLost down
  have head : ∀ h, lost.head h = s.head h := fun h => by simp [lost, down, State.head]
  have active : ∀ n, lost.active n = s.active n := fun n => by simp [lost, down, State.active, State.input]
  have link : lost.link = down.link := by simp [lost]
  have latched : lost.alarm.latched.linkLost = true := reportAlarm_latched down .linkLost
  have begun : watchExpired s = match lost.link.policy with
      | .close => closeAll .linkLost lost
      | .keepOpen => lost := if_pos ⟨up, running⟩
  rw [link] at begun
  cases policy : s.link.policy with
  | keepOpen =>
    have work : watchExpired s = lost := by rw [begun]; simp [down, policy]
    obtain ⟨t, next, settles⟩ := done_settled watchExpired (.inl fun h => by rw [work, head])
    rw [work] at settles
    obtain ⟨count, unit, kept, gone, timer⟩ := settles.watch
    rw [link] at count unit kept gone timer
    refine ⟨t, next, gone, timer, by rw [settles.alarm]; exact latched, count, unit, ?_, ?_, fun _ => ⟨?_, ?_⟩, nofun⟩
    · rw [kept]; exact policy
    · rw [settles.log]; simp [lost, down]
    · rw [settles.heads]; simp [lost, down]
    · rw [settles.log]; simp [lost, down]
  | close =>
    have work : watchExpired s = closeAll .linkLost lost := by rw [begun]; simp [down, policy]
    obtain ⟨t, next, settles⟩ := done_settled watchExpired (.inl fun h => by rw [work, closeAll_staging, head])
    rw [work] at settles
    obtain ⟨count, unit, kept, gone, timer⟩ := settles.watch
    obtain ⟨count', unit', kept', gone', timer'⟩ := ((State.Raises.refl lost).closeAll .linkLost).watch
    rw [link] at count' unit' kept' gone' timer'
    refine ⟨t, next, gone.trans gone', timer.trans timer', ?_, count.trans count', unit.trans unit', ?_, ?_, nofun,
      fun _ h => received_cases (head h) (active _) ((settles.head h).trans (closeAll_head ..))⟩
    · rw [settles.alarm]; simpa using latched
    · rw [kept, kept']; exact policy
    · rw [settles.log, closeAll_records]; simp [lost, down]

end Sys2Proof.Machine
end

section
/-! What an arbitration can do: fit checks that find room nowhere, and at most one grant (R112, R122 to R126). -/

namespace Sys2Proof.Machine

variable {s t u : State}

/-- `t` is `s` after fit checks, at most `n` of which found room nowhere for the first time: only the rack-full flag and its
notice may be new (R112). -/
structure State.Checked (s : State) (n : Nat) (t : State) : Prop where
  heads    : t.heads = s.heads
  channels : t.channels = s.channels
  scanner  : t.scanner = s.scanner
  advices  : t.advices = s.advices
  judge    : t.judge = s.judge
  log      : t.log = s.log
  rack     : t.rack = { s.rack with rackFull := t.rack.rackFull }
  lift     : t.lift = s.lift
  release  : t.release = s.release
  inputs   : t.inputs = s.inputs
  outputs  : t.outputs = s.outputs
  clock    : t.clock = s.clock
  alarm    : t.alarm = s.alarm
  service  : t.service = s.service
  raises   : s.Raises n t

namespace State.Checked

variable {n k : Nat}

theorem refl (s : State) : s.Checked 0 s :=
  ⟨rfl, rfl, rfl, rfl, rfl, rfl, rfl, rfl, rfl, rfl, rfl, rfl, rfl, rfl, .refl s⟩

theorem trans (a : s.Checked n t) (b : t.Checked k u) : s.Checked (n + k) u where
  heads := b.heads.trans a.heads
  channels := b.channels.trans a.channels
  scanner := b.scanner.trans a.scanner
  advices := b.advices.trans a.advices
  judge := b.judge.trans a.judge
  log := b.log.trans a.log
  rack := by rw [b.rack, a.rack]
  lift := b.lift.trans a.lift
  release := b.release.trans a.release
  inputs := b.inputs.trans a.inputs
  outputs := b.outputs.trans a.outputs
  clock := b.clock.trans a.clock
  alarm := b.alarm.trans a.alarm
  service := b.service.trans a.service
  raises := a.raises.trans b.raises

theorem le (a : s.Checked n t) (le : n ≤ k) : s.Checked k t := { a with raises := a.raises.le le }

theorem head (a : s.Checked n t) (h : HeadId) : t.head h = s.head h := by rw [State.head, a.heads, State.head]

theorem record (a : s.Checked n t) (q : Nat) : t.record q = s.record q := by rw [State.record, a.log, State.record]

theorem front (a : s.Checked n t) (h : HeadId) : t.front h = s.front h := by
  unfold State.front
  simp only [a.head, a.record]

theorem zoneOf (a : s.Checked n t) (r : Record) : t.zoneOf r = s.zoneOf r := by
  rw [State.zoneOf, a.rack, a.advices, State.zoneOf]

theorem fitOf (a : s.Checked n t) (r : Record) : t.fitOf r = s.fitOf r := by
  rw [State.fitOf, a.zoneOf, a.rack]
  rfl

theorem rackFullCheck (h : HeadId) (r : Record) (s : State) : s.Checked 1 (rackFullCheck h r s) where
  heads := by simp
  channels := by simp
  scanner := by simp
  advices := by simp
  judge := by simp
  log := by simp
  rack := by
    unfold Machine.rackFullCheck
    split <;> simp
  lift := by simp
  release := by simp
  inputs := by simp
  outputs := by simp
  clock := by simp
  alarm := by simp
  service := by simp
  raises := by
    unfold Machine.rackFullCheck
    split
    · exact (State.Raises.refl s).le (by omega)
    · refine .notify (n := 0) _ ?_
      exact (State.Raises.refl s).of_link rfl

end State.Checked

/-- What the consideration of a head finds: no bag, a bin for its front record, or room nowhere (R112, R122). -/
theorem consider_cases (h : HeadId) (s : State) :
    (s.front h = none ∧ consider h s = (none, s)) ∨
      (∃ r b o, s.front h = some r ∧ s.fitOf r = (if o = true then .overflow b else .first b) ∧
        consider h s = (some (r, b, o), s)) ∨
      (∃ r, s.front h = some r ∧ s.fitOf r = .nowhere ∧ consider h s = (none, rackFullCheck h r s)) := by
  unfold consider
  cases front : s.front h with
  | none => exact .inl ⟨rfl, rfl⟩
  | some r =>
    cases fit : s.fitOf r with
    | first b => exact .inr (.inl ⟨r, b, false, rfl, by simpa using fit, by simp [fit]⟩)
    | overflow b => exact .inr (.inl ⟨r, b, true, rfl, by simpa using fit, by simp [fit]⟩)
    | nowhere => exact .inr (.inr ⟨r, rfl, fit, by simp [fit]⟩)

/-- The choice that an arbitration of the list may make: its head has the record at its front, and the record fits the bin. -/
structure State.Eligible (s : State) (l : List HeadId) (c : HeadId × Record × Nat × Bool) : Prop where
  listed : c.1 ∈ l
  front  : s.front c.1 = some c.2.1
  fit    : s.fitOf c.2.1 = (if c.2.2.2 = true then .overflow c.2.2.1 else .first c.2.2.1)

/-- The first eligible head of a list is eligible, and nothing but fit checks came before it. -/
theorem firstEligible_spec (l : List HeadId) (s : State) :
    s.Checked l.length (firstEligible l s).2 ∧ ∀ c, (firstEligible l s).1 = some c → s.Eligible l c := by
  induction l generalizing s with
  | nil =>
    refine ⟨.refl s, fun c same => ?_⟩
    simp [firstEligible] at same
  | cons h rest ih =>
    simp only [firstEligible]
    rcases consider_cases h s with ⟨_, found⟩ | ⟨r, b, o, front, fit, found⟩ | ⟨r, _, _, found⟩ <;> simp only [found]
    · obtain ⟨checked, eligible⟩ := ih s
      refine ⟨checked.le (Nat.le_succ _), fun c same => ?_⟩
      have chosen := eligible c same
      exact ⟨.tail _ chosen.listed, chosen.front, chosen.fit⟩
    · refine ⟨(State.Checked.refl s).le (Nat.zero_le _), fun c same => ?_⟩
      cases same
      exact ⟨.head _, front, fit⟩
    · have first := State.Checked.rackFullCheck h r s
      obtain ⟨checked, eligible⟩ := ih (rackFullCheck h r s)
      refine ⟨(first.trans checked).le (by simp; omega), fun c same => ?_⟩
      have chosen := eligible c same
      exact ⟨.tail _ chosen.listed, by rw [← first.front]; exact chosen.front, by rw [← first.fitOf]; exact chosen.fit⟩

/-- What an arbitration can do: nothing but fit checks, or, with the lift IDLE, one grant after them (R122, R123). -/
inductive Arbitrated (s : State) : State → Prop
  | checked {u : State} (checked : s.Checked 3 u) : Arbitrated s u
  | granted {u : State} {h : HeadId} {r : Record} {b : Nat} {o : Bool} (n : Nat) (idle : s.lift.state = .idle)
      (checked : s.Checked 3 u) (front : s.front h = some r)
      (fit : s.fitOf r = (if o = true then .overflow b else .first b)) : Arbitrated s (grant h r b o n u)

/-- What is granted after fit checks is what an arbitration can do. -/
theorem Arbitrated.chosen {w : State} {k n : Nat} {l : List HeadId} (idle : s.lift.state = .idle) (before : s.Checked k w)
    (few : k + l.length ≤ 3) : Arbitrated s (grantChosen n (firstEligible l w)) := by
  obtain ⟨checked, eligible⟩ := firstEligible_spec l w
  have all := (before.trans checked).le few
  generalize firstEligible l w = found at *
  match found with
  | (none, u) => exact .checked all
  | (some (h, r, b, o), u) =>
    have chosen := eligible _ rfl
    exact .granted n idle all ((before.front h).symm.trans chosen.front) ((before.fitOf r).symm.trans chosen.fit)

theorem alternateOrder_length (last : HeadId) : (alternateOrder last).length = 3 := by cases last <;> rfl

/-- In RUN order the last-granted head is asked first, and the other two only where it is not eligible (R125). -/
theorem arbitrated (s : State) : Arbitrated s (arbitrate s) := by
  have whole : ∀ n, s.lift.state = .idle → Arbitrated s (grantChosen n (firstEligible (alternateOrder s.lift.lastHead) s)) :=
    fun n idle => .chosen idle (.refl s) (by simp [alternateOrder_length])
  unfold arbitrate
  split
  · next idle =>
    split
    · exact whole 1 idle
    · split
      · obtain ⟨checked, eligible⟩ := firstEligible_spec [s.lift.lastHead] s
        dsimp only
        split
        · next u found =>
          rw [found] at checked eligible
          have chosen := eligible _ rfl
          exact .granted _ idle (checked.le (by simp)) chosen.front chosen.fit
        · next u found =>
          rw [found] at checked
          exact .chosen idle checked (by cases s.lift.lastHead <;> decide)
      · exact whole 1 idle
  all_goals exact .checked ((State.Checked.refl s).le (by omega))

end Sys2Proof.Machine
end

section
/-! The tag window (R11), and the readback check with the pulse timer (R172, R177). -/

namespace Sys2Proof.Machine

variable {s t u : State}

/-! ### A tag window that has ended stays ended -/

/-- What a head holds of its tag window. -/
def Head.window (hd : Head) : Timer × Bool × List Nat := (hd.windowTimer, hd.windowDone, hd.tags)

/-- The tag window of head `h` is done with the list given, and its reader is off. -/
structure State.WindowShut (h : HeadId) (tags : List Nat) (s : State) : Prop where
  sized  : s.outputs.length = 15
  window : (s.head h).window = (none, true, tags)
  reader : (s.output (readerOnOutput h)).owner = false

namespace State.WindowShut

variable {h k : HeadId} {tags : List Nat}

theorem of_same (shut : s.WindowShut h tags) (window : (t.head h).window = (s.head h).window)
    (outputs : t.outputs = s.outputs) : t.WindowShut h tags :=
  ⟨by rw [outputs]; exact shut.sized, window.trans shut.window, by rw [State.output, outputs]; exact shut.reader⟩

/-- Work on other blocks. -/
theorem of_blocks (shut : s.WindowShut h tags) (heads : t.heads = s.heads) (outputs : t.outputs = s.outputs) :
    t.WindowShut h tags :=
  shut.of_same (by rw [State.head, heads, State.head]) outputs

theorem updateHead {f : Head → Head} (shut : s.WindowShut h tags) (keeps : (f (s.head k)).window = (s.head k).window) :
    (updateHead k f s).WindowShut h tags := by
  have sized : (Machine.updateHead k f s).outputs.length = 15 := by simpa using shut.sized
  rcases eq_or_ne h k with rfl | ne
  · have window : ((Machine.updateHead h f s).head h).window = (none, true, tags) := by
      rw [updateHead_head, keeps, shut.window]
    refine ⟨sized, window, ?_⟩
    have none : ((Machine.updateHead h f s).head h).windowTimer = none := congrArg (·.1) window
    rw [(updateHead_commands shut.sized h f).reader, Head.reader, none]
    simp
  · refine ⟨sized, by rw [updateHead_head_of_ne _ _ ne, shut.window], ?_⟩
    rw [Machine.updateHead, driveHead_output_of_ne _ (by cases h <;> cases k <;> first | exact absurd rfl ne | decide)]
    exact shut.reader

theorem moveHead {f : Head → Head} (shut : s.WindowShut h tags) (keeps : (f (s.head k)).window = (s.head k).window) :
    (moveHead k f s).WindowShut h tags := by
  refine (shut.updateHead (k := k) (f := f) keeps).of_same ?_ (moveHead_outputs ..)
  rcases eq_or_ne h k with rfl | ne
  · rw [moveHead_head, updateHead_head]
  · rw [moveHead_head_of_ne _ _ ne, updateHead_head_of_ne _ _ ne]

theorem closeHead {c : ClosedCause} (shut : s.WindowShut h tags) : (closeHead k c s).WindowShut h tags := by
  have told : (notify (.headClosed k c) s).WindowShut h tags := shut.of_blocks (by simp) (by simp)
  refine (told.moveHead (k := k) (f := fun hd => { hd with state := .closed, closePending := none }) rfl).of_blocks ?_ ?_
  · simp [Machine.closeHead]
  · simp [Machine.closeHead]

theorem takeReservation (shut : s.WindowShut h tags) (taken : takeReservation k s = some t) : t.WindowShut h tags := by
  obtain ⟨_, _, _, _, _, _, _, _, outputs, _⟩ := takeReservation_frame s taken
  obtain ⟨_, head, others, _⟩ := takeReservation_spec s taken
  refine shut.of_same ?_ outputs
  rcases eq_or_ne h k with rfl | ne
  · rw [head]
    rfl
  · rw [others _ ne]

theorem giveBack (shut : s.WindowShut h tags) : (giveBack k s).WindowShut h tags := by
  refine shut.of_same ?_ (by simp)
  rcases eq_or_ne h k with rfl | ne
  · rw [giveBack_head]
    rfl
  · rw [giveBack_head_of_ne _ ne]

theorem receiveClose {c : CloseCause} (shut : s.WindowShut h tags) : (receiveClose k c s).WindowShut h tags := by
  have kept : ∀ cause : CloseCause,
      (Machine.updateHead k (fun hd => { hd with closePending := some cause }) s).WindowShut h tags :=
    fun _ => shut.updateHead rfl
  simp only [Machine.receiveClose]
  split
  · exact shut
  · split
    · split
      · exact ((kept _).giveBack (k := k)).closeHead
      · exact kept _
    · exact (kept _).closeHead
    · exact kept _

theorem logFullSignal (shut : s.WindowShut h tags) : (logFullSignal s).WindowShut h tags := by
  have once : ∀ (k : HeadId) {s : State}, s.WindowShut h tags →
      (if (s.head k).state = .ready then Machine.receiveClose k .logFull s else s).WindowShut h tags := fun k s shut => by
    split
    · exact shut.receiveClose
    · exact shut
  exact once .c (once .b (once .a shut))

theorem signalIfFull (shut : s.WindowShut h tags) : (signalIfFull s).WindowShut h tags := by
  unfold Machine.signalIfFull
  split
  · exact shut.logFullSignal
  · exact shut

theorem askWarm (shut : s.WindowShut h tags) : (askWarm k s).WindowShut h tags := shut.of_blocks (by simp) (by simp)

theorem endDischarge (shut : s.WindowShut h tags) : (endDischarge k s).WindowShut h tags := by
  have begun : (Machine.updateHead k (fun hd => { hd with gateTimer := none, beamCount := 0 }) s).WindowShut h tags :=
    shut.updateHead rfl
  simp only [Machine.endDischarge]
  split
  · exact begun.closeHead
  · split
    · exact begun.askWarm.moveHead rfl
    · split
      · next taken => exact ((begun.takeReservation taken).moveHead rfl).signalIfFull
      · exact begun.closeHead

theorem cradleCleared (shut : s.WindowShut h tags) : (cradleCleared k s).WindowShut h tags := by
  simp only [Machine.cradleCleared]
  split
  · exact shut
  · next seq _ =>
    have moved : (Machine.updateHead k
        (fun hd => { hd with staging := hd.staging ++ [seq], cradleRecord := none }) s).WindowShut h tags :=
      shut.updateHead rfl
    split
    · exact moved.endDischarge
    · exact moved

theorem openGate (shut : s.WindowShut h tags) : (openGate k s).WindowShut h tags := by
  have moved : (Machine.moveHead k
      (fun hd => { hd with state := .discharge, gateTimer := some hd.latched.gate }) s).WindowShut h tags :=
    shut.moveHead rfl
  simp only [Machine.openGate]
  split
  · exact moved
  · exact moved.cradleCleared

theorem enterDischarge (shut : s.WindowShut h tags) : (enterDischarge k s).WindowShut h tags := by
  unfold Machine.enterDischarge
  split
  · exact shut.openGate
  · exact shut.moveHead rfl

theorem judge {w : WeighOutcome} (shut : s.WindowShut h tags) : (Machine.judge h w s).WindowShut h tags := by
  let l := lookupFor s.advices (tagOutcome (s.head h).tags)
  have made : (createRecord h (judgedRecord h (s.head h) w l (toleranceFor s.judge l)) s).WindowShut h tags :=
    shut.of_same (by rw [createRecord_head]; rfl) (by simp)
  simp only [Machine.judge]
  refine enterDischarge ?_
  split
  all_goals exact made.of_blocks (by simp [l]) (by simp)

theorem leaveHold (shut : s.WindowShut h tags) : (leaveHold k s).WindowShut h tags := by
  unfold Machine.leaveHold
  split
  · exact shut.openGate
  · exact shut

theorem grant {r : Record} {bin n : Nat} {overflowed : Bool} (shut : s.WindowShut h tags) :
    (grant k r bin overflowed n s).WindowShut h tags := by
  have allocated : (allocate r bin overflowed s).WindowShut h tags := shut.of_blocks (by simp) (by simp)
  have popped : ((allocate r bin overflowed s).setHead k { (allocate r bin overflowed s).head k with
      staging := ((allocate r bin overflowed s).head k).staging.tail }).WindowShut h tags := by
    refine allocated.of_same ?_ rfl
    rcases eq_or_ne h k with rfl | ne
    · rw [State.setHead_head]
      rfl
    · rw [State.setHead_head_of_ne _ _ ne]
  exact popped.leaveHold.of_blocks rfl rfl

theorem checked {n : Nat} (shut : s.WindowShut h tags) (checked : s.Checked n t) : t.WindowShut h tags :=
  shut.of_blocks checked.heads checked.outputs

theorem arbitrate (shut : s.WindowShut h tags) : (arbitrate s).WindowShut h tags := by
  have ran := arbitrated s
  generalize Machine.arbitrate s = t at ran
  cases ran with
  | checked checked => exact shut.checked checked
  | granted n idle checked => exact (shut.checked checked).grant

theorem settled {f : State → State} (shut : (f s).WindowShut h tags) : (settled f s).WindowShut h tags := by
  have work : (withArbitration f s).WindowShut h tags := by
    simp only [withArbitration, arbitrateIfFilled]
    split
    · exact shut.arbitrate
    · exact shut
  have after := State.Settles.settleDrain s (withArbitration f s)
  exact work.of_blocks after.heads after.outputs

end State.WindowShut

/-! ### Tag reports and the end of the window -/

theorem tagReported_eq (h : HeadId) (n : Nat) : tagReported h n s =
    if (s.head h).windowTimer.isSome = true ∧ 1 ≤ n ∧ n ≤ 999999999 ∧ n ∉ (s.head h).tags ∧ (s.head h).tags.length < 2 then
      s.setHead h { s.head h with tags := (s.head h).tags ++ [n] }
    else s := by
  unfold tagReported addTag
  have range : tagOk n = true ↔ 1 ≤ n ∧ n ≤ 999999999 := by simp [tagOk, inRange]
  by_cases counts : (s.head h).windowTimer.isSome = true ∧ tagOk n = true
  · obtain ⟨running, low, high⟩ : _ ∧ _ ∧ _ := ⟨counts.1, range.mp counts.2⟩
    rw [if_pos counts]
    by_cases full : n ∈ (s.head h).tags ∨ 2 ≤ (s.head h).tags.length
    · rw [if_pos full, if_neg (fun ⟨_, _, _, new, few⟩ => full.elim new (by omega))]
      exact State.setHead_self s h
    · rw [if_neg full, if_pos ⟨running, low, high, fun mem => full (.inl mem), by omega⟩]
  · rw [if_neg counts, if_neg (fun ⟨running, low, high, _⟩ => counts ⟨running, range.mpr ⟨low, high⟩⟩)]

/-- The head whose tag window has ended (R11). -/
def Head.windowEnded (hd : Head) : Head := { hd with windowTimer := none, windowDone := true }

section
variable {h : HeadId} (examine : (s.head h).state = .examine) (running : (s.head h).windowTimer.isSome = true)
include examine running

/-- With the weighing complete the end of the window brings the judgement (R11, R12). -/
theorem windowExpired_of_weighed {w : WeighOutcome} (weighed : (s.head h).weighing = some w) :
    windowExpired h s = judge h w (updateHead h Head.windowEnded s) := by
  simp only [windowExpired, if_pos (And.intro examine running), updateHead_head, weighed]
  congr 1

/-- With the weighing still going on the window ends alone (R11). -/
theorem windowExpired_of_unweighed (unweighed : (s.head h).weighing = none) :
    windowExpired h s = updateHead h Head.windowEnded s := by
  simp only [windowExpired, if_pos (And.intro examine running), updateHead_head, unweighed]
  congr 1
end

/-- Settles O9: a report joins the list or leaves the state, and the end of the window shuts it for good. -/
theorem tagWindowCollectsTags : Obligations.TagWindowCollectsTags := by
  intro s h
  refine ⟨fun n => congrArg done (tagReported_eq h n), rfl, fun sized examine running => ?_, rfl, fun _ => rfl,
    fun _ _ => rfl⟩
  have closed : (updateHead h Head.windowEnded s).WindowShut h (s.head h).tags := by
    refine ⟨by simpa using sized.outputs, by rw [updateHead_head]; rfl, ?_⟩
    rw [(updateHead_commands sized.outputs h _).reader, updateHead_head]
    simp [Head.reader, Head.windowEnded]
  have work : (windowExpired h s).WindowShut h (s.head h).tags := by
    cases outcome : (s.head h).weighing with
    | some w =>
      rw [windowExpired_of_weighed examine running outcome]
      exact closed.judge
    | none =>
      rw [windowExpired_of_unweighed examine running outcome]
      exact closed
  have after := (State.Settles.pump (settled (windowExpired h) s))
  have shut := work.settled.of_blocks after.heads after.outputs
  obtain ⟨timer, ended, tags⟩ : _ ∧ _ ∧ _ := by simpa [Head.window] using shut.window
  refine ⟨_, rfl, timer, ended, tags, shut.reader, fun unweighed => ?_⟩
  have begun := windowExpired_of_unweighed examine running unweighed
  have same : ∀ k, ((windowExpired h s).head k).staging = (s.head k).staging := fun k => by
    rw [begun]
    rcases eq_or_ne k h with rfl | ne
    · rw [updateHead_head]
      rfl
    · rw [updateHead_head_of_ne _ _ ne]
  have ends := (settles_settled (windowExpired h) (.inl same)).trans after
  rw [begun] at ends
  refine ⟨by rw [ends.head, updateHead_head]; rfl, fun k ne => by rw [ends.head, updateHead_head_of_ne _ _ ne], ?_⟩
  rw [ends.log]
  simp

/-! ### The readback check and the pulse timer -/

/-- The output line with the level that its readback sense reports, its check made (R172). -/
def OutputLine.read (o : OutputLine) (level : Bool) : OutputLine := { o with readback := level, check := none }

theorem checkExpired_of_match {n : Nat} {level : Bool} (running : (s.output n).check.isSome = true)
    (agrees : level = (s.output n).driven) :
    checkExpired n level s = s.setOutput n { (s.output n).read level with fault := false } := by
  have going : (s.output n).check.isNone = false := by cases e : (s.output n).check <;> simp_all
  simp [checkExpired, going, agrees, OutputLine.read]

theorem checkExpired_of_mismatch {n : Nat} {level : Bool} (running : (s.output n).check.isSome = true)
    (differs : level ≠ (s.output n).driven) :
    checkExpired n level s = checkMismatch n (s.setOutput n ((s.output n).read level)) := by
  have going : (s.output n).check.isNone = false := by cases e : (s.output n).check <;> simp_all
  simp [checkExpired, going, differs, OutputLine.read]

/-- An output whose fault flag is set is one of the table. -/
theorem State.lt_of_output_fault {n : Nat} (fault : (s.output n).fault = true) : n < s.outputs.length := by
  by_contra out
  rw [State.output, List.getElem?_eq_none (by omega)] at fault
  cases fault

/-- The fault flag of a mismatch, with its notice where it was clear (R172). -/
def flagMismatch (n : Nat) (s : State) : State :=
  if (s.output n).fault then s
  else notify (.outputFault n (s.output n).driven (s.output n).readback) (s.setOutput n { s.output n with fault := true })

theorem checkMismatch_eq (n : Nat) (s : State) : checkMismatch n s =
    match latchOwner n with
    | some h => outputMismatch h (flagMismatch n s)
    | none => flagMismatch n s := rfl

theorem flagMismatch_frame (n : Nat) (s : State) : (flagMismatch n s).heads = s.heads ∧ (flagMismatch n s).log = s.log ∧
    (flagMismatch n s).lift = s.lift ∧ (flagMismatch n s).inputs = s.inputs := by
  unfold flagMismatch
  split <;> simp

theorem latchOwner_of_flap (h : HeadId) : latchOwner (flapReleaseOutput h) = some h := by cases h <;> rfl

theorem latchOwner_of_gate (h : HeadId) : latchOwner (gateOpenOutput h) = some h := by cases h <;> rfl

/-- A lamp, a reader, ALARM and the GP outputs latch nothing of a head (R172). -/
theorem latchOwner_of_other {n : Nat} (other : n = 12 ∨ n = 13 ∨ n = 14 ∨ n % 4 = 2 ∨ n % 4 = 3) : latchOwner n = none :=
  if_neg (by omega)

/-- A check that moves no head ends its step. -/
theorem exec_check {n : Fin 15} {level : Bool} (heads : (checkExpired n level s).heads = s.heads)
    (inputs : (checkExpired n level s).inputs = s.inputs) (lift : (checkExpired n level s).lift = s.lift) :
    exec (.checkTimerExpiry n level) s = .next (pump (checkExpired n level s)) := by
  have still : settled (checkExpired n level) s = checkExpired n level s :=
    settled_of_same s _ (fun h => by rw [State.head, heads, State.head])
      (fun h => by rw [State.input, inputs, State.input]) (by rw [lift])
  exact congrArg done still

theorem enterFault_staging (h k : HeadId) (cause : HeadFaultCause) :
    ((enterFault h cause s).head k).staging = (s.head k).staging := by
  rcases eq_or_ne k h with rfl | ne
  · rw [enterFault_head]
  · rw [enterFault_head_of_ne _ _ ne]

/-- A mismatch of a latch's output on which its head faults (R22, R172). -/
theorem outputMismatch_of_running {h : HeadId} (fault : (s.head h).state.isFault = false)
    (awake : (s.head h).state = .closed → (s.head h).starting = false) :
    outputMismatch h s = enterFault h .outputFault s := by
  unfold outputMismatch
  split
  · next cause same => rw [same] at fault; cases fault
  · next same => simp [awake same]
  all_goals rfl

theorem outputMismatch_of_starting {h : HeadId} (closed : (s.head h).state = .closed)
    (starting : (s.head h).starting = true) : outputMismatch h s = s := by
  simp [outputMismatch, closed, starting]

/-- Settles O28: by what the check finds, whose output it is, and the state of its head. -/
theorem readbackIsChecked : Obligations.ReadbackIsChecked := by
  intro s
  refine ⟨fun n level running => ⟨fun agrees => ?_, fun differs other => ⟨fun fault => ?_, fun fault sized => ?_⟩,
    fun h differs line faultless awake => ?_, fun h differs line closed starting => ?_⟩, fun sized running => ?_⟩
  · have read := checkExpired_of_match running agrees
    rw [exec_check (by rw [read]; simp) (by rw [read]; simp) (by rw [read]; simp), read]
    rfl
  · have flagged : checkExpired n level s = s.setOutput n ((s.output n).read level) := by
      rw [checkExpired_of_mismatch running differs, checkMismatch_eq, latchOwner_of_other other]
      have same := State.setOutput_output s ((s.output n).read level) (State.lt_of_output_fault fault)
      exact if_pos (by rw [same]; exact fault)
    rw [exec_check (by rw [flagged]; simp) (by rw [flagged]; simp) (by rw [flagged]; simp), flagged]
    rfl
  · have flagged : checkExpired n level s = notify (.outputFault n (s.output n).driven level)
        (s.setOutput n { (s.output n).read level with fault := true }) := by
      rw [checkExpired_of_mismatch running differs, checkMismatch_eq, latchOwner_of_other other]
      have same := State.setOutput_output s ((s.output n).read level) (by rw [sized.outputs]; exact n.isLt)
      simp only [flagMismatch, same]
      simp [OutputLine.read, fault, State.setOutput]
    rw [exec_check (by rw [flagged]; simp) (by rw [flagged]; simp) (by rw [flagged]; simp), flagged]
    rfl
  · have owner : latchOwner n = some h := by
      rcases line with line | line <;> rw [line]
      exacts [latchOwner_of_flap h, latchOwner_of_gate h]
    let u := flagMismatch n (s.setOutput n ((s.output n).read level))
    obtain ⟨heads, log, _⟩ := flagMismatch_frame n (s.setOutput n ((s.output n).read level))
    have head : ∀ k, u.head k = s.head k := fun k => by rw [State.head, heads]; rfl
    have faults : checkExpired n level s = enterFault h .outputFault u := by
      rw [checkExpired_of_mismatch running differs, checkMismatch_eq, owner]
      exact outputMismatch_of_running (by rw [head]; exact faultless) (by rw [head]; exact awake)
    obtain ⟨t, next, settles⟩ :=
      done_settled (checkExpired n level) (.inl fun k => by rw [faults, enterFault_staging, head])
    rw [faults] at settles
    have entered := (settles.head h).trans (enterFault_head u h .outputFault)
    refine ⟨t, next, by rw [entered], by rw [entered, head], by rw [entered, head], by rw [entered, head],
      fun k ne => by rw [settles.head, enterFault_head_of_ne _ _ ne, head], ?_⟩
    rw [settles.log]
    simpa using log
  · have owner : latchOwner n = some h := by
      rcases line with line | line <;> rw [line]
      exacts [latchOwner_of_flap h, latchOwner_of_gate h]
    obtain ⟨heads, log, lift, inputs⟩ := flagMismatch_frame n (s.setOutput n ((s.output n).read level))
    have stays : checkExpired n level s = flagMismatch n (s.setOutput n ((s.output n).read level)) := by
      rw [checkExpired_of_mismatch running differs, checkMismatch_eq, owner]
      have head : (flagMismatch n (s.setOutput n ((s.output n).read level))).head h = s.head h := by
        rw [State.head, heads]; rfl
      exact outputMismatch_of_starting (by rw [head]; exact closed) (by rw [head]; exact starting)
    refine ⟨_, exec_check (by rw [stays, heads]; rfl) (by rw [stays, inputs]; rfl) (by rw [stays, lift]; rfl), ?_, ?_⟩
    · simpa [stays] using heads
    · simpa [stays] using log
  · have falls : pulseExpired s = handOutput alarmOutput false { s with alarm := { s.alarm with pulseTimer := none } } :=
      if_pos running
    refine ⟨_, rfl, ?_, ?_, fun n ne => ?_, ?_, ?_⟩ <;> rw [falls]
    · simp
    · rw [pump_output]
      exact handOutput_output_owner _ _ (by simp [sized.outputs, alarmOutput])
    · rw [pump_output, handOutput_output_of_ne _ _ ne]
      rfl
    · simp [pump]
    · simp

end Sys2Proof.Machine
end

section
/-! What the heads do to the cradle channels and to the statistics (R31, R32, R41, R186, R190). -/

namespace Sys2Proof.Machine

variable {s t : State}

/-! ### The channels of the other heads -/

theorem State.head_of_stepOn {h : HeadId} {st : CalStep} (step : s.service.step = some st) (on : s.stepOn h = true) :
    st.head = h := by simpa [State.stepOn, step] using on

theorem stopStep_channel_of_ne {h k : HeadId} (on : s.stepOn h = true) (ne : k ≠ h) : (stopStep s).channel k = s.channel k := by
  simp only [stopStep]
  split
  · rfl
  · next st step =>
    obtain rfl := State.head_of_stepOn step on
    rw [refreshIdle_channel_of_ne _ ne]
    repeat' split
    · rw [updateChannel_channel_of_ne _ _ ne]
      exact abandonWeighing_channel_of_ne s ne
    · exact abandonWeighing_channel_of_ne s ne
    · rw [updateChannel_channel_of_ne _ _ ne]
      rfl
    · rfl

theorem updateHead_channel (h k : HeadId) (f : Head → Head) : (updateHead h f s).channel k = s.channel k := by
  simp

theorem updateHead_stepOn (h k : HeadId) (f : Head → Head) : (updateHead h f s).stepOn k = s.stepOn k := by
  simp [State.stepOn]

theorem moveHead_channel_of_ne {h k : HeadId} (f : Head → Head) (ne : k ≠ h) : (moveHead h f s).channel k = s.channel k := by
  simp only [moveHead]
  rw [refreshIdle_channel_of_ne _ ne]
  split
  · next on =>
    rw [stopStep_channel_of_ne (h := h) (by simp only [Bool.and_eq_true] at on; exact on.1) ne, updateHead_channel]
  · rw [updateHead_channel]

theorem endUnwantedWarmUp_channel_of_ne {h k : HeadId} (ne : k ≠ h) : (endUnwantedWarmUp h s).channel k = s.channel k := by
  unfold endUnwantedWarmUp
  split
  · rw [updateChannel_channel_of_ne _ _ ne]
  · rfl

theorem notify_channel (n : Notice) (k : HeadId) : (notify n s).channel k = s.channel k := by simp

theorem giveBack_channel (h k : HeadId) : (giveBack h s).channel k = s.channel k := by simp

theorem closeHead_channel_of_ne {h k : HeadId} (cause : ClosedCause) (ne : k ≠ h) :
    (closeHead h cause s).channel k = s.channel k := by
  simp only [closeHead]
  rw [endUnwantedWarmUp_channel_of_ne ne, moveHead_channel_of_ne _ ne, notify_channel]

theorem receiveClose_channel_of_ne {h k : HeadId} (c : CloseCause) (ne : k ≠ h) :
    (receiveClose h c s).channel k = s.channel k := by
  simp only [receiveClose, closeReady]
  split
  · rfl
  · repeat' split
    · rw [closeHead_channel_of_ne _ ne, giveBack_channel, updateHead_channel]
    · rw [updateHead_channel]
    · rw [closeHead_channel_of_ne _ ne, updateHead_channel]
    · rw [updateHead_channel]

theorem askWarm_channel_of_ne {h k : HeadId} (ne : k ≠ h) : (askWarm h s).channel k = s.channel k := by
  simp only [askWarm]
  repeat' split
  · rw [updateChannel_channel_of_ne _ _ ne]
  · rfl
  · rfl
  · next on => rw [stopStep_channel_of_ne on ne, abandonWeighing_channel_of_ne s ne]
  · rw [abandonWeighing_channel_of_ne s ne]
  · rfl

/-! ### A channel at rest -/

/-- A channel that is OFF or IDLE: nothing that a head does in taking a state ends a warm-up or a weighing on it. -/
def Channel.Resting (c : Channel) : Prop := c.state = .off ∨ c.state = .idle

/-- `d` is the channel `c` but for its idle timer (R32). -/
def Channel.SameButIdle (c d : Channel) : Prop := ∃ timer, d = { c with idleTimer := timer }

theorem Channel.SameButIdle.refl (c : Channel) : c.SameButIdle c := ⟨_, rfl⟩

theorem Channel.SameButIdle.trans {c d e : Channel} : c.SameButIdle d → d.SameButIdle e → c.SameButIdle e := by
  rintro ⟨_, rfl⟩ ⟨x, rfl⟩
  exact ⟨x, rfl⟩

theorem Channel.SameButIdle.resting {c d : Channel} (same : c.SameButIdle d) (rest : c.Resting) : d.Resting := by
  obtain ⟨_, rfl⟩ := same
  exact rest

theorem Channel.Resting.returnToIdle {c : Channel} (rest : c.Resting) : c.returnToIdle = c := by
  unfold Channel.returnToIdle
  rcases rest with off | idle <;> split <;> simp_all

theorem Channel.Resting.not_warming {c : Channel} (rest : c.Resting) : c.isWarming = false := by
  unfold Channel.isWarming
  rcases rest with off | idle <;> split <;> simp_all

theorem refreshIdle_sameButIdle (h : HeadId) : (s.channel h).SameButIdle ((refreshIdle h s).channel h) :=
  refreshIdle_channel s h

theorem abandonWeighing_sameButIdle {h : HeadId} (rest : (s.channel h).Resting) :
    (s.channel h).SameButIdle ((abandonWeighing h s).channel h) := by
  have same := refreshIdle_sameButIdle (s := updateChannel h Channel.returnToIdle s) h
  rw [updateChannel_channel, rest.returnToIdle] at same
  exact same

theorem stopStep_sameButIdle {h : HeadId} (rest : (s.channel h).Resting) (on : s.stepOn h = true) :
    (s.channel h).SameButIdle ((stopStep s).channel h) := by
  simp only [stopStep]
  split
  · exact .refl _
  · next st step =>
    obtain rfl := State.head_of_stepOn step on
    refine .trans ?_ (refreshIdle_sameButIdle _)
    have abandoned := abandonWeighing_sameButIdle rest
    repeat' split
    · next ends =>
      have still : (s.channel st.head).SameButIdle
          ((notify (.calDone st.head st.kind.name .aborted) { abandonWeighing st.head s with
            service := { (abandonWeighing st.head s).service with step := none } }).channel st.head) := by
        rw [notify_channel]; exact abandoned
      rw [(still.resting rest).not_warming] at ends
      exact absurd ends.2.2 (by simp)
    · rw [notify_channel]; exact abandoned
    · next ends =>
      have still : (notify (.calDone st.head st.kind.name .aborted) { s with
            service := { s.service with step := none } }).channel st.head = s.channel st.head := by
        rw [notify_channel]; rfl
      rw [still, rest.not_warming] at ends
      exact absurd ends.2.2 (by simp)
    · rw [notify_channel]; exact .refl _

theorem moveHead_sameButIdle {h : HeadId} (f : Head → Head) (rest : (s.channel h).Resting) :
    (s.channel h).SameButIdle ((moveHead h f s).channel h) := by
  simp only [moveHead]
  refine .trans ?_ (refreshIdle_sameButIdle h)
  split
  · next on =>
    have stopped := stopStep_sameButIdle (s := updateHead h f s) (h := h) (by rwa [updateHead_channel])
      (by simp only [Bool.and_eq_true] at on; exact on.1)
    rwa [updateHead_channel] at stopped
  · rw [updateHead_channel]
    exact .refl _

/-! ### A channel that weighs -/

/-- A channel that is WEIGHING or IDLE. -/
def Channel.Powered (c : Channel) : Prop := (∃ w, c.state = .weighing w) ∨ c.state = .idle

theorem Channel.Powered.not_warming {c : Channel} (up : c.Powered) : c.isWarming = false := by
  unfold Channel.isWarming
  rcases up with ⟨w, weighing⟩ | idle <;> split <;> simp_all

theorem abandonWeighing_idle {h : HeadId} (up : (s.channel h).Powered) : ((abandonWeighing h s).channel h).state = .idle := by
  simp only [abandonWeighing, refreshIdle_channel_state, updateChannel_channel, Channel.returnToIdle]
  rcases up with ⟨w, weighing⟩ | idle
  · rw [weighing]
  · split
    · rfl
    · exact idle

theorem stopStep_powered {h : HeadId} (up : (s.channel h).Powered) (on : s.stepOn h = true) :
    ((stopStep s).channel h).Powered := by
  simp only [stopStep]
  split
  · exact up
  · next st step =>
    obtain rfl := State.head_of_stepOn step on
    simp only [Channel.Powered, refreshIdle_channel_state]
    have abandoned : ((abandonWeighing st.head s).channel st.head).Powered := .inr (abandonWeighing_idle up)
    repeat' split
    · next ends =>
      have still : ((notify (.calDone st.head st.kind.name .aborted) { abandonWeighing st.head s with
            service := { (abandonWeighing st.head s).service with step := none } }).channel st.head).Powered := by
        rw [notify_channel]; exact abandoned
      rw [still.not_warming] at ends
      exact absurd ends.2.2 (by simp)
    · rw [notify_channel]; exact abandoned
    · next ends =>
      have still : (notify (.calDone st.head st.kind.name .aborted) { s with
            service := { s.service with step := none } }).channel st.head = s.channel st.head := by
        rw [notify_channel]; rfl
      rw [still, up.not_warming] at ends
      exact absurd ends.2.2 (by simp)
    · rw [notify_channel]; exact up

theorem moveHead_powered {h : HeadId} (f : Head → Head) (up : (s.channel h).Powered) :
    ((moveHead h f s).channel h).Powered := by
  simp only [moveHead, Channel.Powered, refreshIdle_channel_state]
  split
  · next on =>
    exact stopStep_powered (by rwa [updateHead_channel]) (by simp only [Bool.and_eq_true] at on; exact on.1)
  · rwa [updateHead_channel]

/-- Entry to FAULT from EXAMINE abandons the weighing (R23, R41). -/
theorem enterFault_idle {h : HeadId} (cause : HeadFaultCause) (examine : (s.head h).state = .examine)
    (up : (s.channel h).Powered) : ((enterFault h cause s).channel h).state = .idle := by
  simp only [enterFault, updateHeadStats_frame, reportAlarm_frame, notify_frame, if_pos examine]
  exact abandonWeighing_idle (moveHead_powered _ up)

/-! ### The low-water flag and reservations -/

/-- The flag clears where the free count stands above the threshold (R95). -/
theorem lowWaterRise_log_eq (s : State) : (lowWaterRise s).log =
    { s.log with lowFlag := s.log.lowFlag && decide (s.logFree ≤ s.log.lowWater) } := by
  unfold lowWaterRise
  split
  · next above => simp [Nat.not_le.mpr above]
  · next below => simp [Nat.not_lt.mp below]

/-- The flag is set where the free count stands at or below the threshold (R95). -/
theorem lowWaterFall_log_eq (s : State) : (lowWaterFall s).log =
    { s.log with lowFlag := s.log.lowFlag || decide (s.logFree ≤ s.log.lowWater) } := by
  unfold lowWaterFall
  split
  · next falls => simp [falls.1]
  · next stays =>
    cases flag : s.log.lowFlag with
    | true =>
      rw [Bool.true_or, ← flag]
    | false =>
      have above : ¬s.logFree ≤ s.log.lowWater := fun le => stays ⟨le, flag⟩
      simp [above, ← flag]

/-- The log where head `h` gives its reservation back: the low-water flag clears where the free count has risen above the
threshold (R93, R95). -/
theorem giveBack_log (h : HeadId) (s : State) : (giveBack h s).log =
    if (s.head h).reservation = true then { s.log with
      reservations := s.log.reservations - 1
      lowFlag := s.log.lowFlag && decide (1024 - s.log.records.length - (s.log.reservations - 1) ≤ s.log.lowWater) }
    else s.log := by
  simp only [giveBack]
  split
  · rw [lowWaterRise_log_eq]
    rfl
  · rfl

/-- A reservation taken, with the flag judged at once (R93, R95). -/
theorem takeReservation_of_free (h : HeadId) (free : s.logFree ≠ 0) : takeReservation h s =
    some (lowWaterFall { s.setHead h { s.head h with reservation := true } with
      log := { s.log with reservations := s.log.reservations + 1 } }) := by
  simp only [takeReservation, if_neg free]
  rfl

theorem exists_takeReservation (h : HeadId) (free : s.logFree ≠ 0) : ∃ t, takeReservation h s = some t :=
  ⟨_, takeReservation_of_free h free⟩

theorem takeReservation_log {h : HeadId} (taken : takeReservation h s = some t) : t.log = { s.log with
    reservations := s.log.reservations + 1
    lowFlag := s.log.lowFlag || decide (s.logFree - 1 ≤ s.log.lowWater) } := by
  have free := (takeReservation_spec s taken).1
  rw [takeReservation_of_free h free] at taken
  cases taken
  rw [lowWaterFall_log_eq]
  rfl

theorem takeReservation_logFree {h : HeadId} (taken : takeReservation h s = some t) : t.logFree = s.logFree - 1 := by
  rw [State.logFree, takeReservation_log taken]
  rfl

/-! ### Statistics -/

@[simp] theorem moveHead_stats (h : HeadId) (f : Head → Head) : (moveHead h f s).service.stats = s.service.stats := by
  simp only [moveHead]
  split <;> simp

@[simp] theorem updateHeadStats_heads_get (h : HeadId) (f : HeadStats → HeadStats) :
    (updateHeadStats h f s).service.stats.heads.get h = f (s.service.stats.heads.get h) := by
  simp [updateHeadStats, updateStats]

theorem enterFault_faults (h : HeadId) (cause : HeadFaultCause) :
    ((enterFault h cause s).service.stats.heads.get h).faults = countUp (s.service.stats.heads.get h).faults := by
  simp only [enterFault, updateHeadStats_heads_get]
  split <;> simp

/-! ### Outputs on the entry to FAULT -/

theorem enterFault_commands (sized : s.outputs.length = 15) (h : HeadId) (cause : HeadFaultCause) :
    (enterFault h cause s).Commands h := by
  simp only [enterFault]
  have moved := moveHead_commands sized h fun hd => { hd with
    state := .fault cause
    intakeTimer := none
    descentTimer := none
    windowTimer := none
    gateTimer := none
    tags := []
    windowDone := false
    weighing := none
    landed := none }
  split
  all_goals
    refine moved.of_outputs (by simp) fun n line => ?_
    simp only [updateHeadStats_frame]
    rw [reportAlarm_output_of_ne _ _ (by rintro rfl; cases h <;> simp [alarmOutput, headIndex] at line)]
    simp

/-- A head in FAULT commands none of its outputs (R2, R23). -/
theorem enterFault_outputs (sized : s.outputs.length = 15) (h : HeadId) (cause : HeadFaultCause) :
    let t := enterFault h cause s
    (t.output (flapReleaseOutput h)).owner = false ∧ (t.output (gateOpenOutput h)).owner = false ∧
      (t.output (intakeLampOutput h)).owner = false ∧ (t.output (readerOnOutput h)).owner = false := by
  obtain ⟨flap, gate, lamp, reader⟩ := enterFault_commands sized h cause
  rw [enterFault_head] at flap gate lamp reader
  exact ⟨flap, gate, lamp, reader⟩

end Sys2Proof.Machine
end

section
/-! The deposit, the landing, the faults of a head and its discharge (R7, R9, R10, R14, R16, R17, R22, R23, R36). -/

namespace Sys2Proof.Machine

variable {s t : State}

@[simp] theorem State.lineTaken_head (n : Nat) (h : HeadId) : (s.lineTaken n).head h = s.head h := rfl

theorem State.lineTaken_channel (n : Nat) (h : HeadId) : (s.lineTaken n).channel h = s.channel h := rfl

/-! ### The deposit -/

/-- Settles O7: the beam in READY is `startDeposit`. -/
theorem beamStartsADeposit : Obligations.BeamStartsADeposit := by
  intro s h n sized line ready debounced raw running
  let u := s.lineTaken (chuteBeamLine h)
  let f : Head → Head := fun hd => { hd with
    state := .intake
    latched := .ofSettings hd.settings
    beamCount := 1
    earlyLanding := false
    tags := []
    windowDone := false
    weighing := none
    restarted := false
    landed := none
    intakeTimer := some hd.settings.intakeTimeout }
  have work : signalEdge (chuteBeamLine h) true u =
      updateHeadStats h (fun t => { t with admitted := countUp t.admitted }) (moveHead h f u) := by
    rw [signalEdge_chuteBeam]
    simp only [chuteBeam, u, State.lineTaken_head, ready]
    rfl
  have head : ∀ k, k ≠ h → (moveHead h f u).head k = s.head k := fun k ne => moveHead_head_of_ne _ _ ne
  have quiet : s.Undisturbed (signalEdge (chuteBeamLine h) true u) := by
    refine .inl fun k => ?_
    rw [work]
    rcases eq_or_ne k h with rfl | ne
    · simp [f, u]
    · simp [head k ne]
  obtain ⟨t, next, settles⟩ := exec_edge line debounced raw running quiet
  rw [show s.lineTaken (chuteBeamLine h) = u from rfl, work] at settles
  have commands : t.Commands h :=
    ((moveHead_commands (s := u) sized.outputs h f).of_same (by simp) (by simp)).settles settles
  have entered : t.head h = f (s.head h) := by rw [settles.head]; simp [u]
  refine ⟨t, next, entered, fun k ne => by rw [settles.head]; simp [head k ne], ?_, ?_, ?_, ?_, ?_, ?_⟩
  · rw [settles.log]; simp [u, State.lineTaken]
  · rw [settles.rack]; simp [u, State.lineTaken]
  · rw [settles.advices]; simp [u, State.lineTaken]
  · rw [commands.flap, entered]; rfl
  · rw [commands.lamp, entered]; rfl
  · rw [settles.service]; simp [u, State.lineTaken]

/-! ### The landing -/

/-- The landing conversion takes nothing of the weighing away. -/
theorem Channel.startWeighing_spec (c : Channel) (q : Requester) (cradle : Bool) :
    (c.startWeighing q cradle).state = .weighing (.start c.settings q) ∧
      (c.startWeighing q cradle).settleTimer = some c.settings.settleTimeout ∧
      (c.startWeighing q cradle).zeroTimer = none ∧ (c.startWeighing q cradle).zero = c.zero ∧
      (c.startWeighing q cradle).gathered = .empty ∧ (c.startWeighing q cradle).refFault = c.refFault := by
  unfold Channel.startWeighing Channel.trigger Channel.startConversion
  dsimp only
  split <;> exact ⟨rfl, rfl, rfl, rfl, rfl, rfl⟩

/-- A weighing taken by an IDLE channel whose reference is sound (R36). -/
theorem startWeighing_of_idle {h : HeadId} {q : Requester} (idle : (s.channel h).state = .idle)
    (sound : (s.channel h).refFault = false) :
    startWeighing h q s = refreshIdle h (updateChannel h (·.startWeighing q (s.cradle h)) s) := by
  have still : ((refreshIdle h (updateChannel h (·.startWeighing q (s.cradle h)) s)).channel h).refFault = false := by
    simp [(Channel.startWeighing_spec _ _ _).2.2.2.2.2, sound]
  rw [startWeighing, if_pos idle]
  simp [still]

/-- What the head takes at the entry to EXAMINE (R10). -/
def Head.examining (clock : Option Nat) (hd : Head) : Head :=
  { hd with
    state := .examine
    landed := clock
    intakeTimer := none
    descentTimer := none
    windowTimer := some hd.latched.ident }

theorem enterExamine_eq (h : HeadId) (s : State) :
    enterExamine h s = startWeighing h .head (moveHead h (Head.examining s.clock) s) := rfl

/-- The entry to EXAMINE with the channel IDLE and its reference sound: the head, its outputs and its channel (R10, R36). -/
theorem enterExamine_of_idle {h : HeadId} (idle : (s.channel h).state = .idle) (sound : (s.channel h).refFault = false) :
    ∃ c, (s.channel h).SameButIdle c ∧
      enterExamine h s = refreshIdle h (updateChannel h (·.startWeighing .head ((moveHead h (Head.examining s.clock) s).cradle h))
        (moveHead h (Head.examining s.clock) s)) ∧
      (moveHead h (Head.examining s.clock) s).channel h = c := by
  have same := moveHead_sameButIdle (Head.examining s.clock) (s := s) (h := h) (.inr idle)
  refine ⟨_, same, ?_, rfl⟩
  obtain ⟨timer, channel⟩ := same
  rw [enterExamine_eq, startWeighing_of_idle (by rw [channel]; exact idle) (by rw [channel]; exact sound)]

@[simp] theorem Channel.cradleSeen_state (c : Channel) : c.cradleSeen.state = c.state := rfl
@[simp] theorem Channel.cradleSeen_settings (c : Channel) : c.cradleSeen.settings = c.settings := rfl
@[simp] theorem Channel.cradleSeen_refFault (c : Channel) : c.cradleSeen.refFault = c.refFault := rfl
@[simp] theorem Channel.cradleSeen_zero (c : Channel) : c.cradleSeen.zero = c.zero := rfl

/-- Settles O8: the activation in DESCENT is `enterExamine`, with an IDLE channel to take the weighing. -/
theorem landingStartsTheExamination : Obligations.LandingStartsTheExamination := by
  intro s h n sized line descent debounced raw running idle sound
  let u := updateChannel h Channel.cradleSeen (s.lineTaken (cradleLine h))
  have channel : u.channel h = (s.channel h).cradleSeen := updateChannel_channel ..
  have heads : ∀ k, u.head k = s.head k := fun k => by simp [u]
  obtain ⟨c, ⟨timer, rfl⟩, entered, moved⟩ := enterExamine_of_idle (s := u) (h := h) (by rw [channel]; exact idle)
    (by rw [channel]; exact sound)
  have work : signalEdge (cradleLine h) true (s.lineTaken (cradleLine h)) = enterExamine h u := by
    rw [signalEdge_cradle]
    show cradleActivated h u = _
    simp only [cradleActivated, heads, descent]
  have head : (enterExamine h u).head h = Head.examining s.clock (s.head h) := by
    rw [entered]
    simp [heads]
    rfl
  have others : ∀ k, k ≠ h → (enterExamine h u).head k = s.head k := fun k ne => by
    rw [entered]
    simp [moveHead_head_of_ne _ _ ne, heads]
  have quiet : s.Undisturbed (signalEdge (cradleLine h) true (s.lineTaken (cradleLine h))) := by
    refine .inl fun k => ?_
    rw [work]
    rcases eq_or_ne k h with rfl | ne
    · rw [head]; rfl
    · rw [others k ne]
  obtain ⟨t, next, settles⟩ := exec_edge line debounced raw running quiet
  rw [work] at settles
  have commands : t.Commands h :=
    ((moveHead_commands (s := u) sized.outputs h (Head.examining u.clock)).of_same (t := enterExamine h u)
      (by rw [entered]; simp) (by rw [entered]; simp)).settles settles
  have same : t.head h = Head.examining s.clock (s.head h) := (settles.head h).trans head
  obtain ⟨weighing, settle, zeroTimer, zero, gathered, _⟩ := Channel.startWeighing_spec
    { u.channel h with idleTimer := timer } .head ((moveHead h (Head.examining u.clock) u).cradle h)
  have now : ∀ {α : Type} (f : Channel → α), (∀ c x, f { c with idleTimer := x } = f c) →
      f (t.channel h) = f (Channel.startWeighing { u.channel h with idleTimer := timer } .head
        ((moveHead h (Head.examining u.clock) u).cradle h)) := fun f blind => by
    obtain ⟨x, idles⟩ := refreshIdle_channel (updateChannel h
      (·.startWeighing .head ((moveHead h (Head.examining u.clock) u).cradle h))
      (moveHead h (Head.examining u.clock) u)) h
    rw [settles.channel, entered, idles, blind, updateChannel_channel, moved]
  refine ⟨t, next, same, fun k ne => (settles.head k).trans (others k ne), ?_, ?_, ?_, ⟨_,
    (now (·.state) fun _ _ => rfl).trans weighing, rfl, rfl, rfl, ?_, ?_, ?_⟩, ?_, ?_, ?_, ?_⟩
  · rw [settles.log, entered]; simp [u, State.lineTaken]
  · rw [commands.reader, same]; rfl
  · rw [commands.flap, same]; rfl
  · show (u.channel h).settings.exponent = _
    rw [channel]; rfl
  · show (u.channel h).settings.settleBand = _
    rw [channel]; rfl
  · show (u.channel h).settings.settleCount = _
    rw [channel]; rfl
  · rw [now (·.settleTimer) fun _ _ => rfl, settle, channel]; rfl
  · rw [now (·.zeroTimer) fun _ _ => rfl, zeroTimer]
  · rw [now (·.zero) fun _ _ => rfl, zero, channel]; rfl
  · rw [now (·.gathered) fun _ _ => rfl, gathered]; rfl

end Sys2Proof.Machine
end

section
/-! A head enters FAULT (R8, R9, R13, R16, R22, R23), and a discharged bag goes to staging (R14, R16, R17). -/

namespace Sys2Proof.Machine

variable {s t w : State}

/-! ### The entry to FAULT -/

/-- `w` is `s` as head `h` is about to fault: the head has given its reservation back where its bag was lost in EXAMINE or
RECOVER (R13, R26); a line or the channel's view of the cradle may have changed, and nothing else. -/
structure State.Bereft (s : State) (h : HeadId) (lost : Bool) (w : State) : Prop where
  head     : w.head h = { s.head h with reservation := if lost then false else (s.head h).reservation }
  others   : ∀ k, k ≠ h → w.head k = s.head k
  rack     : w.rack = s.rack
  advices  : w.advices = s.advices
  log      : w.log = if lost = true ∧ (s.head h).reservation = true then { s.log with
      reservations := s.log.reservations - 1
      lowFlag := s.log.lowFlag && decide (1024 - s.log.records.length - (s.log.reservations - 1) ≤ s.log.lowWater) }
    else s.log
  channel  : (w.channel h).state = (s.channel h).state
  outputs  : w.outputs = s.outputs
  link     : w.link = s.link
  service  : w.service = s.service

theorem State.Bereft.staging {h : HeadId} {lost : Bool} (b : s.Bereft h lost w) (k : HeadId) :
    (w.head k).staging = (s.head k).staging := by
  rcases eq_or_ne k h with rfl | ne
  · rw [b.head]
  · rw [b.others k ne]

theorem State.Bereft.refl (s : State) (h : HeadId) : s.Bereft h false s :=
  ⟨rfl, fun _ _ => rfl, rfl, rfl, rfl, rfl, rfl, rfl, rfl⟩

theorem State.Bereft.lineTaken (s : State) (h : HeadId) (n : Nat) : s.Bereft h false (s.lineTaken n) :=
  ⟨rfl, fun _ _ => rfl, rfl, rfl, rfl, rfl, rfl, rfl, rfl⟩

theorem State.Bereft.cradleSeen (s : State) (h : HeadId) (n : Nat) :
    s.Bereft h false (updateChannel h Channel.cradleSeen (s.lineTaken n)) :=
  ⟨rfl, fun _ _ => rfl, rfl, rfl, rfl, by rw [updateChannel_channel]; rfl, rfl, rfl, rfl⟩

theorem State.Bereft.giveBack (s : State) (h : HeadId) (n : Nat) : s.Bereft h true (giveBack h (s.lineTaken n)) where
  head := by rw [giveBack_head]; rfl
  others k ne := by rw [giveBack_head_of_ne _ ne]; rfl
  rack := by simp [State.lineTaken]
  advices := by simp [State.lineTaken]
  log := by
    rw [giveBack_log]
    simp [State.lineTaken]
  channel := by simp [State.lineTaken]
  outputs := by simp [State.lineTaken]
  link := by simp [State.lineTaken]
  service := by simp [State.lineTaken]

/-- The step faults head `h`: it ends well past `enterFault`, from a state that is `s` but for the reservation given back. -/
def Faults (s : State) (h : HeadId) (c : Instr) (cause : HeadFaultCause) (lost : Bool) : Prop :=
  ∃ w t, s.Bereft h lost w ∧ exec c s = .next t ∧ (enterFault h cause w).Settles t

section
variable {h : HeadId}

theorem faults_of_work {c : Instr} {cause : HeadFaultCause} {f : State → State} (exec : exec c s = done (settled f s))
    (work : f s = enterFault h cause s) : Faults s h c cause false := by
  obtain ⟨t, next, settles⟩ := done_settled f (.inl fun k => by rw [work, enterFault_staging])
  rw [work] at settles
  exact ⟨s, t, .refl s h, exec.trans next, settles⟩

theorem faults_of_edge {n : Fin 16} {a lost : Bool} {cause : HeadFaultCause} (line : n.val = cradleLine h)
    (debounced : (s.input n).debounced = some (!a)) (raw : (s.input n).raw = a)
    (running : (s.input n).timer.isSome = true) (bereft : s.Bereft h lost w)
    (work : signalEdge (cradleLine h) a (s.lineTaken (cradleLine h)) = enterFault h cause w) :
    Faults s h (.debounceTimerExpiry n) cause lost := by
  obtain ⟨t, next, settles⟩ := exec_edge line debounced raw running
    (.inl fun k => by rw [work, enterFault_staging, bereft.staging])
  rw [work] at settles
  exact ⟨w, t, bereft, next, settles⟩

/-- An activation of CRADLE_SENSE with no bag due (R22). -/
theorem cradleActivated_faults {s : State} (due : ((s.head h).state = .closed ∧ (s.head h).starting = false) ∨
    (s.head h).state = .warming ∨ (s.head h).state = .ready) :
    cradleActivated h s = enterFault h .unexpectedCradle s := by
  rcases due with ⟨closed, made⟩ | warming | ready
  · simp [cradleActivated, closed, made]
  · simp [cradleActivated, warming]
  · simp [cradleActivated, ready]
end

/-- Settles O10: each of the five ways leads to `enterFault`, whose effect is the same in all. -/
theorem headsFaultWithTheirCause : Obligations.HeadsFaultWithTheirCause := by
  intro s h c cause sized ways lost
  have faults : Faults s h c cause lost := by
    rcases ways with ⟨rfl, rfl, intake, running⟩ | ⟨rfl, rfl, descent, running⟩ | ⟨rfl, rfl, discharge, running⟩ |
      ⟨n, rfl, rfl, line, due, debounced, raw, running⟩ | ⟨n, rfl, rfl, line, state, debounced, raw, running⟩
    · have kept : lost = false := by simp [lost, intake]
      rw [kept]
      exact faults_of_work rfl (if_pos ⟨intake, running⟩)
    · have kept : lost = false := by simp [lost, descent]
      rw [kept]
      exact faults_of_work rfl (if_pos ⟨descent, running⟩)
    · have kept : lost = false := by simp [lost, discharge]
      rw [kept]
      exact faults_of_work rfl (if_pos ⟨discharge, running⟩)
    · have kept : lost = false := by rcases due with ⟨state, _⟩ | state | state <;> simp [lost, state]
      rw [kept]
      refine faults_of_edge (a := true) line debounced raw running (.cradleSeen s h (cradleLine h)) ?_
      rw [signalEdge_cradle]
      exact cradleActivated_faults due
    · rcases state with state | state | state
      · have gone : lost = true := by simp [lost, state]
        rw [gone]
        refine faults_of_edge (a := false) line debounced raw running (.giveBack s h (cradleLine h)) ?_
        rw [signalEdge_cradle_off]
        simp only [cradleDeactivated, State.lineTaken_head, state]
      · have kept : lost = false := by simp [lost, state]
        rw [kept]
        refine faults_of_edge (a := false) line debounced raw running (.lineTaken s h (cradleLine h)) ?_
        rw [signalEdge_cradle_off]
        simp only [cradleDeactivated, State.lineTaken_head, state]
      · have gone : lost = true := by simp [lost, state]
        rw [gone]
        refine faults_of_edge (a := false) line debounced raw running (.giveBack s h (cradleLine h)) ?_
        rw [signalEdge_cradle_off]
        simp only [cradleDeactivated, State.lineTaken_head, state]
  obtain ⟨w, t, bereft, next, settles⟩ := faults
  have outputs := enterFault_outputs (s := w) (by rw [bereft.outputs]; exact sized.outputs) h cause
  refine ⟨t, next, ?_, fun k ne => ?_, ?_, ?_, ?_, fun r examine weighing => ?_, ?_, ?_, ?_, ?_, ?_, fun room => ?_, ?_⟩
  · rw [settles.head, enterFault_head, bereft.head]
  · rw [settles.head, enterFault_head_of_ne _ _ ne, bereft.others k ne]
  · rw [settles.rack, ← bereft.rack]; simp
  · rw [settles.advices, ← bereft.advices]; simp
  · rw [settles.log]
    exact (enterFault_frame w h cause).2.2.2.1.trans bereft.log
  · rw [settles.channel]
    exact enterFault_idle cause (by rw [bereft.head]; exact examine) (.inl ⟨r, bereft.channel.trans weighing⟩)
  · rw [settles.alarm]
    exact enterFault_latched w h cause
  · rw [settles.output]; exact outputs.1
  · rw [settles.output]; exact outputs.2.1
  · rw [settles.output]; exact outputs.2.2.1
  · rw [settles.output]; exact outputs.2.2.2
  · rw [← bereft.link] at room
    exact settles.branch (enterFault_sends h cause room)
  · rw [settles.service, enterFault_faults, bereft.service]

/-! ### The end of a discharge -/

/-- A head at the end of its discharge: the gate timer stopped, the beam count 0 (R17). -/
def Head.discharged (hd : Head) : Head := { hd with gateTimer := none, beamCount := 0 }

section
variable {h : HeadId}

theorem endDischarge_of_pending {cause : CloseCause} (pending : (s.head h).closePending = some cause) :
    endDischarge h s = closeHead h (.cause cause) (updateHead h Head.discharged s) := by
  simp only [endDischarge, updateHead_head, pending]
  rfl

/-- With its channel powered and more than one free place, the head is READY again, with a new reservation (R17, R93). -/
theorem endDischarge_of_free (pending : (s.head h).closePending = none) (idle : (s.channel h).state = .idle)
    (free : 2 ≤ s.logFree) : ∃ u, takeReservation h (updateHead h Head.discharged s) = some u ∧
      endDischarge h s = moveHead h (fun hd => { hd with state := .ready }) u := by
  have same : (updateHead h Head.discharged s).logFree = s.logFree := by simp [State.logFree]
  obtain ⟨u, taken⟩ := exists_takeReservation (s := updateHead h Head.discharged s) h (by omega)
  have places := takeReservation_logFree taken
  rw [same] at places
  have begun : takeReservation h (updateHead h (fun hd => { hd with gateTimer := none, beamCount := 0 }) s) = some u := taken
  refine ⟨u, taken, ?_⟩
  simp only [endDischarge, updateHead_head, pending, updateHead_channel, idle, Channel.isWarming, begun]
  exact signalIfFull_of_free _ (by simp only [moveHead_frame]; omega)
end

theorem closeHead_sends (h : HeadId) (cause : ClosedCause) (room : s.link.branch.notices.length < 32) :
    Notice.headClosed h cause ∈ (closeHead h cause s).link.branch.notices :=
  (((State.Raises.refl _).moveHead ..).endUnwantedWarmUp _).mem ((State.Raises.refl s).mem_notify rfl (by omega))

/-- Settles O13: the cradle's clearing is `cradleCleared`, the gate's shutting `endDischarge`. -/
theorem dischargeGoesToStaging : Obligations.DischargeGoesToStaging := by
  intro s h n sized discharge running
  refine ⟨fun seq line record debounced raw open' busy => ?_, fun line record debounced raw =>
    ⟨fun cause pending => ?_, fun pending idle free => ?_⟩⟩
  · let f : Head → Head := fun hd => { hd with staging := hd.staging ++ [seq], cradleRecord := none }
    let u := s.lineTaken (cradleLine h)
    have work : signalEdge (cradleLine h) false u = updateHead h f u := by
      rw [signalEdge_cradle_off]
      simp only [cradleDeactivated, u, State.lineTaken_head, discharge, cradleCleared, record]
      refine if_neg ?_
      have still : u.active (gateShutLine h) = s.active (gateShutLine h) :=
        State.lineTaken_active_of_ne (by cases h <;> decide)
      simp [still, open', u]
    obtain ⟨t, next, settles⟩ := exec_edge line debounced raw running (.inr (by
      show (signalEdge (cradleLine h) false u).lift.state ≠ .idle
      rw [work]; simpa [u, State.lineTaken] using busy))
    rw [show s.lineTaken (cradleLine h) = u from rfl, work] at settles
    have same : t.head h = f (s.head h) := by rw [settles.head, updateHead_head]; rfl
    refine ⟨t, next, same, fun k ne => by rw [settles.head, updateHead_head_of_ne _ _ ne]; rfl, ?_, ?_, ?_⟩
    · rw [settles.log]; simp [u, State.lineTaken]
    · rw [settles.lift]; simp [u, State.lineTaken]
    · rw [((updateHead_commands (s := u) sized.outputs h f).settles settles).gate, same]
      simp [Head.gate, f]
  · let u := s.lineTaken (gateShutLine h)
    have work : signalEdge (gateShutLine h) true u = closeHead h (.cause cause) (updateHead h Head.discharged u) := by
      rw [signalEdge_gateShut, gateShut, if_pos ⟨discharge, record⟩,
        endDischarge_of_pending (s := u) pending]
    have head : (signalEdge (gateShutLine h) true u).head h =
        { (s.head h).discharged with state := .closed, closePending := none } := by
      rw [work, closeHead_head, updateHead_head]; rfl
    have others : ∀ k, k ≠ h → (signalEdge (gateShutLine h) true u).head k = s.head k := fun k ne => by
      rw [work, closeHead_head_of_ne _ _ ne, updateHead_head_of_ne _ _ ne]; rfl
    obtain ⟨t, next, settles⟩ := exec_edge line debounced raw running (.inl fun k => by
      rcases eq_or_ne k h with rfl | ne
      · rw [head]; rfl
      · rw [others k ne])
    refine ⟨t, next, (settles.head h).trans head, fun k ne => (settles.head k).trans (others k ne), ?_, fun room => ?_⟩
    · rw [settles.log, work]; simp [u, State.lineTaken]
    · refine settles.branch ?_
      rw [work]
      exact closeHead_sends h _ (by simpa [u, State.lineTaken] using room)
  · let u := s.lineTaken (gateShutLine h)
    obtain ⟨v, taken, ends⟩ := endDischarge_of_free (s := u) (h := h) pending idle free
    have work : signalEdge (gateShutLine h) true u = moveHead h (fun hd => { hd with state := .ready }) v := by
      rw [signalEdge_gateShut, gateShut, if_pos ⟨discharge, record⟩, ends]
    obtain ⟨_, reserved, kept, records, _, reservations⟩ := takeReservation_spec _ taken
    have outputs : v.outputs = (updateHead h Head.discharged u).outputs := (takeReservation_frame _ taken).2.2.2.2.2.2.2.2.1
    have head : (signalEdge (gateShutLine h) true u).head h =
        { (s.head h).discharged with state := .ready, reservation := true } := by
      rw [work, moveHead_head, reserved, updateHead_head]; rfl
    have others : ∀ k, k ≠ h → (signalEdge (gateShutLine h) true u).head k = s.head k := fun k ne => by
      rw [work, moveHead_head_of_ne _ _ ne, kept k ne, updateHead_head_of_ne _ _ ne]; rfl
    obtain ⟨t, next, settles⟩ := exec_edge line debounced raw running (.inl fun k => by
      rcases eq_or_ne k h with rfl | ne
      · rw [head]; rfl
      · rw [others k ne])
    have same := (settles.head h).trans head
    rw [show s.lineTaken (gateShutLine h) = u from rfl, work] at settles
    have commands : t.Commands h := (moveHead_commands (by rw [outputs]; simpa [u, State.lineTaken] using sized.outputs) h _).settles settles
    refine ⟨t, next, same, fun k ne => ?_, ?_, ?_, ?_, ?_⟩
    · rw [settles.head, ← others k ne, work]
    · rw [settles.log]; simpa [u, State.lineTaken] using records
    · rw [settles.log]; simpa [u, State.lineTaken] using reservations
    · rw [commands.flap, same]; rfl
    · rw [commands.lamp, same]; simp [Head.lamp, Head.discharged, pending]

end Sys2Proof.Machine
end

section
/-! Settings stored as given, and values outside their ranges refused (R3, R28, R46, R65 to R67, R96, R97, R108, R121, R143,
R146, R148, R171, R201). -/

namespace Sys2Proof.Machine

variable {s t : State} {r : Req} {c : Instr}

/-- A request at an idle port is answered with what its owner's rule makes of the state that holds it, where both checks
before the rule pass (R198). -/
theorem exec_answered {serviceOnly : Bool} {own : State → State × Reply} {rep : Reply} (request : requestOf c = some r)
    (rule : takeRequest c = guarded serviceOnly r own) (takes : s.takes r) (port : serviceOnly = true → r.port = .service)
    (answer : own (s.holding r c) = (t, rep)) : exec c s = .next (t.replied r rep) := by
  rw [exec_taken s request takes.2, rule, guarded_of_ok _ own port takes.1, answer]

theorem inRange_iff (lo hi n : Nat) : inRange lo hi n = true ↔ lo ≤ n ∧ n ≤ hi := by simp [inRange]

theorem inRange_eq_false_iff (lo hi n : Nat) : inRange lo hi n = false ↔ n < lo ∨ hi < n := by
  rw [← Bool.not_eq_true, inRange_iff]
  omega

/-! ### Settings stored -/

theorem headSettingsOk_iff (v : HeadSettings) : headSettingsOk v = true ↔
    (5 ≤ v.intakeTimeout ∧ v.intakeTimeout ≤ 120) ∧ (500 ≤ v.descentTimeout ∧ v.descentTimeout ≤ 5000) ∧
      (100 ≤ v.identWindow ∧ v.identWindow ≤ 2000) ∧ 1 ≤ v.gateTimeout ∧ v.gateTimeout ≤ 10 := by
  simp [headSettingsOk, inRange_iff, and_assoc]

theorem scanSettingsOk_iff (v : ScanSettings) : scanSettingsOk v = true ↔
    (100 ≤ v.scanPeriod ∧ v.scanPeriod ≤ 2000) ∧ (5 ≤ v.auxSettle ∧ v.auxSettle ≤ 200) ∧
      (3000 ≤ v.refLow ∧ v.refLow ≤ 5000) ∧ (5000 ≤ v.refHigh ∧ v.refHigh ≤ 6000) ∧ v.refLow < v.refHigh ∧
      300 ≤ v.tempLimit ∧ v.tempLimit ≤ 850 := by
  simp [scanSettingsOk, inRange_iff, and_assoc]

theorem Channel.withSettings_of_weighing {ch : Channel} {w : WeighRecord} (v : WeighSettings)
    (weighing : ch.state = .weighing w) : ch.withSettings v = { ch with settings := v } := by
  simp [Channel.withSettings, weighing]

theorem Channel.withSettings_of_not_weighing {ch : Channel} (v : WeighSettings) (not : ∀ w, ch.state ≠ .weighing w) :
    ch.withSettings v = { ch with
      settings := v
      gathered := if v.exponent = ch.settings.exponent then ch.gathered else ⟨0, 0, false, true⟩ } := by
  unfold Channel.withSettings
  split
  · exact absurd ‹_› (not _)
  all_goals rfl

/-- The full timeout of the watch (R201). -/
theorem Link.timeout_eq (l : Link) :
    l.timeout = if l.count = 0 then none else some (if l.unit = WatchUnit.second then l.count else 60 * l.count) := by
  unfold Link.timeout
  split
  · rfl
  · cases l.unit
    · simp
    · simp [Nat.mul_comm]

/-- Settles O39: each rule stores what it was given, its values being in range. -/
theorem unitSettingsAreStored : Obligations.UnitSettingsAreStored := by
  intro s r takes
  refine ⟨fun n h v known i1 i2 d1 d2 w1 w2 g1 g2 => ?_, fun n h v port known ok => ⟨fun w weighing => ?_, fun not => ?_⟩,
    fun v port p1 p2 x1 x2 l1 l2 u1 u2 order t1 t2 => ?_, fun n unit policy le => ?_, fun mode n time n1 n2 t1 t2 => ?_⟩
  · refine exec_answered (serviceOnly := false) rfl rfl takes nofun ?_
    simp only [known]
    rw [if_pos ((headSettingsOk_iff v).mpr ⟨⟨i1, i2⟩, ⟨d1, d2⟩, ⟨w1, w2⟩, g1, g2⟩)]
    rfl
  · refine exec_answered rfl rfl takes (fun _ => port) ?_
    simp only [known, ok, if_true]
    exact congrArg (accept .done <| State.setChannel _ h ·) (Channel.withSettings_of_weighing v weighing)
  · refine exec_answered rfl rfl takes (fun _ => port) ?_
    simp only [known, ok, if_true]
    exact congrArg (accept .done <| State.setChannel _ h ·) (Channel.withSettings_of_not_weighing v not)
  · refine exec_answered rfl rfl takes (fun _ => port) ?_
    rw [if_pos ((scanSettingsOk_iff v).mpr ⟨⟨p1, p2⟩, ⟨x1, x2⟩, ⟨l1, l2⟩, ⟨u1, u2⟩, order, t1, t2⟩)]
    rfl
  · refine exec_answered (serviceOnly := false) rfl rfl takes nofun ?_
    rw [if_neg (by omega)]
    simp only [accept, restartWatch, Link.timeout_eq]
  · refine exec_answered (serviceOnly := false) rfl rfl takes nofun ?_
    simp only [(inRange_iff 1 8 n).mpr ⟨n1, n2⟩, (inRange_iff 5 120 time).mpr ⟨t1, t2⟩]
    rfl

/-! ### Values out of range -/

theorem headSettingsOk_eq_false {v : HeadSettings} (outside : v.intakeTimeout < 5 ∨ 120 < v.intakeTimeout ∨
    v.descentTimeout < 500 ∨ 5000 < v.descentTimeout ∨ v.identWindow < 100 ∨ 2000 < v.identWindow ∨ v.gateTimeout < 1 ∨
    10 < v.gateTimeout) : headSettingsOk v = false := by
  rw [← Bool.not_eq_true, headSettingsOk_iff]
  omega

theorem scanSettingsOk_eq_false {v : ScanSettings} (outside : v.scanPeriod < 100 ∨ 2000 < v.scanPeriod ∨ v.auxSettle < 5 ∨
    200 < v.auxSettle ∨ v.refLow < 3000 ∨ 5000 < v.refLow ∨ v.refHigh < 5000 ∨ 6000 < v.refHigh ∨ v.refHigh ≤ v.refLow ∨
    v.tempLimit < 300 ∨ 850 < v.tempLimit) : scanSettingsOk v = false := by
  rw [← Bool.not_eq_true, scanSettingsOk_iff]
  omega

theorem weighSettingsOk_eq_false {v : WeighSettings} (outside : v.warmUpTime < 1 ∨ 60 < v.warmUpTime ∨ v.idleTime < 1 ∨
    120 < v.idleTime ∨ v.sampleInterval < 2 ∨ 100 < v.sampleInterval ∨ v.acquisitionTime < 1 ∨ 50 < v.acquisitionTime ∨
    5 < v.exponent ∨ 1000 < v.settleDelay ∨ 50000 < v.settleBand ∨ v.settleCount < 2 ∨ 15 < v.settleCount ∨
    v.settleTimeout < 500 ∨ 10000 < v.settleTimeout ∨ v.zeroInterval < 1 ∨ 60 < v.zeroInterval ∨ 500000 < v.zeroWindow) :
    weighSettingsOk v = false := by
  rw [← Bool.not_eq_true]
  simp only [weighSettingsOk, Bool.and_eq_true, inRange_iff, decide_eq_true_eq]
  omega

theorem minuteOk_eq_false_iff (m : Nat) : minuteOk m = false ↔ 1439 < m := by simp [minuteOk]

/-- A request whose rule refuses it leaves the state that holds it as it is (R198). -/
theorem exec_out_of_range (serviceOnly : Bool) {own : State → State × Reply} (request : requestOf c = some r)
    (takes : s.takes r) (port : r.port = .service) (rule : takeRequest c = guarded serviceOnly r own)
    (refused : own (s.holding r c) = refuse .paramRange (s.holding r c)) :
    exec c s = .next ((s.holding r c).replied r (.refused .paramRange)) :=
  exec_answered request rule takes (fun _ => port) refused

/-- Settles O41: each rule tests its values before it does anything. -/
theorem outOfRangeIsRefused : Obligations.OutOfRangeIsRefused := by
  intro c r s takes port request outside
  rcases outside with ⟨n, h, v, rfl, known, outside⟩ | ⟨n, h, v, rfl, known, outside⟩ | ⟨v, rfl, outside⟩ |
    ⟨n, unit, policy, rfl, outside⟩ | ⟨code, kind, mass, enabled, rfl, outside⟩ | ⟨bagType, tare, rfl, outside⟩ |
    ⟨cls, floor, perMille, rfl, outside⟩ | ⟨n, rfl, outside⟩ | ⟨mode, n, time, rfl, outside⟩ |
    ⟨night, day, enabled, rfl, outside⟩ | ⟨opens, closes, rfl, outside⟩ | ⟨confirm, unlock, limit, rfl, outside⟩ |
    ⟨n, level, rfl, low, high⟩ | ⟨first, n, rfl, outside⟩ | ⟨from', n, rfl, outside⟩
  · exact exec_out_of_range false request takes port rfl (by simp [known, headSettingsOk_eq_false outside])
  · exact exec_out_of_range true request takes port rfl (by simp [known, weighSettingsOk_eq_false outside])
  · exact exec_out_of_range true request takes port rfl (by simp [scanSettingsOk_eq_false outside])
  · exact exec_out_of_range false request takes port rfl (if_pos outside)
  · exact exec_out_of_range false request takes port rfl (if_pos (by rw [inRange_eq_false_iff]; omega))
  · exact exec_out_of_range false request takes port rfl (if_pos outside)
  · exact exec_out_of_range false request takes port rfl (if_pos outside)
  · exact exec_out_of_range false request takes port rfl (if_neg (by rw [inRange_iff]; omega))
  · exact exec_out_of_range false request takes port rfl
      (if_neg (by rw [Bool.and_eq_true, inRange_iff, inRange_iff]; omega))
  · exact exec_out_of_range false request takes port rfl
      (if_pos (by rw [minuteOk_eq_false_iff, minuteOk_eq_false_iff]; omega))
  · exact exec_out_of_range false request takes port rfl
      (if_pos (by rw [minuteOk_eq_false_iff, minuteOk_eq_false_iff]; omega))
  · exact exec_out_of_range false request takes port rfl (if_neg (by simp only [Bool.and_eq_true, inRange_iff]; omega))
  · exact exec_out_of_range false request takes port rfl (if_neg (by simp only [gpOut1, gpOut2]; omega))
  · exact exec_out_of_range false request takes port rfl (if_pos (by rw [inRange_eq_false_iff]; omega))
  · exact exec_out_of_range false request takes port rfl (if_pos (by rw [inRange_eq_false_iff]; omega))

end Sys2Proof.Machine
end

section
/-! The frames that a port sends, and how they leave its queues (R194, R198, R199, R205 to R207). -/

namespace Sys2Proof.Machine

variable {s : State}

/-! ### Requests as frames name them -/

theorem Byte.eq_of_toNat {b : Byte} {n : Nat} (same : b.toNat = n) : BitVec.ofNat 8 n = b := by
  rw [← same, BitVec.ofNat_toNat, BitVec.setWidth_eq]

/-- The request of a frame has the frame's kind, port and number (R194, R196). -/
theorem requestOfFrame_spec (p : PortId) (kind number : Byte) (payload : List Byte) (request : isRequestKind kind = true) :
    requestKind (requestOfFrame p kind number payload) = kind ∧
      ∃ r, requestOf (requestOfFrame p kind number payload) = some r ∧ r.port = p ∧ r.number = number := by
  have range : 1 ≤ kind.toNat ∧ kind.toNat ≤ 0x3F := by simpa [isRequestKind] using request
  simp only [requestOfFrame]
  repeat' split
  all_goals refine ⟨?_, _, rfl, rfl, rfl⟩
  case' h_58 =>
    refine Byte.eq_of_toNat (n := 0x3A + (Fin.ofNat 6 (kind.toNat - 0x3A)).val) ?_
    have above : 0x3A ≤ kind.toNat := by
      by_contra below
      obtain ⟨low, _⟩ := range
      interval_cases kind.toNat <;> contradiction
    simp only [Fin.ofNat]
    omega
  all_goals exact Byte.eq_of_toNat ‹_›

/-! ### What a port sends -/

theorem littleEndian_one (n : Nat) : littleEndian 1 n = [BitVec.ofNat 8 n] := rfl

/-- The four bytes of a number below 2^32, low byte first (R205). -/
theorem littleEndian_four {n : Nat} (lt : n < 2 ^ 32) : ∃ b0 b1 b2 b3 : Byte, littleEndian 4 n = [b0, b1, b2, b3] ∧
    b0.toNat + 256 * b1.toNat + 65536 * b2.toNat + 16777216 * b3.toNat = n := by
  refine ⟨_, _, _, _, rfl, ?_⟩
  simp only [BitVec.toNat_ofNat]
  omega

theorem outcomeByte_eq (code : Option Refuse) :
    outcomeByte code = (code.map fun code => BitVec.ofNat 8 (refuseCode code)).getD 0 := by
  cases code <;> rfl

theorem Port.sending_of_reply {p : Port} {c : Instr} {rest : List Instr} {rep : Reply}
    (sends : p.transmitter = .sendingReply) (requests : p.requests = c :: rest) (reply : p.reply = some rep) :
    p.sending = some (replyFrame c rep) := by
  simp [Port.sending, sends, requests, reply]

theorem Port.sending_of_notice {p : Port} {n : Notice} {rest : List Notice} (sends : p.transmitter = .sendingNotice)
    (notices : p.notices = n :: rest) : p.sending = some (noticeFrame n) := by
  simp [Port.sending, sends, notices]

theorem Port.sending_of_free {p : Port} (free : p.transmitter = .free) : p.sending = none := by
  simp [Port.sending, free]

theorem noticeKind_range (n : Notice) : 0x40 ≤ (noticeKind n).toNat ∧ (noticeKind n).toNat ≤ 0x5F := by
  cases n <;> simp [noticeKind]

/-! ### A frame sent -/

/-- After the reply to any other request the next one is taken (R199). -/
theorem afterReply_of_other {p : PortId} {c : Instr} (rep : Option Reply) (s : State) (restart : ∀ r, c ≠ .restart r)
    (cold : ∀ r, c ≠ .coldInitialise r) : afterReply p (some c) rep s = takeNext p s := by
  unfold afterReply
  split
  · exact absurd (Option.some.inj ‹_›) (restart _)
  · exact absurd (Option.some.inj ‹_›) (cold _)
  · rfl

theorem takeNext_of_empty {p : PortId} (empty : (s.port p).requests = []) : takeNext p s = s := by
  simp [takeNext, empty]

theorem takeNext_of_cons {p : PortId} {c : Instr} {rest : List Instr} (requests : (s.port p).requests = c :: rest) :
    takeNext p s = answer p (takeRequest c s) := by
  simp [takeNext, requests]

theorem frameGone_of_free {p : PortId} (free : (s.port p).transmitter = .free) : frameGone p s = s := by
  simp [frameGone, free]

theorem frameGone_of_notice {p : PortId} (sends : (s.port p).transmitter = .sendingNotice) :
    frameGone p s = s.setPort p { s.port p with transmitter := .free, notices := (s.port p).notices.drop 1 } := by
  simp [frameGone, sends]

/-- The state in which a reply has left its port, before anything follows it (R199). -/
def State.replyGone (s : State) (p : PortId) : State :=
  s.setPort p { s.port p with transmitter := .free, reply := none, requests := (s.port p).requests.tail }

theorem frameGone_of_reply {p : PortId} (sends : (s.port p).transmitter = .sendingReply) :
    frameGone p s = afterReply p (s.port p).requests.head? (s.port p).reply (s.replyGone p) := by
  simp [frameGone, sends, State.replyGone]

/-- Settles O33: the frame is read off the port, and its last byte moves the queues. -/
theorem sentFramesLeaveTheirQueues : Obligations.SentFramesLeaveTheirQueues := by
  intro p s frame
  refine ⟨fun c rest r rep sends requests request reply => ?_, fun n rest sends notices => ?_,
    requestOfFrame_spec p, fun free => ⟨Port.sending_of_free free, congrArg done (frameGone_of_free free)⟩,
    fun sends => congrArg done (frameGone_of_notice sends), fun c rest sends requests restart cold => ?_⟩
  · refine ⟨replyPayload rep, ?_, ?_, ?_, ?_, ?_, ?_, ?_⟩
    · rw [Port.sending_of_reply sends requests reply, replyFrame, replyNumber, request]
      rfl
    · rintro code rfl
      rfl
    · rintro body rfl
      exact okPayload_head body
    · rintro images next rfl _ lt
      obtain ⟨b0, b1, b2, b3, bytes, sum⟩ := littleEndian_four lt
      refine ⟨b0, b1, b2, b3, ?_, sum⟩
      rw [replyPayload_records, recordsPayload, littleEndian_one, bytes]
      rfl
    · rintro bytes rfl
      rfl
    · rintro v rfl
      exact congrArg (0 :: ·) (List.map_congr_left fun x _ => outcomeByte_eq x.2)
    · rintro m v rfl
      exact ⟨_, congrArg (fun bytes => 0 :: (_ ++ bytes)) (List.map_congr_left fun x _ => outcomeByte_eq x.2)⟩
  · refine ⟨noticePayload n, ?_, noticePayload_length n, noticeKind_range n⟩
    rw [Port.sending_of_notice sends notices]
    rfl
  · intro u
    have gone : frameGone p s = takeNext p u := by
      rw [frameGone_of_reply sends, requests]
      refine (afterReply_of_other _ _ restart cold).trans ?_
      rw [State.replyGone, requests]
      rfl
    have left : (u.port p).requests = rest := by simp [u]
    refine ⟨fun empty => ?_, fun d more waiting => ?_⟩
    · exact congrArg done (gone.trans (takeNext_of_empty (left.trans empty)))
    · exact congrArg done (gone.trans (takeNext_of_cons (left.trans waiting)))

end Sys2Proof.Machine
end

section
/-! Heads opened, closed, and cleared of a fault at request (R4, R5, R19, R20, R24, R29, R93). -/

namespace Sys2Proof.Machine

variable {s t : State} {r : Req} {c : Instr} {h : HeadId}

/-! ### Requests that may call for an arbitration -/

/-- A request whose rule leaves the state as it is answers alone (R198). -/
theorem exec_settled_answered {serviceOnly : Bool} {own : State → State × Reply} {rep : Reply}
    (request : requestOf c = some r) (rule : takeRequest c = guarded serviceOnly r (settledReply own)) (takes : s.takes r)
    (port : serviceOnly = true → r.port = .service) (answer : own (s.holding r c) = (s.holding r c, rep)) :
    exec c s = .next ((s.holding r c).replied r rep) := by
  refine exec_answered request rule takes port ?_
  have same : settledReply own (s.holding r c) = own (s.holding r c) :=
    settledReply_of_same _ own (fun _ => by rw [answer]) (fun _ => by rw [answer]) (by rw [answer])
  rw [same, answer]

/-- A request whose rule calls for no arbitration leaves what the rule made. -/
theorem exec_settled {serviceOnly : Bool} {own : State → State × Reply} {rep : Reply} (request : requestOf c = some r)
    (rule : takeRequest c = guarded serviceOnly r (settledReply own)) (takes : s.takes r)
    (port : serviceOnly = true → r.port = .service) (answer : own (s.holding r c) = (t, rep))
    (staging : ∀ k, (t.head k).staging = (s.head k).staging) : ∃ u, exec c s = .next u ∧ t.Settles u := by
  refine ⟨_, exec_answered request rule takes port (t := settleDrain (s.holding r c) t) (rep := rep) ?_,
    (State.Settles.settleDrain (s.holding r c) t).trans (.replied r rep _)⟩
  simp only [settledReply, answer]
  rw [arbitrateIfFilled_of_undisturbed (.inl fun k => by rw [staging]; simp)]

/-! ### Opening -/

theorem headList_singleton {n : Nat} (known : headOfCode n = some h) : headList [n] = some [h] := by
  simp [headList, known]

/-- The rule of HEAD_OPEN for one head (R5). -/
def openOne (n : Nat) (s : State) : State × Reply :=
  match headList [n] with
  | none => refuse .badFormat s
  | some hs =>
    if s.mode ≠ .night then refuse .wrongMode s
    else if s.clock = none then refuse .clockUnset s
    else
      let out := openHeads false hs s
      accept (.headOutcomes out.1) out.2

theorem takeRequest_headOpen (r : Req) (n : Nat) : takeRequest (.headOpen r [n]) = guarded false r (settledReply (openOne n)) :=
  rfl

section
variable {n : Nat} (known : headOfCode n = some h)
include known

theorem openOne_of_mode (mode : s.mode ≠ .night) : openOne n s = (s, .refused .wrongMode) := by
  simp [openOne, headList_singleton known, mode, refuse]

theorem openOne_of_unset (mode : s.mode = .night) (unset : s.clock = none) : openOne n s = (s, .refused .clockUnset) := by
  simp [openOne, headList_singleton known, mode, unset, refuse]

theorem openOne_of_refusal {code : Refuse} (mode : s.mode = .night) (set : s.clock.isSome = true)
    (refusal : openRefusal s h = some code) : openOne n s = (s, .ok (.headOutcomes [(h, some code)])) := by
  have clock : s.clock ≠ none := by intro none; simp [none] at set
  simp [openOne, headList_singleton known, mode, clock, openHeads, decideOpenings, refusal, accept]

/-- One head that passes is opened; log full is signalled only where the flag says so (R5, R94). -/
theorem openOne_of_pass (mode : s.mode = .night) (set : s.clock.isSome = true) (pass : openRefusal s h = none)
    (opened : openHead h s = (false, t)) : openOne n s = (t, .ok (.headOutcomes [(h, none)])) := by
  have clock : s.clock ≠ none := by intro none; simp [none] at set
  simp [openOne, headList_singleton known, mode, clock, openHeads, decideOpenings, pass, opened, accept]
end

theorem openRefusal_holding (r : Req) (c : Instr) : openRefusal (s.holding r c) h = openRefusal s h := by
  simp [openRefusal]

theorem askWarm_of_off (off : (s.channel h).state = .off) : askWarm h s = updateChannel h (·.powerUp (s.cradle h)) s := by
  simp [askWarm, off]

theorem askWarm_of_idle (idle : (s.channel h).state = .idle) : askWarm h s = s := by simp [askWarm, idle]

/-- With no calibration step in progress a head that moves leaves its channel but for the idle timer (R32). -/
theorem moveHead_sameButIdle_of_stepless (f : Head → Head) (stepless : s.service.step = none) :
    (s.channel h).SameButIdle ((moveHead h f s).channel h) := by
  have off : (updateHead h f s).stepOn h = false := by simp [State.stepOn, stepless]
  have same := refreshIdle_sameButIdle (s := updateHead h f s) h
  rw [updateHead_channel] at same
  simpa [moveHead, off] using same

/-- The head that HEAD_OPEN has found CLOSED, its close pending cleared (R5). -/
def Head.unpended (hd : Head) : Head := { hd with closePending := none }

theorem openHead_of_off (closed : (s.head h).state = .closed) (off : (s.channel h).state = .off) :
    openHead h s = (false, moveHead h (fun hd => { hd with state := .warming })
      (updateChannel h (·.powerUp (s.cradle h)) (updateHead h Head.unpended s))) := by
  have warm : askWarm h (updateHead h Head.unpended s) =
      updateChannel h (·.powerUp (s.cradle h)) (updateHead h Head.unpended s) := by
    rw [askWarm_of_off (by rw [updateHead_channel]; exact off)]
    simp
  simp only [openHead, if_pos closed, updateHead_channel, off]
  rw [← warm]
  rfl

/-- With its channel IDLE and more than one free place the head is READY with a reservation (R5, R93). -/
theorem openHead_of_idle (closed : (s.head h).state = .closed) (idle : (s.channel h).state = .idle) (free : 2 ≤ s.logFree) :
    ∃ u, takeReservation h (updateHead h Head.unpended s) = some u ∧
      openHead h s = (false, moveHead h (fun hd => { hd with state := .ready }) u) := by
  have same : (updateHead h Head.unpended s).logFree = s.logFree := by simp [State.logFree]
  obtain ⟨u, taken⟩ := exists_takeReservation (s := updateHead h Head.unpended s) h (by omega)
  have places := takeReservation_logFree taken
  have warm : askWarm h (updateHead h Head.unpended s) = updateHead h Head.unpended s :=
    askWarm_of_idle (by rw [updateHead_channel]; exact idle)
  have begun : takeReservation h (askWarm h (updateHead h (fun hd => { hd with closePending := none }) s)) = some u := by
    rw [← taken]
    exact congrArg _ warm
  refine ⟨u, taken, ?_⟩
  have left : u.logFree ≠ 0 := by omega
  simp only [openHead, if_pos closed, updateHead_channel, idle, begun, left, decide_false]

/-! ### Closing -/

/-- A closing head commands none of its outputs but by its state (R2). -/
theorem closeHead_commands (sized : s.outputs.length = 15) (h : HeadId) (cause : ClosedCause) :
    (closeHead h cause s).Commands h := by
  have told : (notify (.headClosed h cause) s).outputs.length = 15 := by simpa using sized
  exact (moveHead_commands told h fun hd => { hd with state := .closed, closePending := none }).of_same
    (by simp [closeHead]) (by simp [closeHead])

theorem receiveClose_of_shut (c : CloseCause) (ready : (s.head h).state = .ready)
    (shut : s.active (intakeShutLine h) = true) : receiveClose h c s = closeReady h ((s.head h).closePending.getD c)
      (updateHead h (fun hd => { hd with closePending := some ((s.head h).closePending.getD c) }) s) := by
  simp [receiveClose, ready, shut]

theorem receiveClose_of_closed (c : CloseCause) (closed : (s.head h).state = .closed) : receiveClose h c s = s := by
  simp [receiveClose, closed]

/-- A head that is neither CLOSED, WARMING nor READY keeps close pending and does nothing more (R19). -/
theorem receiveClose_of_kept (c : CloseCause) (closed : (s.head h).state ≠ .closed) (warming : (s.head h).state ≠ .warming)
    (ready : (s.head h).state ≠ .ready) : receiveClose h c s =
      updateHead h (fun hd => { hd with closePending := some ((s.head h).closePending.getD c) }) s := by
  simp only [receiveClose, if_neg closed, updateHead_head]

/-- The rule of HEAD_CLOSE for one head (R19). -/
theorem takeRequest_headClose {n : Nat} (r : Req) (known : headOfCode n = some h) : takeRequest (.headClose r [n]) =
    guarded false r (settledReply fun s => accept .done (receiveClose h .requested s)) := by
  simp only [takeRequest, takeHeadClose, headList_singleton known, List.foldl_cons, List.foldl_nil]

/-- A CLOSED head passes where none of the refusals of R5 applies. -/
theorem openRefusal_of_sound (sound : (s.channel h).refFault = false) (cool : s.scanner.tempHigh = false)
    (safe : s.active 13 = false) (closed : (s.head h).state = .closed) (awake : (s.head h).starting = false)
    (free : 1 ≤ s.logFree) : openRefusal s h = none := by
  simp [openRefusal, sound, cool, tamperLine, safe, closed, HeadState.isFault, awake, show s.logFree ≠ 0 by omega]

/-- Settles O44: the refusals in their order, `openHead`, and `receiveClose`. -/
theorem headsOpenAndClose : Obligations.HeadsOpenAndClose := by
  intro s r n h takes sized known
  have refusedAll : ∀ rep, openOne n (s.holding r (.headOpen r [n])) = (s.holding r (.headOpen r [n]), rep) →
      exec (.headOpen r [n]) s = .next ((s.holding r (.headOpen r [n])).replied r rep) := fun rep answer =>
    exec_settled_answered rfl (takeRequest_headOpen r n) takes nofun answer
  let u := s.holding r (.headOpen r [n])
  have outputs : u.outputs.length = 15 := by simpa [u] using sized.outputs
  refine ⟨fun mode => refusedAll _ (openOne_of_mode known (by simpa using mode)),
    fun night unset => refusedAll _ (openOne_of_unset known (by simpa using night) (by simpa using unset)),
    fun night set => ?_, fun closed => ?_, fun ready shut pending => ?_, fun state => ?_⟩
  · have refuses : ∀ code, openRefusal s h = some code → exec (.headOpen r [n]) s =
        .next ((s.holding r (.headOpen r [n])).replied r (.ok (.headOutcomes [(h, some code)]))) := fun code refusal =>
      refusedAll _ (openOne_of_refusal known (by simpa using night) (by simpa using set)
        (by rw [openRefusal_holding]; exact refusal))
    dsimp only
    refine ⟨fun fault => refuses _ (by simp [openRefusal, fault]),
      fun sound hot => refuses _ (by simp [openRefusal, sound, hot]),
      fun ⟨sound, cool⟩ active => refuses _ (by simp [openRefusal, sound, cool, tamperLine, active]),
      fun ⟨⟨sound, cool⟩, safe⟩ fault => refuses _ (by simp [openRefusal, sound, cool, tamperLine, safe, fault]),
      fun ⟨⟨⟨sound, cool⟩, safe⟩, _⟩ closed full =>
        refuses _ (by simp [openRefusal, sound, cool, tamperLine, safe, closed, full, HeadState.isFault]),
      fun ⟨⟨⟨sound, cool⟩, safe⟩, able⟩ places starting =>
        refuses _ (by simp only [openRefusal, sound, cool, tamperLine, safe, able, places, starting]; simp),
      fun ⟨⟨⟨sound, cool⟩, safe⟩, able⟩ awake closed => ⟨fun off free stepless => ?_, fun idle free => ?_⟩⟩
    · let f : Head → Head := fun hd => { hd with state := .warming }
      let v := updateChannel h (·.powerUp (u.cradle h)) (updateHead h Head.unpended u)
      have opened : openHead h u = (false, moveHead h f v) := openHead_of_off (by simpa [u] using closed) (by simpa [u] using off)
      have own := (moveHead_head v h f)
      have others : ∀ k, k ≠ h → (moveHead h f v).head k = s.head k := fun k ne => by
        rw [moveHead_head_of_ne _ _ ne]
        simp [v, updateHead_head_of_ne _ _ ne, u]
      obtain ⟨t, next, settles⟩ := exec_settled rfl (takeRequest_headOpen r n) takes nofun
        (openOne_of_pass known (by simpa using night) (by simpa using set)
          (by rw [openRefusal_holding]; exact openRefusal_of_sound sound cool safe closed awake free) opened)
        (fun k => by
          rcases eq_or_ne k h with rfl | ne
          · rw [own]; simp [f, v, u, Head.unpended]
          · rw [others k ne])
      obtain ⟨timer, channel⟩ := moveHead_sameButIdle_of_stepless (s := v) (h := h) f (by simpa [v, u] using stepless)
      have powered : v.channel h = (s.channel h).powerUp (u.cradle h) := by simp [v, u]
      have same : t.channel h = { (s.channel h).powerUp (u.cradle h) with idleTimer := timer } := by
        rw [settles.channel, channel, powered]
      refine ⟨t, next, ?_, by rw [same]; rfl, by rw [same]; rfl, by rw [same]; rfl, ?_, fun k ne => ?_⟩
      · rw [settles.head, own]; simp [f, v, u, Head.unpended]
      · rw [settles.log]; simp [v, u]
      · rw [settles.head, others k ne]
    · let f : Head → Head := fun hd => { hd with state := .ready }
      obtain ⟨v, taken, opened⟩ := openHead_of_idle (s := u) (h := h) (by simpa [u] using closed) (by simpa [u] using idle)
        (by simpa [u] using free)
      obtain ⟨_, reserved, kept, records, _, reservations⟩ := takeReservation_spec _ taken
      have made := (takeReservation_frame _ taken).2.2.2.2.2.2.2.2.1
      have own : (moveHead h f v).head h = { s.head h with state := .ready, closePending := none, reservation := true } := by
        rw [moveHead_head, reserved, updateHead_head]; simp [u, f, Head.unpended]
      have others : ∀ k, k ≠ h → (moveHead h f v).head k = s.head k := fun k ne => by
        rw [moveHead_head_of_ne _ _ ne, kept k ne, updateHead_head_of_ne _ _ ne]; simp [u]
      obtain ⟨t, next, settles⟩ := exec_settled rfl (takeRequest_headOpen r n) takes nofun
        (openOne_of_pass known (by simpa using night) (by simpa using set)
          (by rw [openRefusal_holding]; exact openRefusal_of_sound sound cool safe closed awake (by omega)) opened)
        (fun k => by
          rcases eq_or_ne k h with rfl | ne
          · rw [own]
          · rw [others k ne])
      have same := (settles.head h).trans own
      have commands : t.Commands h := (moveHead_commands (by rw [made]; simpa using outputs) h f).settles settles
      refine ⟨t, next, same, ?_, ?_, by rw [commands.flap, same]; rfl, by rw [commands.lamp, same]; rfl, fun k ne => ?_⟩
      · rw [settles.log]; simpa [u] using records
      · rw [settles.log]; simpa [u] using reservations
      · rw [settles.head, others k ne]
  · refine exec_settled_answered rfl (takeRequest_headClose r known) takes nofun ?_
    rw [receiveClose_of_closed _ (by simpa using closed)]
    rfl
  · let v := s.holding r (.headClose r [n])
    let w := updateHead h (fun hd => { hd with closePending := some ((v.head h).closePending.getD .requested) }) v
    have work : receiveClose h .requested v = closeReady h ((v.head h).closePending.getD .requested) w :=
      receiveClose_of_shut _ (by simpa [v] using ready) (by simpa [v] using shut)
    have own : (receiveClose h .requested v).head h = { s.head h with state := .closed, reservation := false } := by
      rw [receiveClose_head_of_shut _ (by simpa [v] using ready) (by simpa [v] using shut)]
      simp [v, pending]
    obtain ⟨t, next, settles⟩ := exec_settled rfl (takeRequest_headClose r known) takes nofun
      (show accept .done (receiveClose h .requested v) = (receiveClose h .requested v, _) from rfl)
      (fun k => by rw [receiveClose_staging]; simp [v])
    have same := (settles.head h).trans own
    have commands : (receiveClose h .requested v).Commands h := by
      rw [work]
      exact closeHead_commands (by simpa [w, v] using sized.outputs) h _
    refine ⟨t, next, same, fun held => ?_, ?_, by rw [(commands.settles settles).flap, same]; rfl, fun k ne => ?_⟩
    · rw [settles.log, work]
      simp [closeReady, giveBack_log_reservations, w, v, held]
    · rw [settles.log, receiveClose_records]; simp [v]
    · rw [settles.head, receiveClose_head_of_ne _ _ ne]; simp [v]
  · let v := s.holding r (.headClose r [n])
    have work : receiveClose h .requested v =
        updateHead h (fun hd => { hd with closePending := some ((v.head h).closePending.getD .requested) }) v := by
      refine receiveClose_of_kept _ ?_ ?_ ?_ <;> rcases state with state | state | state | state <;> simp [v, state]
    obtain ⟨t, next, settles⟩ := exec_settled rfl (takeRequest_headClose r known) takes nofun
      (show accept .done (receiveClose h .requested v) = (receiveClose h .requested v, _) from rfl)
      (fun k => by rw [receiveClose_staging]; simp [v])
    rw [work] at settles
    refine ⟨t, next, ?_, ?_, fun k ne => ?_⟩
    · rw [settles.head, updateHead_head]; simp [v]
    · rw [settles.log]; simp [v]
    · rw [settles.head, updateHead_head_of_ne _ _ ne]; simp [v]

end Sys2Proof.Machine
end

section
/-! A fault cleared at request, by the first case that matches (R15, R18, R24, R26). -/

namespace Sys2Proof.Machine

variable {s t : State} {r : Req} {h : HeadId}

/-! ### Entries with the cradle occupied -/

/-- The head whose gate opens (R15). -/
def Head.opening (hd : Head) : Head := { hd with state := .discharge, gateTimer := some hd.latched.gate }

/-- The head that enters HOLD after a supply restart or HEAD_CLEAR_FAULT (R18). -/
def Head.holding (hd : Head) : Head := { hd with state := .hold, latched := .ofSettings hd.settings }

theorem openGate_of_cradle (cradle : s.cradle h = true) : openGate h s = moveHead h Head.opening s :=
  if_pos (by rw [← cradle]; simp)

/-- HOLD, and with room in staging on to DISCHARGE, the cradle being occupied (R18). -/
theorem enterHold_of_cradle (cradle : s.cradle h = true) : enterHold h s =
    if (s.head h).staging.length < 2 then moveHead h Head.opening (moveHead h Head.holding s)
    else moveHead h Head.holding s := by
  have still : (moveHead h Head.holding s).cradle h = true := by rw [← cradle]; simp
  have room : ((moveHead h Head.holding s).head h).staging = (s.head h).staging := by rw [moveHead_head]; rfl
  show (if ((moveHead h Head.holding s).head h).staging.length < 2 then openGate h (moveHead h Head.holding s)
    else moveHead h Head.holding s) = _
  rw [room, openGate_of_cradle still]

theorem enterHold_head_of_cradle (cradle : s.cradle h = true) : (enterHold h s).head h =
    if (s.head h).staging.length < 2 then (s.head h).holding.opening else (s.head h).holding := by
  rw [enterHold_of_cradle cradle]
  split
  · rw [moveHead_head, moveHead_head]
  · rw [moveHead_head]

theorem enterHold_frame_of_cradle (cradle : s.cradle h = true) :
    (∀ k, k ≠ h → (enterHold h s).head k = s.head k) ∧ (enterHold h s).log = s.log := by
  rw [enterHold_of_cradle cradle]
  split
  · exact ⟨fun k ne => by rw [moveHead_head_of_ne _ _ ne, moveHead_head_of_ne _ _ ne], by simp⟩
  · exact ⟨fun k ne => by rw [moveHead_head_of_ne _ _ ne], by simp⟩

/-- The head that enters RECOVER (R26). -/
def Head.recovering (hd : Head) : Head :=
  { hd with
    state := .recover
    latched := .ofSettings hd.settings
    beamCount := 1
    restarted := true
    earlyLanding := false
    tags := []
    windowDone := false
    weighing := none
    landed := none }

/-- RECOVER with the channel OFF powers it, and waits (R26, R29). -/
theorem enterRecover_of_off (off : (s.channel h).state = .off) :
    enterRecover h s = askWarm h (moveHead h Head.recovering s) := by
  obtain ⟨timer, channel⟩ := moveHead_sameButIdle (s := s) (h := h) Head.recovering (.inl off)
  have still : ((moveHead h Head.recovering s).channel h).state = .off := by rw [channel]; exact off
  simp only [enterRecover]
  split
  · next idle => exact absurd (still.symm.trans idle) nofun
  · rfl
  · rfl
  · next weighing => exact absurd (still.symm.trans weighing) nofun

theorem enterRecover_channel_of_off (off : (s.channel h).state = .off) :
    ((enterRecover h s).channel h).state = .warming .running := by
  obtain ⟨timer, channel⟩ := moveHead_sameButIdle (s := s) (h := h) Head.recovering (.inl off)
  have still : ((moveHead h Head.recovering s).channel h).state = .off := by rw [channel]; exact off
  rw [enterRecover_of_off off, askWarm_of_off still, updateChannel_channel]
  rfl

theorem enterRecover_frame_of_off (off : (s.channel h).state = .off) :
    (enterRecover h s).head h = (s.head h).recovering ∧ (∀ k, k ≠ h → (enterRecover h s).head k = s.head k) ∧
      (enterRecover h s).log = s.log := by
  rw [enterRecover_of_off off]
  refine ⟨by simp, fun k ne => ?_, by simp⟩
  rw [← moveHead_head_of_ne s Head.recovering ne]
  simp

/-! ### HEAD_CLEAR_FAULT -/

/-- Close pending with cause REQUESTED, an earlier cause kept (R24). -/
def Head.asked (hd : Head) : Head := { hd with closePending := some (hd.closePending.getD .requested) }

section
variable (s) (h)

theorem clearFault_of_record (record : (s.head h).cradleRecord.isSome = true) :
    clearFault h s = .ok (enterHold h (updateHead h Head.asked s)) := if_pos record

theorem clearFault_of_day (record : (s.head h).cradleRecord = none) (cradle : s.cradle h = true) (day : s.mode = .day) :
    clearFault h s = .error .wrongMode := by simp [clearFault, record, cradle, day]

theorem clearFault_of_full (record : (s.head h).cradleRecord = none) (cradle : s.cradle h = true) (night : s.mode ≠ .day)
    (unreserved : (s.head h).reservation = false) (full : s.logFree = 0) : clearFault h s = .error .logFull := by
  simp [clearFault, record, cradle, night, unreserved, (takeReservation_eq_none s h).mpr full]

theorem clearFault_of_reserved (record : (s.head h).cradleRecord = none) (cradle : s.cradle h = true)
    (night : s.mode ≠ .day) (reserved : (s.head h).reservation = true) :
    clearFault h s = .ok (enterRecover h (updateHead h Head.asked s)) := by
  simp [clearFault, record, cradle, night, reserved]
  rfl

theorem clearFault_of_empty (record : (s.head h).cradleRecord = none) (cradle : s.cradle h = false) :
    clearFault h s = .ok (closeHead h .faultCleared (giveBack h s)) := by simp [clearFault, record, cradle]
end

/-- The rule of HEAD_CLEAR_FAULT for a head that the catalogue lists (R24). -/
def clearOne (h : HeadId) (s : State) : State × Reply :=
  if (s.head h).state.isFault then
    match clearFault h s with
    | .ok s => accept (.headState (s.head h).state) s
    | .error code => refuse code s
  else accept (.headState (s.head h).state) s

theorem takeRequest_headClearFault {n : Nat} (r : Req) (known : headOfCode n = some h) :
    takeRequest (.headClearFault r n) = guarded true r (settledReply (clearOne h)) := by
  simp only [takeRequest, takeHeadClearFault, known]
  rfl

theorem clearOne_of_ok (fault : (s.head h).state.isFault = true) (cleared : clearFault h s = .ok t) :
    clearOne h s = (t, .ok (.headState (t.head h).state)) := by simp [clearOne, fault, cleared, accept]

theorem clearOne_of_error {code : Refuse} (fault : (s.head h).state.isFault = true)
    (refused : clearFault h s = .error code) : clearOne h s = (s, .refused code) := by
  simp [clearOne, fault, refused, refuse]

/-- Settles O45: `clearFault`, case by case. -/
theorem clearFaultGoesOn : Obligations.ClearFaultGoesOn := by
  intro s r n h takes port sized known
  let u := s.holding r (.headClearFault r n)
  let v := updateHead h Head.asked u
  have asked : v.head h = (s.head h).asked := by simp [v, u]
  have others : ∀ k, k ≠ h → v.head k = s.head k := fun k ne => by simp [v, updateHead_head_of_ne _ _ ne, u]
  have answers : ∀ rep, clearOne h u = (u, rep) → exec (.headClearFault r n) s = .next (u.replied r rep) := fun rep answer =>
    exec_settled_answered rfl (takeRequest_headClearFault r known) takes (fun _ => port) answer
  refine ⟨fun sound => ?_, fun fault => ⟨fun record cradle => ?_, fun record cradle day => ?_,
    fun record cradle night unreserved full => ?_, fun record cradle night reserved off stepless => ?_,
    fun record cradle => ?_⟩⟩
  · refine answers _ ?_
    simp [clearOne, u, sound, accept]
  all_goals
    replace fault : (u.head h).state.isFault = true := by simpa [u] using fault
  · have occupied : v.cradle h = true := by simpa [v, u] using cradle
    have cleared := clearOne_of_ok fault (clearFault_of_record u h (by simpa [u] using record))
    have own := enterHold_head_of_cradle occupied
    rw [asked] at own
    obtain ⟨kept, log⟩ := enterHold_frame_of_cradle occupied
    obtain ⟨t, next, settles⟩ := exec_settled rfl (takeRequest_headClearFault r known) takes (fun _ => port) cleared
      (fun k => by
        rcases eq_or_ne k h with rfl | ne
        · rw [own]; split <;> rfl
        · rw [kept k ne, others k ne])
    have same := (settles.head h).trans own
    rw [show (s.head h).asked.staging = (s.head h).staging from rfl] at same
    refine ⟨t, next, ?_, ?_, ?_, ?_, ?_, fun k ne => by rw [settles.head, kept k ne, others k ne]⟩
    · rw [same]; split <;> rfl
    · rw [same]; split <;> rfl
    · rw [same]; split <;> rfl
    · rw [same]; split <;> rfl
    · rw [settles.log, log]; simp [v, u]
  · exact answers _ (clearOne_of_error fault
      (clearFault_of_day u h (by simpa [u] using record) (by simpa [u] using cradle) (by simpa [u] using day)))
  · exact answers _ (clearOne_of_error fault (clearFault_of_full u h (by simpa [u] using record) (by simpa [u] using cradle)
      (by simpa [u] using night) (by simpa [u] using unreserved) (by simpa [u] using full)))
  · have cleared := clearOne_of_ok fault (clearFault_of_reserved u h (by simpa [u] using record)
      (by simpa [u] using cradle) (by simpa [u] using night) (by simpa [u] using reserved))
    have powerless : (v.channel h).state = .off := by simpa [v, u] using off
    obtain ⟨own, kept, log⟩ := enterRecover_frame_of_off powerless
    rw [asked] at own
    obtain ⟨t, next, settles⟩ := exec_settled rfl (takeRequest_headClearFault r known) takes (fun _ => port) cleared
      (fun k => by
        rcases eq_or_ne k h with rfl | ne
        · rw [own]; rfl
        · rw [kept k ne, others k ne])
    have same := (settles.head h).trans own
    refine ⟨t, next, by rw [same]; rfl, by rw [same]; exact reserved, by rw [same]; rfl, by rw [same]; rfl,
      by rw [same]; rfl, ?_, ?_, fun k ne => by rw [settles.head, kept k ne, others k ne]⟩
    · rw [settles.channel, enterRecover_channel_of_off powerless]
    · rw [settles.log, log]; simp [v, u]
  · have cleared := clearOne_of_ok fault (clearFault_of_empty u h (by simpa [u] using record) (by simpa [u] using cradle))
    have own : (closeHead h .faultCleared (giveBack h u)).head h =
        { s.head h with state := .closed, closePending := none, reservation := false } := by simp [u]
    have kept : ∀ k, k ≠ h → (closeHead h .faultCleared (giveBack h u)).head k = s.head k := fun k ne => by
      rw [closeHead_head_of_ne _ _ ne, giveBack_head_of_ne _ ne]; simp [u]
    obtain ⟨t, next, settles⟩ := exec_settled rfl (takeRequest_headClearFault r known) takes (fun _ => port) cleared
      (fun k => by
        rcases eq_or_ne k h with rfl | ne
        · rw [own]
        · rw [kept k ne])
    refine ⟨t, next, (settles.head h).trans own, fun held => ?_, ?_, fun k ne => (settles.head k).trans (kept k ne)⟩
    · rw [settles.log]; simp [giveBack_log_reservations, u, held]
    · rw [settles.log]; simp [u]

end Sys2Proof.Machine
end

section
/-! The supply restart, and the two restarts that follow a reply (R25, R27, R102, R134, R164, R170, R178, R179, R192, R193,
R201, R204). -/

namespace Sys2Proof.Machine

variable {s t u : State}

/-! ### The blocks before the lift -/

/-- The blocks that a supply restart takes before the lift. -/
def restartBlocks (cause : RestartCause) (s : State) : State :=
  restartHeads (restartOutputs (restartAlarm (restartService (restartLink cause s))))

/-- The link interface at a supply restart: RESTARTED alone in its queues (R201, R204). -/
def Link.restarted (cause : RestartCause) (l : Link) : Link :=
  { l with
    branch := { Port.fresh with notices := [.restarted cause] }
    service := .fresh
    lost := false
    timer := l.timeout }

theorem restartLink_eq (cause : RestartCause) (s : State) :
    restartLink cause s = { s with link := s.link.restarted cause } := rfl

theorem restartBlocks_frame (cause : RestartCause) (s : State) :
    let t := restartBlocks cause s
    t.advices = s.advices ∧ t.judge = s.judge ∧ t.rack = s.rack ∧ t.release = s.release ∧ t.inputs = s.inputs ∧
      t.clock = s.clock ∧ t.lift = s.lift ∧ t.log = { s.log with reservations := 0 } ∧
      t.alarm = { s.alarm with latched := allCauses false, pulseTimer := none } ∧
      t.service = { Service.cold with stats := s.service.stats } ∧ t.link = s.link.restarted cause := by
  simp [restartBlocks, restartHeads, restartOutputs, restartAlarm, restartService, restartLink_eq]

theorem restartBlocks_head (cause : RestartCause) (s : State) (h : HeadId) :
    (restartBlocks cause s).head h = (s.head h).replaced := by
  simp [restartBlocks, restartHeads, State.head, restartOutputs, restartAlarm, restartService, restartLink_eq]

theorem restartBlocks_channel (cause : RestartCause) (s : State) (h : HeadId) :
    (restartBlocks cause s).channel h = (s.channel h).restarted := by
  simp [restartBlocks, restartHeads, State.channel, restartOutputs, restartAlarm, restartService, restartLink_eq]

theorem restartBlocks_scanner (cause : RestartCause) (s : State) :
    (restartBlocks cause s).scanner = .fresh s.scanner.settings := by
  simp [restartBlocks, restartHeads, restartOutputs, restartAlarm, restartService, restartLink_eq]

/-- An output line right after the line unit has restarted: its fault flag clear, its check timer running, driven at its
owner's level (R170). -/
structure OutputLine.Restarted (o : OutputLine) : Prop where
  fault  : o.fault = false
  check  : o.check = some 50
  driven : o.driven = o.owner

theorem restartBlocks_output (cause : RestartCause) (sized : s.outputs.length = 15) {n : Nat} (lt : n < 15) :
    ((restartBlocks cause s).output n).Restarted ∧
      ((restartBlocks cause s).output n).owner = ((n == gpOut1 || n == gpOut2) && (s.output n).owner) := by
  have line : (restartBlocks cause s).output n = _ :=
    restartOutputs_output (s := restartAlarm (restartService (restartLink cause s))) rfl sized lt
  rw [line]
  exact ⟨⟨rfl, rfl, rfl⟩, rfl⟩

theorem restartBlocks_outputs_length (cause : RestartCause) (s : State) :
    (restartBlocks cause s).outputs.length = s.outputs.length :=
  restartOutputs_outputs_length (s := restartAlarm (restartService (restartLink cause s)))

/-! ### The lift -/

/-- With its causes clear and no pulse running, a cause reported changes the latched causes, perhaps the pulse timer, and
the ALARM line (R175, R177). -/
theorem reportAlarm_of_clear (c : AlarmCause) (clear : causeSet s.alarm.latched c = false) :
    (∃ pulse, (reportAlarm c s).alarm = { s.alarm with latched := raiseCause s.alarm.latched c, pulseTimer := pulse }) ∧
      ((reportAlarm c s).outputs = s.outputs ∨
        ∃ (v : Bool) (u : State), u.outputs = s.outputs ∧ u.service = s.service ∧
          (reportAlarm c s).outputs = (handOutput alarmOutput v u).outputs) := by
  simp only [reportAlarm, clear]
  cases mode : s.alarm.mode with
  | level =>
    simp only [Bool.false_eq_true, if_false, alarmLevel, if_true]
    exact ⟨⟨_, by simp; rfl⟩, .inr ⟨_, _, rfl, rfl, rfl⟩⟩
  | pulse =>
    simp only [Bool.false_eq_true, if_false]
    split
    · exact ⟨⟨_, by simp; rfl⟩, .inr ⟨_, _, rfl, rfl, rfl⟩⟩
    · exact ⟨⟨_, rfl⟩, .inl rfl⟩

theorem OutputLine.Restarted.drive {o : OutputLine} (restarted : o.Restarted) (v : Bool) :
    (({ o with owner := v } : OutputLine).drive v).Restarted := by
  unfold OutputLine.drive
  split
  · next same => exact ⟨restarted.fault, restarted.check, same⟩
  · exact ⟨restarted.fault, rfl, rfl⟩

/-- The ALARM line, where a cause is reported at a supply restart, is driven with its check timer running (R170, R172). -/
theorem reportAlarm_output_restarted {c : AlarmCause} (clear : causeSet s.alarm.latched c = false)
    (free : s.service.state = .none) (sized : s.outputs.length = 15) (restarted : (s.output alarmOutput).Restarted) :
    ((reportAlarm c s).output alarmOutput).Restarted := by
  rcases (reportAlarm_of_clear c clear).2 with same | ⟨v, u, outputs, service, same⟩
  · rw [State.output, same]; exact restarted
  · rw [State.output, same]
    have line : (handOutput alarmOutput v u).output alarmOutput = _ :=
      handOutput_output_same v (by rw [service]; exact free) (by rw [outputs, sized]; decide)
    rw [show u.output alarmOutput = s.output alarmOutput by rw [State.output, outputs, State.output]] at line
    show ((handOutput alarmOutput v u).output alarmOutput).Restarted
    rw [line]; exact restarted.drive v

/-- The lift with what is lost at a supply restart (R134). -/
def Lift.unordered (l : Lift) : Lift := { l with transferTimer := none, unlockList := [], orders := [] }

theorem restartLift_of_idle (idle : s.lift.state = .idle) : restartLift s = { s with lift := s.lift.unordered } := by
  simp [restartLift, idle, Lift.unordered]

theorem restartLift_of_moving {f : InFlight} {granted : Nat} (moving : s.lift.state = .moving f granted) :
    restartLift s = enterLiftFault .restart f { s with lift := s.lift.unordered } := by
  simp [restartLift, moving, Lift.unordered]

theorem restartLift_of_fault {cause : LiftFaultCause} {f : InFlight} (fault : s.lift.state = .fault cause f) :
    restartLift s = reportAlarm .liftFault { s with lift := s.lift.unordered } := by
  simp [restartLift, fault, Lift.unordered]


/-- The lift at a supply restart leaves every other block but log, alarm, statistics and link as it is (R134). -/
theorem restartLift_frame (s : State) :
    let t := restartLift s
    t.heads = s.heads ∧ t.channels = s.channels ∧ t.scanner = s.scanner ∧ t.advices = s.advices ∧ t.judge = s.judge ∧
      t.rack = s.rack ∧ t.release = s.release ∧ t.inputs = s.inputs ∧ t.clock = s.clock := by
  cases state : s.lift.state with
  | idle => simp [restartLift_of_idle state]
  | moving f granted => simp [restartLift_of_moving state]
  | fault cause f => simp [restartLift_of_fault state]

/-- What the lift's restart adds to the alarm of a restarting part. -/
theorem reportAlarm_liftFault_of_restarted (clear : s.alarm.latched = allCauses false) :
    ∃ pulse, (reportAlarm .liftFault s).alarm =
      { s.alarm with latched := { allCauses false with liftFault := true }, pulseTimer := pulse } := by
  obtain ⟨pulse, alarm⟩ := (reportAlarm_of_clear (s := s) .liftFault (by rw [clear]; rfl)).1
  exact ⟨pulse, by rw [alarm, clear]; rfl⟩

/-- What an entry to a lift fault writes, where no alarm cause is latched (R128). -/
theorem enterLiftFault_of_clear (detail : LiftFaultDetail) (f : InFlight) (clear : s.alarm.latched = allCauses false) :
    ∃ (pulse : Timer) (t : State), enterLiftFault detail f s = t ∧
      t.lift = { s.lift with state := .fault detail.cause f, transferTimer := none } ∧
      t.log = { s.log with
        records := s.log.records.map fun r => if r.seq = f.seq then { r with state := .transferFault } else r } ∧
      t.alarm = { s.alarm with latched := { allCauses false with liftFault := true }, pulseTimer := pulse } ∧
      t.service = { s.service with
        stats := { s.service.stats with liftFaults := countUp s.service.stats.liftFaults } } := by
  let u := notify (.liftFault detail f.seq f.head f.bin)
    (({ s with lift := { s.lift with state := .fault detail.cause f, transferTimer := none } } : State).updateRecord f.seq
      fun r => { r with state := .transferFault })
  obtain ⟨pulse, alarm⟩ := reportAlarm_liftFault_of_restarted (s := u) (by simpa [u] using clear)
  refine ⟨pulse, _, rfl, ?_, ?_, ?_, ?_⟩
  · simp [enterLiftFault]
  · simp [enterLiftFault, State.updateRecord]
  · refine Eq.trans (?_ : _ = (reportAlarm .liftFault u).alarm) (alarm.trans ?_)
    · simp [enterLiftFault, u]
    · simp [u]
  · simp [enterLiftFault, updateStats]

theorem restartLift_restarted (cause : RestartCause) (s : State) :
    s.LiftRestarted (restartLift (restartBlocks cause s)) := by
  obtain ⟨-, -, -, -, -, -, lift, log, alarm, service, -⟩ := restartBlocks_frame cause s
  generalize restartBlocks cause s = u at *
  cases state : u.lift.state with
  | idle =>
    rw [restartLift_of_idle state]
    rw [lift] at state
    constructor <;> simp [state, lift, log, alarm, service, Lift.unordered]
  | moving f granted =>
    obtain ⟨pulse, t, faulted, lift', log', alarm', service'⟩ :=
      enterLiftFault_of_clear .restart f (s := { u with lift := u.lift.unordered }) (by simp [alarm])
    rw [restartLift_of_moving state, faulted]
    rw [lift] at state
    constructor <;> simp [state, lift', log', alarm', service', lift, log, alarm, service, Lift.unordered, LiftFaultDetail.cause]
  | fault cause f =>
    obtain ⟨pulse, alarm'⟩ :=
      reportAlarm_liftFault_of_restarted (s := { u with lift := u.lift.unordered }) (by simp [alarm])
    rw [restartLift_of_fault state]
    rw [lift] at state
    obtain ⟨lift', log', service'⟩ : (reportAlarm .liftFault { u with lift := u.lift.unordered }).lift = u.lift.unordered ∧
      (reportAlarm .liftFault { u with lift := u.lift.unordered }).log = u.log ∧
      (reportAlarm .liftFault { u with lift := u.lift.unordered }).service = u.service := by simp
    generalize reportAlarm .liftFault { u with lift := u.lift.unordered } = t at *
    constructor <;> simp [state, lift', log', alarm', service', lift, log, alarm, service, Lift.unordered]

/-- What the lift's restart does to the outputs: at most the ALARM line is driven (R177). -/
theorem restartLift_output (clear : s.alarm.latched = allCauses false) (free : s.service.state = .none)
    (sized : s.outputs.length = 15) (restarted : (s.output alarmOutput).Restarted) :
    ((restartLift s).output alarmOutput).Restarted ∧ ∀ n, n ≠ alarmOutput → (restartLift s).output n = s.output n := by
  cases state : s.lift.state with
  | idle => rw [restartLift_of_idle state]; exact ⟨restarted, fun _ _ => rfl⟩
  | moving f granted =>
    rw [restartLift_of_moving state]
    constructor
    · exact reportAlarm_output_restarted (c := .liftFault)
        (s := notify _ (State.updateRecord _ f.seq fun r => { r with state := .transferFault }))
        (by simp [clear]; rfl) (by simpa using free) (by simpa using sized) (by simpa [State.output] using restarted)
    · intro n ne
      exact (reportAlarm_output_of_ne _ .liftFault ne).trans (by simp; rfl)
  | fault cause f =>
    rw [restartLift_of_fault state]
    constructor
    · exact reportAlarm_output_restarted (by simp [clear]; rfl) free sized restarted
    · intro n ne
      exact (reportAlarm_output_of_ne _ _ ne).trans rfl

/-- The lift's restart sends at most one notice (R134, R128). -/
theorem restartLift_link (s : State) :
    (restartLift s).link = s.link ∨ ∃ n : Notice, n.port = .branch ∧ (restartLift s).link = (notify n s).link := by
  cases state : s.lift.state with
  | idle => rw [restartLift_of_idle state]; exact .inl rfl
  | moving f granted =>
    rw [restartLift_of_moving state]
    refine .inr ⟨.liftFault .restart f.seq f.head f.bin, rfl, ?_⟩
    simp only [enterLiftFault, updateStats_frame, reportAlarm_frame]
    rfl
  | fault cause f => rw [restartLift_of_fault state]; exact .inl (by simp)

/-- The lift's restart leaves the service controller but its statistics (R179). -/
theorem restartLift_service (s : State) :
    (restartLift s).service = { s.service with stats := (restartLift s).service.stats } := by
  cases state : s.lift.state with
  | idle => rw [restartLift_of_idle state]
  | moving f granted => simp [restartLift_of_moving state, enterLiftFault, updateStats]
  | fault cause f => simp [restartLift_of_fault state]

/-! ### The blocks after the lift -/

/-- Release control, where no bin is reserved or open, has nothing to restart (R161). -/
theorem restartRelease_of_locked (locked : ∀ b ∈ s.rack.bins, b.lock = .locked) (reservations : s.release.reservations = [])
    (unlocks : s.release.unlocks = []) : restartRelease s = s := by
  have none : (s.rack.bins.any fun b => b.lock == .reserved || b.lock == .unlocking) = false := by
    rw [List.any_eq_false]
    intro b mem
    simp [locked b mem]
  have same : ({ s with release := { s.release with reservations := [], unlocks := [] } } : State) = s := by
    rw [← reservations, ← unlocks]
  simp only [restartRelease, none, reservations, unlocks, List.foldl_nil]
  rw [if_neg (by decide)]
  exact same

/-- A line whose debounce time is not 0 is not established at once (R164). -/
theorem foldl_establishAtOnce_of_slow (slow : ∀ n < 16, (s.input n).debounce ≠ 0) :
    (List.range 16).foldl establishAtOnce s = s := by
  refine List.foldlRecOn (motive := fun t => t = s) (List.range 16) establishAtOnce rfl ?_
  rintro t rfl n mem
  simp [establishAtOnce, slow n (List.mem_range.1 mem)]

theorem withArbitration_of_same {f : State → State} (same : f s = s) : withArbitration f s = s := by
  simp [withArbitration, same, arbitrateIfFilled_of_staging s s fun _ => rfl]

/-- Work in turn that does nothing is followed by nothing. -/
theorem settledInTurn_of_same {fs : List (State → State)} (same : ∀ f ∈ fs, f s = s) : settledInTurn fs s = s := by
  have nothing : fs.foldl (fun s f => withArbitration f s) s = s := by
    refine List.foldlRecOn (motive := fun t => t = s) fs _ rfl ?_
    rintro t rfl f mem
    exact withArbitration_of_same (same f mem)
  rw [settledInTurn, nothing]
  exact settleDrain_of_same s s (fun _ => rfl) (fun _ => rfl) (fun _ => rfl) rfl

/-- A head whose CRADLE_SENSE line is not established decides nothing. -/
theorem decideIfReady_of_unestablished (h : HeadId) (absent : (s.input (cradleLine h)).debounced = none) :
    decideIfReady h s = s := by
  have waits : s.linesEstablished h = false := by simp [State.linesEstablished, absent]
  unfold decideIfReady
  simp only [waits]
  split <;> rfl

/-- The lines restart, none established at once, and no head decides (R162, R164). -/
theorem restartLines_of_slow (sized : s.inputs.length = 16) (slow : ∀ l ∈ s.inputs, 0 < l.debounce) :
    restartLines s = ({ s with inputs := s.inputs.map InputLine.restarted } : State).drawn := by
  have line {n : Nat} (lt : n < 16) : ({ s with inputs := s.inputs.map InputLine.restarted } : State).input n =
      (s.input n).restarted := by simp [State.input, sized, lt]
  have positive : ∀ n < 16, (({ s with inputs := s.inputs.map InputLine.restarted } : State).input n).debounce ≠ 0 := by
    intro n lt
    rw [line lt]
    have mem : s.input n ∈ s.inputs := by simp [State.input, sized, lt]
    exact (slow _ mem).ne'
  simp only [restartLines, foldl_establishAtOnce_of_slow positive]
  refine settledInTurn_of_same fun f mem => ?_
  obtain ⟨h, -, rfl⟩ := List.mem_map.1 mem
  refine decideIfReady_of_unestablished h ?_
  rw [State.drawn_input, line (by cases h <;> decide)]
  rfl

/-- Where no line is fast and no bin open, the lines follow the lift at once (R161, R164). -/
theorem supplyRestart_of_quiet (cause : RestartCause) (sized : s.Sized) (slow : ∀ l ∈ s.inputs, 0 < l.debounce)
    (locked : ∀ b ∈ s.rack.bins, b.lock = .locked) (reservations : s.release.reservations = [])
    (unlocks : s.release.unlocks = []) :
    supplyRestart cause s =
      ({ restartLift (restartBlocks cause s) with inputs := s.inputs.map InputLine.restarted } : State).drawn := by
  obtain ⟨-, -, rack, release, inputs, -⟩ := restartBlocks_frame cause s
  obtain ⟨-, -, -, -, -, rack', release', inputs', -⟩ := restartLift_frame (restartBlocks cause s)
  show restartLines (restartRelease (restartLift (restartBlocks cause s))) = _
  rw [restartRelease_of_locked (by rwa [rack', rack]) (by rwa [release', release]) (by rwa [release', release]),
    restartLines_of_slow (by rw [inputs', inputs, sized.inputs]) (by rwa [inputs', inputs]), inputs', inputs]

theorem Link.restarted_restartedFrom (cause : RestartCause) (l : Link) :
    l.RestartedFrom (l.restarted cause) cause where
  branch := ⟨rfl, rfl, rfl, rfl, rfl⟩
  first := rfl
  service := rfl
  settings := ⟨rfl, rfl, rfl⟩
  link := rfl
  timer := Link.timeout_eq l

/-- After one notice more, and the start of its transmitters, a restarted interface is still one (R199, R204). -/
theorem restarted_link_pump {l : Link} {cause : RestartCause}
    (link : s.link = l.restarted cause ∨
      ∃ (n : Notice) (u : State), n.port = .branch ∧ u.link = l.restarted cause ∧ s.link = (notify n u).link) :
    l.RestartedFrom (pump s).link cause := by
  have pumped : (pump s).link = { s.link with branch := s.link.branch.pump, service := s.link.service.pump } := rfl
  rcases link with same | ⟨n, u, branch, started, sent⟩
  · rw [pumped, same]
    exact ⟨⟨rfl, rfl, rfl, rfl, rfl⟩, rfl, rfl, ⟨rfl, rfl, rfl⟩, rfl, Link.timeout_eq l⟩
  · have noticed : s.link = { l.restarted cause with
        branch := { Port.fresh with notices := [.restarted cause, n] } } := by
      rw [sent, notify, branch, State.port, State.setPort, started]
      rfl
    rw [pumped, noticed]
    exact ⟨⟨rfl, rfl, rfl, rfl, rfl⟩, rfl, rfl, ⟨rfl, rfl, rfl⟩, rfl, Link.timeout_eq l⟩

/-- A head whose state and records are replaced at a supply restart is as R25 says. -/
theorem Head.replaced_restartedFrom (hd : Head) : hd.RestartedFrom hd.replaced := by
  constructor <;> simp [Head.replaced, Head.cold, Head.starting]

/-- The lines of the part after a supply restart (R162, R170). -/
theorem restarted_lines (cause : RestartCause) (sized : s.Sized) {levels : BitVec 16}
    (high : ∀ n < 16, levels.getLsbD n = (s.input n).high)
    (inputs : t.inputs = s.inputs.map InputLine.restarted)
    (outputs : t.outputs = (restartLift (restartBlocks cause s)).outputs) : s.LinesRestarted t levels := by
  obtain ⟨-, -, -, -, -, -, lift, -, alarm, service, -⟩ := restartBlocks_frame cause s
  have length : (restartBlocks cause s).outputs.length = 15 := (restartBlocks_outputs_length cause s).trans sized.outputs
  have line {n : Nat} (lt : n < 15) := restartBlocks_output cause sized.outputs lt
  obtain ⟨bell, other⟩ := restartLift_output (s := restartBlocks cause s) (by rw [alarm]) (by rw [service]; rfl) length
    (line (n := alarmOutput) (by decide)).1
  have output (n : Nat) : t.output n = (restartLift (restartBlocks cause s)).output n := by rw [State.output, outputs]; rfl
  have owner {n : Nat} (lt : n < 15) (ne : n ≠ alarmOutput) :
      (t.output n).owner = ((n == gpOut1 || n == gpOut2) && (s.output n).owner) := by
    rw [output, other n ne]; exact (line lt).2
  constructor
  · intro n lt
    simp [State.input, inputs, sized.inputs, lt, InputLine.restarted]
    simpa [State.input, sized.inputs, lt] using (high n lt).symm
  · intro n lt
    have restarted : (t.output n).Restarted := by
      rw [output]
      by_cases ne : n = alarmOutput
      · rw [ne]; exact bell
      · rw [other n ne]; exact (line lt).1
    exact ⟨restarted.fault, restarted.check, restarted.driven⟩
  · intro n lt
    rw [owner (by omega) (by simp [alarmOutput]; omega)]
    have plain : (n == gpOut1 || n == gpOut2) = false := by simp [gpOut1, gpOut2]; omega
    rw [plain, Bool.false_and]
  · intro idle
    have still : (restartBlocks cause s).lift.state = .idle := by rw [lift]; exact idle
    have silent := (line (n := alarmOutput) (by decide)).2
    rw [show (alarmOutput == gpOut1 || alarmOutput == gpOut2) = false from rfl, Bool.false_and] at silent
    rw [output, restartLift_of_idle still]
    exact silent
  · have out1 := owner (n := 13) (by decide) (by decide)
    have out2 := owner (n := 14) (by decide) (by decide)
    exact ⟨by simpa [gpOut1] using out1, by simpa [gpOut2] using out2⟩

/-- A supply restart at which no head decides and no bin relocks, every block (R25, R27, R45, R102, R104, R134, R161, R162,
R164, R170, R178, R179, R190, R201, R204). -/
theorem supplyRestart_restartedFrom (cause : RestartCause) (sized : s.Sized) (slow : ∀ l ∈ s.inputs, 0 < l.debounce)
    (locked : ∀ b ∈ s.rack.bins, b.lock = .locked) (reservations : s.release.reservations = [])
    (unlocks : s.release.unlocks = []) {levels : BitVec 16} (high : ∀ n < 16, levels.getLsbD n = (s.input n).high) :
    s.RestartedFrom (pump (supplyRestart cause s)) cause levels ∧ (supplyRestart cause s).clock = s.clock := by
  rw [supplyRestart_of_quiet cause sized slow locked reservations unlocks]
  obtain ⟨advices, judge, rack, release, -, clock, -, -, -, service, link⟩ := restartBlocks_frame cause s
  obtain ⟨heads, channels, scanner, advices', judge', rack', release', -, clock'⟩ :=
    restartLift_frame (restartBlocks cause s)
  have lifted := restartLift_restarted cause s
  have quiet : (restartLift (restartBlocks cause s)).service =
    ⟨.none, List.replicate 15 false, none, (restartLift (restartBlocks cause s)).service.stats⟩ := by
    rw [restartLift_service, service]
    rfl
  refine ⟨?_, by simp [clock', clock]⟩
  constructor
  · intro h
    have head : (restartLift (restartBlocks cause s)).head h = (s.head h).replaced := by
      rw [State.head, heads]; exact restartBlocks_head cause s h
    rw [pump_head, State.drawn_head]
    exact head ▸ Head.replaced_restartedFrom _
  · intro h
    have channel : (restartLift (restartBlocks cause s)).channel h = (s.channel h).restarted := by
      rw [State.channel, channels]; exact restartBlocks_channel cause s h
    rw [pump_channel, State.drawn_channel]
    exact channel
  · simp [scanner, restartBlocks_scanner]; rfl
  · simp [advices', advices, judge', judge, rack', rack]
  · simp [release', release]
  · exact ⟨by simpa using lifted.kept, by simpa using lifted.settings, by simpa using lifted.log,
      by simpa using lifted.idle, by simpa using lifted.moving, by simpa using lifted.fault⟩
  · rw [pump_service, State.drawn_service]
    exact quiet
  · exact restarted_lines cause sized high (by simp) (by simp)
  · refine restarted_link_pump ?_
    rcases restartLift_link (restartBlocks cause s) with same | ⟨n, branch, sent⟩
    · exact .inl (same.trans link)
    · exact .inr ⟨n, _, branch, link, sent⟩

/-! ### The return of supply -/

theorem State.withLevels_input (sized : s.inputs.length = 16) (levels : BitVec 16) {n : Nat} (lt : n < 16) :
    (s.withLevels levels).input n = { s.input n with high := levels.getLsbD n } := by
  simp [State.input, State.withLevels, sized, lt]

/-- The values of a supply restart do not depend on the levels and the clock that it found (R162, R173). -/
theorem State.RestartedFrom.of_withLevels {cause : RestartCause} {levels : BitVec 16} {clock : Option Nat}
    (sized : s.inputs.length = 16)
    (restarted : (({ s with clock := clock } : State).withLevels levels).RestartedFrom t cause levels) :
    s.RestartedFrom t cause levels where
  heads := restarted.heads
  channels := restarted.channels
  scanner := restarted.scanner
  tables := restarted.tables
  release := restarted.release
  lift := { restarted.lift with }
  service := restarted.service
  lines := { restarted.lines with
    inputs := fun n lt => by rw [restarted.lines.inputs n lt,
      State.withLevels_input (s := { s with clock := clock }) sized levels lt]; rfl }
  link := restarted.link

/-- Settles O3: no line is fast and no bin open, so that every block takes its value at once. -/
theorem supplyRestartKeepsTheBatteryWell : Obligations.SupplyRestartKeepsTheBatteryWell := by
  intro levels outage s sized slow locked reservations unlocks
  let u := ({ s with clock := clockAfter outage s.clock } : State).withLevels levels
  have shaped : u.Sized := { sized with inputs := by simp [u, State.withLevels, sized.inputs] }
  have slow' : ∀ l ∈ u.inputs, 0 < l.debounce := by
    intro l mem
    obtain ⟨i, lt, rfl⟩ := List.mem_mapIdx.1 mem
    exact slow s.inputs[i] (List.getElem_mem lt)
  have high : ∀ n < 16, levels.getLsbD n = (u.input n).high := by
    intro n lt
    rw [State.withLevels_input (s := { s with clock := clockAfter outage s.clock }) sized.inputs levels lt]
  obtain ⟨restarted, clock⟩ := supplyRestart_restartedFrom (s := u) .supply shaped slow' locked reservations unlocks high
  exact ⟨_, rfl, restarted.of_withLevels sized.inputs, by rw [pump_clock, clock]; rfl⟩

/-! ### The restarts that follow a reply -/

/-- The level of a line is its bit of the levels as they stand (R193). -/
theorem testBit_foldr_high (ls : List InputLine) (n : Nat) :
    (ls.foldr (fun (l : InputLine) n => 2 * n + (if l.high then 1 else 0)) 0).testBit n = (ls[n]?.map (·.high)).getD false := by
  induction ls generalizing n with
  | nil => simp
  | cons l ls ih =>
    have bit (m : Nat) : 2 * m + (if l.high then 1 else 0) = Nat.bit l.high m := by cases l.high <;> simp [Nat.bit]
    rw [List.foldr_cons, bit]
    cases n with
    | zero => simp
    | succ n => rw [Nat.testBit_bit_succ, ih]; simp

theorem State.levels_eq (sized : s.inputs.length = 16) {levels : BitVec 16}
    (high : ∀ n < 16, levels.getLsbD n = (s.input n).high) : s.levels = levels := by
  refine BitVec.eq_of_getLsbD_eq fun n lt => ?_
  rw [high n lt, State.levels, BitVec.getLsbD_ofNat, testBit_foldr_high]
  simp [State.input, sized, lt]

/-- Settles O54: the last byte of the reply is the restart. -/
theorem restartsFollowTheirReply : Obligations.RestartsFollowTheirReply := by
  intro p s r body rest levels sized sends reply high
  have gone : frameGone p s = afterReply p (s.port p).requests.head? (some (.ok body)) (s.replyGone p) :=
    reply ▸ frameGone_of_reply sends
  refine ⟨fun requests => ?_, fun requests slow locked reservations unlocks => ?_⟩
  · have cold : frameGone p s = .cold (s.replyGone p).levels s.free s.pending := by
      rw [gone, requests]
      cases p <;> rfl
    have same : (s.replyGone p).levels = levels := State.levels_eq (by cases p <;> exact sized.inputs) (by cases p <;> exact high)
    exact congrArg done (cold.trans (by rw [same]))
  · have restarts : frameGone p s = supplyRestart .request (s.replyGone p) := by
      rw [gone, requests]
      rfl
    have shaped : (s.replyGone p).Sized := by cases p <;> exact { sized with }
    obtain ⟨restarted, clock⟩ := supplyRestart_restartedFrom (s := s.replyGone p) .request shaped
      (by cases p <;> exact slow) (by cases p <;> exact locked) (by cases p <;> exact reservations)
      (by cases p <;> exact unlocks) (levels := levels) (by cases p <;> exact high)
    refine ⟨_, congrArg done restarts, ?_, ?_⟩
    · cases p <;> exact { restarted with lift := { restarted.lift with }, lines := { restarted.lines with }, link := { restarted.link with } }
    · rw [pump_clock, clock]
      cases p <;> rfl

end Sys2Proof.Machine
end

section
/-! The judgement, from either examination task (R11, R12, R15, R61, R70-R78, R86, R92). -/

namespace Sys2Proof.Machine

variable {s t u : State} {h : HeadId}

/-! ### The judgement itself -/

/-- The table after a judgement: the PENDING entry found is lodged to the record (R61, R78). -/
def AdviceTable.lodgedBy (a : AdviceTable) (l : Lookup) (v : Verdict) (seq : Nat) : AdviceTable :=
  match l with
  | .pending i _ _ => a.lodge i v seq
  | .lodged | .none => a

/-- The lookup of the judgement of head `h` (R71). -/
def State.lookupOf (s : State) (h : HeadId) : Lookup := lookupFor s.advices (tagOutcome (s.head h).tags)

/-- The record that the judgement of head `h` with the weighing outcome `w` makes (R76). -/
def State.recordOf (s : State) (h : HeadId) (w : WeighOutcome) : Record :=
  judgedRecord h (s.head h) w (s.lookupOf h) (toleranceFor s.judge (s.lookupOf h)) s.log.nextSeq

/-- The part with the record of a judgement made and its advice lodged, before the head goes on. -/
def State.recorded (s : State) (h : HeadId) (w : WeighOutcome) : State :=
  let u := createRecord h (judgedRecord h (s.head h) w (s.lookupOf h) (toleranceFor s.judge (s.lookupOf h))) s
  { u with advices := u.advices.lodgedBy (s.lookupOf h) (s.recordOf h w).verdict s.log.nextSeq }

/-- The notice of a judgement (R77). -/
def Record.judgedNotice (r : Record) : Notice := .depositJudged r.seq r.head r.tag r.verdict r.cause r.measured

/-- A judgement makes the record, tells it and counts it, and the head goes on (R70). -/
theorem judge_eq (h : HeadId) (w : WeighOutcome) (s : State) :
    judge h w s = enterDischarge h (updateHeadStats h (·.countVerdict (s.recordOf h w).verdict)
      (notify (s.recordOf h w).judgedNotice (s.recorded h w))) := by
  simp only [judge, State.recorded, State.recordOf, State.lookupOf]
  generalize lookupFor s.advices (tagOutcome (s.head h).tags) = l
  cases l <;> rfl

/-- With its cradle occupied a head goes on from the judgement to DISCHARGE, or to HOLD with two bags in staging (R15). -/
theorem enterDischarge_of_cradle (cradle : s.cradle h = true) : enterDischarge h s =
    if (s.head h).staging.length < 2 then moveHead h Head.opening s
    else moveHead h (fun hd => { hd with state := .hold }) s := by
  rw [enterDischarge, openGate_of_cradle cradle]

theorem enterDischarge_spec (cradle : s.cradle h = true) :
    let t := enterDischarge h s
    (t.head h).state = (if (s.head h).staging.length < 2 then .discharge else .hold) ∧
      (t.head h).cradleRecord = (s.head h).cradleRecord ∧ (t.head h).reservation = (s.head h).reservation ∧
      (t.head h).staging = (s.head h).staging ∧ (∀ k, k ≠ h → t.head k = s.head k) ∧ t.log = s.log ∧
      t.advices = s.advices ∧ s.Raises 0 t := by
  rw [enterDischarge_of_cradle cradle]
  split
  · exact ⟨by rw [moveHead_head]; rfl, by rw [moveHead_head]; rfl, by rw [moveHead_head]; rfl, by rw [moveHead_head]; rfl,
      fun k ne => moveHead_head_of_ne _ _ ne, by simp, by simp, (State.Raises.refl s).moveHead ..⟩
  · exact ⟨by rw [moveHead_head], by rw [moveHead_head], by rw [moveHead_head], by rw [moveHead_head],
      fun k ne => moveHead_head_of_ne _ _ ne, by simp, by simp, (State.Raises.refl s).moveHead ..⟩

/-- What a judgement of a reserved head with its cradle occupied does (R15, R70, R76, R78, R92). -/
theorem judge_spec (w : WeighOutcome) (cradle : s.cradle h = true) (reserved : (s.head h).reservation = true) :
    let t := judge h w s
    t.log.records = s.log.records ++ [s.recordOf h w] ∧
      t.log.nextSeq = nextSeqAfter (t.log.records.map (·.seq)) s.log.nextSeq ∧
      t.log.reservations = s.log.reservations - 1 ∧
      (t.head h).cradleRecord = some s.log.nextSeq ∧ (t.head h).reservation = false ∧
      (t.head h).state = (if (s.head h).staging.length < 2 then .discharge else .hold) ∧
      (t.head h).staging = (s.head h).staging ∧ (∀ k, k ≠ h → t.head k = s.head k) ∧
      t.advices = s.advices.lodgedBy (s.lookupOf h) (s.recordOf h w).verdict s.log.nextSeq ∧ t.rack = s.rack ∧
      (s.link.branch.notices.length < 32 → (s.recordOf h w).judgedNotice ∈ t.link.branch.notices) := by
  intro t
  let z := updateHeadStats h (·.countVerdict (s.recordOf h w).verdict)
    (notify (s.recordOf h w).judgedNotice (s.recorded h w))
  have still : z.cradle h = true := by rw [← cradle]; simp [z]; rfl
  obtain ⟨state, record, reservation, staging, others, log, advices, raises⟩ := enterDischarge_spec still
  rw [show enterDischarge h z = t from (judge_eq h w s).symm] at state record reservation staging others log advices raises
  have made : z.log = (createRecord h (judgedRecord h (s.head h) w (s.lookupOf h)
    (toleranceFor s.judge (s.lookupOf h))) s).log := by simp [z]; rfl
  have head : z.head h = { s.head h with reservation := false, cradleRecord := some s.log.nextSeq, landed := none } := by
    simp only [z, updateHeadStats_frame, notify_frame]
    exact createRecord_head ..
  have other (k : HeadId) (ne : k ≠ h) : z.head k = s.head k := by
    simp only [z, updateHeadStats_frame, notify_frame]
    exact createRecord_head_of_ne _ _ ne
  have tables : z.advices = s.advices.lodgedBy (s.lookupOf h) (s.recordOf h w).verdict s.log.nextSeq := by
    simp [z, State.recorded]
  rw [head] at state record reservation staging
  refine ⟨?_, ?_, ?_, record, reservation, state, staging, fun k ne => (others k ne).trans (other k ne),
    advices.trans tables, by simp [t], fun room => ?_⟩
  · rw [log, made]; exact createRecord_records ..
  · rw [log, made]; rfl
  · rw [log, made]; simp [createRecord, reserved]
  · have sent : (s.recordOf h w).judgedNotice ∈ (notify (s.recordOf h w).judgedNotice (s.recorded h w)).link.branch.notices :=
      (State.Raises.refl (s.recorded h w)).mem_notify rfl (by simpa [State.recorded] using room)
    exact (((State.Raises.refl _).updateHeadStats ..).trans raises).mem sent

/-! ### The ways to the judgement -/

/-- `u` is `s` as far as the judgement of head `h` reads it: channels, and the timers of the head's examination, apart. -/
structure State.Examined (h : HeadId) (s u : State) : Prop where
  log      : u.log = s.log
  advices  : u.advices = s.advices
  judge    : u.judge = s.judge
  rack     : u.rack = s.rack
  link     : u.link = s.link
  cradle   : u.cradle h = s.cradle h
  evidence : ∃ window done weighing, u.head h =
    { s.head h with windowTimer := window, windowDone := done, weighing := weighing }
  others   : ∀ k, k ≠ h → u.head k = s.head k

theorem State.Examined.updateHead {f : Head → Head} (window : Timer) (done : Bool) (weighing : Option WeighOutcome)
    (keeps : f (s.head h) = { s.head h with windowTimer := window, windowDone := done, weighing := weighing }) :
    s.Examined h (updateHead h f s) where
  log := by simp
  advices := by simp
  judge := by simp
  rack := by simp
  link := by simp
  cradle := by simp
  evidence := ⟨window, done, weighing, by rw [updateHead_head, keeps]⟩
  others k ne := updateHead_head_of_ne _ _ ne

/-- Work of the channels, whose outcome the head has not taken yet. -/
theorem State.Examined.of_channels (channels : u.log = s.log ∧ u.advices = s.advices ∧ u.judge = s.judge ∧ u.rack = s.rack ∧
    u.link = s.link ∧ u.cradle h = s.cradle h) (heads : u.heads = s.heads) : s.Examined h u := by
  obtain ⟨log, advices, judge, rack, link, cradle⟩ := channels
  exact ⟨log, advices, judge, rack, link, cradle, ⟨_, _, _, by rw [State.head, heads]; rfl⟩,
    fun k _ => by rw [State.head, heads]; rfl⟩

theorem State.Examined.trans (a : s.Examined h u) (b : u.Examined h t) : s.Examined h t := by
  obtain ⟨_, _, _, head⟩ := a.evidence
  obtain ⟨window, done, weighing, head'⟩ := b.evidence
  exact ⟨b.log.trans a.log, b.advices.trans a.advices, b.judge.trans a.judge, b.rack.trans a.rack, b.link.trans a.link,
    b.cradle.trans a.cradle, ⟨window, done, weighing, by rw [head', head]⟩,
    fun k ne => (b.others k ne).trans (a.others k ne)⟩

/-- The judgement reads the state before its step. -/
theorem State.Examined.recordOf (examined : s.Examined h u) (w : WeighOutcome) :
    u.lookupOf h = s.lookupOf h ∧ u.recordOf h w = s.recordOf h w := by
  obtain ⟨_, _, _, head⟩ := examined.evidence
  have looked : u.lookupOf h = s.lookupOf h := by rw [State.lookupOf, examined.advices, head]; rfl
  exact ⟨looked, by rw [State.recordOf, looked, examined.judge, examined.log, head]; rfl⟩

section
variable (examine : (s.head h).state = .examine) (ended : (s.head h).windowDone = true)
include examine ended

/-- The end of a head's weighing, its tag window done, brings the judgement (R12). -/
theorem finishWeighing_judges {x : WeighRecord} (weighing : (s.channel h).state = .weighing x) (mine : x.requester = .head)
    (w : WeighOutcome) (average : Int) : ∃ u, s.Examined h u ∧ finishWeighing h w average s = judge h w u := by
  have idle : s.Examined h (abandonWeighing h s) := .of_channels (by simp) (by simp)
  have same : (abandonWeighing h s).head h = s.head h := by simp
  refine ⟨updateHead h (fun hd => { hd with weighing := some w }) (abandonWeighing h s),
    idle.trans (.updateHead _ _ _ rfl), ?_⟩
  simp only [finishWeighing, weighing, mine, headOutcome, same, examine, if_true, updateHead_head, ended]

theorem settleExpired_judges {x : WeighRecord} (weighing : (s.channel h).state = .weighing x) (mine : x.requester = .head) :
    let high := x.anyReading && ((s.channel h).latest.map Reading.overrange).getD false
    ∃ u, s.Examined h u ∧ settleExpired h s = judge h (.unsettled (if high then .overrange else .timeout)) u := by
  intro high
  obtain ⟨u, examined, judges⟩ := finishWeighing_judges examine ended weighing mine
    (.unsettled (if high then .overrange else .timeout)) 0
  exact ⟨u, examined, by rw [← judges, settleExpired, weighing]⟩

/-- The settling reading ends the weighing (R37, R38). -/
theorem countReading_judges {x : WeighRecord} {p r : Reading}
    (mine : x.requester = .head) (run : x.delayRun = true) (previous : x.previous = some p)
    (settles : x.count ≤ x.compare p r) :
    ∃ u, s.Examined h u ∧ countReading h x r s = judge h (.settled r.mass (r.flag == .negative)) u := by
  let z : WeighRecord := { x with anyReading := true, previous := some r, stable := x.compare p r }
  let v := updateChannel h (fun c => { c with state := .weighing z }) s
  have same : v.head h = s.head h := by simp [v]
  obtain ⟨u, examined, judges⟩ := finishWeighing_judges (s := v) (h := h) (x := z) (by rw [same]; exact examine)
    (by rw [same]; exact ended) (by simp [v]) mine (.settled r.mass (r.flag == .negative)) r.average
  have seen : s.Examined h v := .of_channels (by simp [v]) (by simp [v])
  refine ⟨u, seen.trans examined, ?_⟩
  rw [← judges]
  unfold countReading
  dsimp only
  rw [if_neg (by rw [run]; decide)]
  split
  · next none => exact absurd (previous.symm.trans none) nofun
  · next q some =>
    obtain rfl : p = q := Option.some.inj (previous.symm.trans some)
    exact if_pos settles

/-- The conversion that completes the settling reading ends the weighing (R34, R37, R38). -/
theorem addConversion_judges {x : WeighRecord} {p : Reading} {v : Conversion} {code : Int}
    (weighing : (s.channel h).state = .weighing x) (mine : x.requester = .head)
    (conversion : (s.channel h).conversion = some v) (kept : v.dropped = false)
    (whole : 2 ^ x.exponent ≤ (s.channel h).gathered.count + 1) (run : x.delayRun = true) (previous : x.previous = some p) :
    let g := (s.channel h).gathered
    let r := makeReading (averageCode x.exponent (g.sum + code)) (s.channel h).zero (s.channel h).span
      (g.saturated || isSaturated code) (g.clear && v.clear) false
    x.count ≤ x.compare p r →
    ∃ u, s.Examined h u ∧ addConversion h code s = judge h (.settled r.mass (r.flag == .negative)) u := by
  intro g r settles
  let c : Channel := { s.channel h with conversion := none, gathered := g.add code v.clear }
  let a := updateChannel h (fun c => { c with conversion := none, gathered := c.gathered.add code v.clear }) s
  have channel : a.channel h = c := by simp [a, c, g]
  let b := updateChannel h (fun c => { c with latest := some r, gathered := .empty }) a
  have same : b.head h = s.head h := by simp [a, b]
  obtain ⟨u, examined, judges⟩ := countReading_judges (s := b) (h := h) (x := x) (r := r) (by rw [same]; exact examine)
    (by rw [same]; exact ended) mine run previous settles
  have seen : s.Examined h b := .of_channels (by simp [a, b]) (by simp [a, b])
  refine ⟨u, seen.trans examined, ?_⟩
  rw [← judges]
  have exponent : (a.channel h).exponent = x.exponent := by rw [channel]; simp [Channel.exponent, c, weighing]
  have full : 2 ^ (a.channel h).exponent ≤ (a.channel h).gathered.count := by rw [exponent, channel]; exact whole
  have state : (a.channel h).state = .weighing x := by rw [channel]; exact weighing
  have completes : addConversion h code s = completeReading h a := by
    simp only [addConversion, conversion, kept, Bool.false_eq_true, if_false]
    exact if_pos full
  rw [completes, completeReading]
  simp only [state, exponent]
  rw [channel]
  rfl
end

/-- A judgement keeps every staging queue, so that no arbitration follows it. -/
theorem judge_settles {f : State → State} {w : WeighOutcome} (examined : s.Examined h u) (judges : f s = judge h w u)
    (cradle : s.cradle h = true) (reserved : (s.head h).reservation = true) :
    ∃ t, done (settled f s) = .next t ∧ (judge h w u).Settles t := by
  obtain ⟨_, _, _, head⟩ := examined.evidence
  obtain ⟨-, -, -, -, -, -, staging, others, -⟩ :=
    judge_spec w (examined.cradle.trans cradle) (h := h) (s := u) (by rw [head]; exact reserved)
  have quiet : s.Undisturbed (f s) := .inl fun k => by
    rw [judges]
    rcases eq_or_ne k h with rfl | ne
    · rw [staging, head]
    · rw [others k ne, examined.others k ne]
  rw [← judges]
  exact done_settled f quiet

theorem WeighRecord.compare_of_near {x : WeighRecord} {p r : Reading} (calm : p.saturated = false) (low : p.flag ≠ .high)
    (calm' : r.saturated = false) (low' : r.flag ≠ .high) (near : r.mass ≤ p.mass + x.band) (near' : p.mass ≤ r.mass + x.band) :
    x.compare p r = x.stable + 1 := by
  simp [WeighRecord.compare, Reading.overrange, withinBand, calm, low, calm', low', near, near']

/-- A reading flagged SATURATED or HIGH, as the end of a weighing asks for it (R39). -/
theorem overrange_latest (any : Bool) (latest : Option Reading) :
    ((any && (latest.map Reading.overrange).getD false) = true) =
      (any = true ∧ ∃ r, latest = some r ∧ (r.saturated = true ∨ r.flag = .high)) := by
  cases latest <;> simp [Reading.overrange]

/-- Settles O12: each of the three ways ends in the judgement of a state that reads as the one before the step. -/
theorem judgementMakesTheRecord : Obligations.JudgementMakesTheRecord := by
  intro s h w c sized examine reserved cradle way tags tag l tolerance verdict cause measured
  have judges : ∃ (u : State) (t : State), s.Examined h u ∧ exec c s = .next t ∧ (judge h w u).Settles t := by
    rcases way with ⟨rfl, running, weighed⟩ | ⟨ended, x, weighing, mine, ⟨rfl, running, outcome⟩ |
      ⟨code, v, p, settling⟩⟩
    · have examined : s.Examined h (updateHead h Head.windowEnded s) := .updateHead none true (some w) (by rw [← weighed]; rfl)
      obtain ⟨t, stepped, settles⟩ := judge_settles (f := windowExpired h) examined
        (windowExpired_of_weighed examine running weighed) cradle reserved
      exact ⟨_, t, examined, stepped, settles⟩
    · obtain ⟨u, examined, judges⟩ := settleExpired_judges examine ended weighing mine
      obtain ⟨t, stepped, settles⟩ := judge_settles (f := settleTimerExpired h) examined
        ((if_pos running).trans judges) cradle reserved
      refine ⟨u, t, examined, stepped, ?_⟩
      rw [outcome]
      convert settles using 4
      rw [overrange_latest]
    · obtain ⟨rfl, conversion, kept, whole, run, previous, count, calm, low, calm', low', near, near', outcome⟩ := settling
      obtain ⟨u, examined, judges⟩ := addConversion_judges examine ended weighing mine conversion kept whole run previous
        (count.trans (WeighRecord.compare_of_near calm low calm' low' near near').ge)
      obtain ⟨t, stepped, settles⟩ := judge_settles (f := addConversion h code.toInt) examined judges cradle reserved
      refine ⟨u, t, examined, stepped, ?_⟩
      rw [outcome, ← beq_eq_decide]
      exact settles
  obtain ⟨u, t, examined, stepped, settles⟩ := judges
  obtain ⟨_, _, _, head⟩ := examined.evidence
  obtain ⟨looked, record⟩ := examined.recordOf w
  obtain ⟨records, next, reservations, cradled, spent, state, staging, others, advices, rack, sent⟩ :=
    judge_spec w (examined.cradle.trans cradle) (h := h) (s := u) (by rw [head]; exact reserved)
  rw [looked, record, examined.advices, examined.log] at advices
  rw [examined.log] at records next reservations cradled
  rw [record] at records sent
  rw [head] at state staging
  have found : s.lookupOf h = l := by
    show lookupFor s.advices (tagOutcome (s.head h).tags) = l
    simp only [l, tag, tags]
    rcases (s.head h).tags with _ | ⟨n, _ | ⟨m, rest⟩⟩ <;> rfl
  have tolerated : toleranceFor s.judge l = tolerance := by
    simp only [tolerance]
    cases l <;> rfl
  have tagged : (judgedRecord h (s.head h) w l tolerance s.log.nextSeq).tag = tag := by
    simp only [judgedRecord, tag, tags]
    rcases (s.head h).tags with _ | ⟨n, _ | ⟨m, rest⟩⟩ <;> rfl
  have caused : (judgedRecord h (s.head h) w l tolerance s.log.nextSeq).cause = cause := by
    simp only [judgedRecord, cause, tags]
    rcases (s.head h).tags with _ | ⟨n, _ | ⟨m, rest⟩⟩ <;> rcases w with _ | (_ | _ | _) <;> rfl
  have made : s.recordOf h w = judgedRecord h (s.head h) w l tolerance s.log.nextSeq := by
    rw [State.recordOf, found, tolerated]
  rw [made] at records sent advices
  rw [found] at advices
  refine ⟨t, stepped, ?_, ?_, ?_, ?_, ?_, ?_, ?_, fun k ne => ?_, ?_, ?_, fun room => ?_⟩
  · rw [settles.log, records]
    congr 2
    rw [← tagged, ← caused]
    clear_value tolerance l
    cases l <;> rfl
  · rw [settles.log, next]
  · rw [settles.log, reservations]
  · rw [settles.head, cradled]
  · rw [settles.head, spent]
  · rw [settles.head, state]
  · rw [settles.head, staging]
  · rw [settles.head, others k ne, examined.others k ne]
  · rw [settles.advices, advices]
    clear_value l
    cases l <;> rfl
  · rw [settles.rack, rack, examined.rack]
  · have mem := settles.notices .branch _ (sent (by rw [examined.link]; exact room))
    rw [Record.judgedNotice, tagged, caused] at mem
    exact mem

end Sys2Proof.Machine
end

section
/-! The end of the warm-up, and log full (R6, R20, R30, R93, R94, R95). -/

namespace Sys2Proof.Machine

variable {s t u : State} {h k : HeadId} {n m : Nat}

/-! ### The work of other heads -/

/-- `t` is `s` as far as head `k` goes, after work of other heads that raised at most `n` notices. -/
structure State.Beside (k : HeadId) (n : Nat) (s t : State) : Prop where
  head     : t.head k = s.head k
  channel  : t.channel k = s.channel k
  active   : ∀ m, t.active m = s.active m
  commands : s.Commands k → t.Commands k
  length   : t.outputs.length = s.outputs.length
  records  : t.log.records = s.log.records ∧ t.log.nextSeq = s.log.nextSeq
  raises   : s.Raises n t

namespace State.Beside

theorem refl (k : HeadId) (s : State) : s.Beside k 0 s :=
  ⟨rfl, rfl, fun _ => rfl, id, rfl, ⟨rfl, rfl⟩, .refl s⟩

theorem trans (a : s.Beside k n t) (b : t.Beside k m u) : s.Beside k (n + m) u where
  head := b.head.trans a.head
  channel := b.channel.trans a.channel
  active m := (b.active m).trans (a.active m)
  commands c := b.commands (a.commands c)
  length := b.length.trans a.length
  records := ⟨b.records.1.trans a.records.1, b.records.2.trans a.records.2⟩
  raises := a.raises.trans b.raises

end State.Beside

theorem updateHead_output_of_ne (f : Head → Head) (ne : m / 4 ≠ headIndex h) : (updateHead h f s).output m = s.output m := by
  rw [updateHead, driveHead_output_of_ne _ ne]
  rfl

theorem headIndex_ne (ne : k ≠ h) : headIndex k ≠ headIndex h := by cases h <;> cases k <;> first | exact absurd rfl ne | decide

theorem closeHead_output_of_ne (cause : ClosedCause) (ne : m / 4 ≠ headIndex h) :
    (closeHead h cause s).output m = s.output m := by
  have outputs : (closeHead h cause s).outputs =
      (updateHead h (fun hd => { hd with state := .closed, closePending := none }) (notify (.headClosed h cause) s)).outputs := by
    simp [closeHead]
  rw [State.output, outputs, ← State.output, updateHead_output_of_ne _ ne]
  simp

theorem receiveClose_output_of_ne (c : CloseCause) (ne : m / 4 ≠ headIndex h) :
    (receiveClose h c s).output m = s.output m := by
  simp only [receiveClose, closeReady]
  repeat' split
  · rfl
  · rw [closeHead_output_of_ne _ ne]
    simp [updateHead_output_of_ne _ ne]
  · rw [updateHead_output_of_ne _ ne]
  · rw [closeHead_output_of_ne _ ne, updateHead_output_of_ne _ ne]
  · rw [updateHead_output_of_ne _ ne]

theorem receiveClose_outputs_length (c : CloseCause) : (receiveClose h c s).outputs.length = s.outputs.length := by
  simp only [receiveClose, closeReady, closeHead]
  repeat' split
  all_goals simp

theorem giveBack_nextSeq : (giveBack h s).log.nextSeq = s.log.nextSeq := by
  rw [giveBack_log]
  split <;> rfl

theorem receiveClose_nextSeq (c : CloseCause) : (receiveClose h c s).log.nextSeq = s.log.nextSeq := by
  simp only [receiveClose, closeReady, closeHead]
  repeat' split
  all_goals simp [giveBack_nextSeq]

theorem receiveClose_beside (c : CloseCause) (ne : k ≠ h) : s.Beside k 1 (receiveClose h c s) where
  head := receiveClose_head_of_ne _ _ ne
  channel := receiveClose_channel_of_ne c ne
  active m := by simp
  commands begun := begun.of_outputs (receiveClose_head_of_ne _ _ ne) fun m mine =>
    receiveClose_output_of_ne c (mine ▸ headIndex_ne ne)
  length := receiveClose_outputs_length c
  records := ⟨receiveClose_records c h, receiveClose_nextSeq c⟩
  raises := (State.Raises.refl s).receiveClose h c

/-! ### Log full -/

/-- Log full at one head (R94). -/
def State.fullAt (s : State) (h : HeadId) : State := if (s.head h).state = .ready then receiveClose h .logFull s else s

theorem fullAt_beside (ne : k ≠ h) : s.Beside k 1 (s.fullAt h) := by
  unfold State.fullAt
  split
  · exact receiveClose_beside _ ne
  · exact { State.Beside.refl k s with raises := (State.Raises.refl s).le (by omega) }

/-- As far as one head goes, log full is what it does at this head. -/
theorem logFullSignal_beside (k : HeadId) (s : State) :
    ∃ v, s.Beside k 2 v ∧ (v.fullAt k).Beside k 2 (logFullSignal s) := by
  have three : logFullSignal s = ((s.fullAt .a).fullAt .b).fullAt .c := rfl
  have wide {n : Nat} {v w : State} (a : v.Beside k n w) (le : n ≤ 2) : v.Beside k 2 w := { a with raises := a.raises.le le }
  rw [three]
  cases k with
  | a => exact ⟨s, wide (.refl _ _) (by omega), (fullAt_beside (by decide)).trans (fullAt_beside (by decide))⟩
  | b => exact ⟨s.fullAt .a, wide (fullAt_beside (by decide)) (by omega), wide (fullAt_beside (by decide)) (by omega)⟩
  | c => exact ⟨_, (fullAt_beside (by decide)).trans (fullAt_beside (by decide)), wide (.refl _ _) (by omega)⟩

theorem closeHead_sameButIdle (cause : ClosedCause) (rest : (s.channel h).Resting) :
    (s.channel h).SameButIdle ((closeHead h cause s).channel h) := by
  have moved := moveHead_sameButIdle (s := notify (.headClosed h cause) s) (h := h)
    (fun hd => { hd with state := .closed, closePending := none }) (by rwa [notify_channel])
  rw [notify_channel] at moved
  simp only [closeHead, endUnwantedWarmUp]
  rw [if_neg fun warms => by simp [(moved.resting rest).not_warming] at warms]
  exact moved

theorem receiveClose_sameButIdle (c : CloseCause) (rest : (s.channel h).Resting) :
    (s.channel h).SameButIdle ((receiveClose h c s).channel h) := by
  have close {cause : ClosedCause} {v : State} (same : v.channel h = s.channel h) :
      (s.channel h).SameButIdle ((closeHead h cause v).channel h) := same ▸ closeHead_sameButIdle cause (by rwa [same])
  simp only [receiveClose, closeReady]
  repeat' split
  · exact .refl _
  · exact close (by rw [giveBack_channel, updateHead_channel])
  · rw [updateHead_channel]; exact .refl _
  · exact close (by rw [updateHead_channel])
  · rw [updateHead_channel]; exact .refl _

theorem receiveClose_commands (sized : s.outputs.length = 15) (c : CloseCause) (awake : (s.head h).state ≠ .closed) :
    (receiveClose h c s).Commands h := by
  simp only [receiveClose, if_neg awake, closeReady]
  repeat' split
  · exact closeHead_commands (by simpa using sized) ..
  · exact updateHead_commands sized ..
  · exact closeHead_commands (by simpa using sized) ..
  · exact updateHead_commands sized ..

/-- What log full does to a head in READY (R20, R94). -/
theorem logFullSignal_of_ready (sized : s.outputs.length = 15) (ready : (s.head k).state = .ready) :
    let t := logFullSignal s
    let first : CloseCause := (s.head k).closePending.getD .logFull
    (s.active (intakeShutLine k) = true →
      t.head k = { s.head k with state := .closed, closePending := none, reservation := false } ∧
        (s.link.branch.notices.length + 2 < 32 → Notice.headClosed k (.cause first) ∈ t.link.branch.notices)) ∧
      (s.active (intakeShutLine k) = false → t.head k = { s.head k with closePending := some first }) ∧ t.Commands k := by
  intro t first
  obtain ⟨v, before, after⟩ := logFullSignal_beside k s
  have reached : v.fullAt k = receiveClose k .logFull v := if_pos (by rw [before.head]; exact ready)
  rw [reached] at after
  have waits : (v.head k).state = .ready := by rw [before.head]; exact ready
  refine ⟨fun shut => ⟨?_, fun room => ?_⟩, fun open' => ?_, ?_⟩
  · rw [after.head, receiveClose_head_of_shut _ waits (by rw [before.active]; exact shut), before.head]
  · have sent := receiveClose_of_shut (h := k) .logFull waits (by rw [before.active]; exact shut)
    rw [sent, before.head] at after
    exact after.raises.mem (closeHead_sends _ _ (by
      have := before.raises.branch
      simp only [giveBack_frame, updateHead_frame]
      omega))
  · rw [after.head, receiveClose_head_of_kept _ (by simp [waits]) (by simp [waits]) (by simp [waits, before.active, open']),
      before.head]
  · exact after.commands (receiveClose_commands (before.length.trans sized) _ (by simp [waits]))

/-- Log full reaches no head in any other state (R94). -/
theorem logFullSignal_of_other (other : (s.head k).state ≠ .ready) : s.Beside k 4 (logFullSignal s) := by
  obtain ⟨v, before, after⟩ := logFullSignal_beside k s
  have missed : v.fullAt k = v := if_neg (by rw [before.head]; exact other)
  rw [missed] at after
  exact before.trans after

/-- Log full leaves a resting channel but for its idle timer. -/
theorem logFullSignal_sameButIdle (rest : (s.channel k).Resting) :
    (s.channel k).SameButIdle ((logFullSignal s).channel k) := by
  obtain ⟨v, before, after⟩ := logFullSignal_beside k s
  rw [after.channel, ← before.channel]
  unfold State.fullAt
  split
  · exact receiveClose_sameButIdle _ (by rwa [before.channel])
  · exact .refl _

theorem logFullSignal_records (s : State) :
    (logFullSignal s).log.records = s.log.records ∧ (logFullSignal s).log.nextSeq = s.log.nextSeq := by
  obtain ⟨v, before, after⟩ := logFullSignal_beside .a s
  have reached : (v.fullAt .a).log.records = v.log.records ∧ (v.fullAt .a).log.nextSeq = v.log.nextSeq := by
    unfold State.fullAt
    split
    · exact ⟨receiveClose_records _ _, receiveClose_nextSeq _⟩
    · exact ⟨rfl, rfl⟩
  exact ⟨after.records.1.trans (reached.1.trans before.records.1), after.records.2.trans (reached.2.trans before.records.2)⟩

theorem logFullSignal_staging (s : State) (k : HeadId) : ((logFullSignal s).head k).staging = (s.head k).staging := by
  obtain ⟨v, before, after⟩ := logFullSignal_beside k s
  rw [after.head, ← before.head]
  unfold State.fullAt
  split
  · rw [receiveClose_staging]
  · rfl

/-! ### No calibration step -/

theorem moveHead_stepless (f : Head → Head) (stepless : s.service.step = none) : (moveHead h f s).service.step = none := by
  have off : (updateHead h f s).stepOn h = false := by simp [State.stepOn, stepless]
  simp [moveHead, off, stepless]

theorem closeHead_stepless (cause : ClosedCause) (stepless : s.service.step = none) :
    (closeHead h cause s).service.step = none := by
  simp only [closeHead, endUnwantedWarmUp_frame]
  exact moveHead_stepless _ (by simpa using stepless)

theorem receiveClose_stepless (c : CloseCause) (stepless : s.service.step = none) :
    (receiveClose h c s).service.step = none := by
  simp only [receiveClose, closeReady]
  repeat' split
  · exact stepless
  · exact closeHead_stepless _ (by simpa using stepless)
  · simpa using stepless
  · exact closeHead_stepless _ (by simpa using stepless)
  · simpa using stepless

theorem fullAt_stepless (h : HeadId) (stepless : s.service.step = none) : (s.fullAt h).service.step = none := by
  unfold State.fullAt
  split
  · exact receiveClose_stepless _ stepless
  · exact stepless

theorem logFullSignal_stepless (stepless : s.service.step = none) : (logFullSignal s).service.step = none :=
  fullAt_stepless .c (fullAt_stepless .b (fullAt_stepless .a stepless))

theorem stepChannelIdle_of_stepless (stepless : s.service.step = none) : stepChannelIdle h s = s := by
  simp [stepChannelIdle, stepless]

/-! ### The end of the warm-up -/

/-- The channel at the end of its warm-up, with the zero captured (R30). -/
def Channel.warmedUp (c : Channel) (average : Int) : Channel :=
  { c with
    state := .idle
    zero := average
    zeroDrift := false
    latest := some (makeReading average average c.span false true false)
    gathered := .empty
    conversion := none
    warmUpTimer := none
    zeroTimer := some c.settings.zeroInterval }

/-- The part with the warm-up of channel `h` ended: the heads and everything but the channel are as before. -/
structure State.WarmedUp (h : HeadId) (average : Int) (s w : State) : Prop where
  heads    : w.heads = s.heads
  log      : w.log = s.log
  inputs   : w.inputs = s.inputs
  outputs  : w.outputs = s.outputs
  service  : w.service = s.service
  link     : w.link = s.link
  channel  : ((s.channel h).warmedUp average).SameButIdle (w.channel h)
  others   : ∀ k, k ≠ h → w.channel k = s.channel k

/-- The reading of the zero itself (R30, R35). -/
theorem makeReading_zero (average : Int) (span : Nat) (saturated clear warm : Bool) :
    (makeReading average average span saturated clear warm).mass = 0 ∧
      (makeReading average average span saturated clear warm).flag = .plain := by
  have zero : unclampedMass average average span = 0 := by simp [unclampedMass, roundAway]
  simp [makeReading, zero, clampMass, massFlag]

/-- The first reading completed with the warm-up DONE, calm and clear, ends it (R30). -/
theorem addConversion_of_warm {v : Conversion} {code : Int} (warm : (s.channel h).state = .warming .done)
    (conversion : (s.channel h).conversion = some v) (kept : v.dropped = false)
    (whole : 2 ^ (s.channel h).settings.exponent ≤ (s.channel h).gathered.count + 1)
    (clear : (s.channel h).gathered.clear = true) (clear' : v.clear = true) (calm : (s.channel h).gathered.saturated = false)
    (calm' : isSaturated code = false) (sound : (s.channel h).refFault = false) :
    ∃ w, s.WarmedUp h (averageCode (s.channel h).settings.exponent ((s.channel h).gathered.sum + code)) w ∧
      addConversion h code s = stepChannelIdle h (headChannelIdle h w) := by
  let average := averageCode (s.channel h).settings.exponent ((s.channel h).gathered.sum + code)
  let a := updateChannel h (fun c => { c with conversion := none, gathered := c.gathered.add code v.clear }) s
  have channel : a.channel h = { s.channel h with
      conversion := none, gathered := (s.channel h).gathered.add code v.clear } := updateChannel_channel ..
  have exponent : (a.channel h).exponent = (s.channel h).settings.exponent := by rw [channel]; simp [Channel.exponent, warm]
  have full : 2 ^ (a.channel h).exponent ≤ (a.channel h).gathered.count := by rw [exponent, channel]; exact whole
  have completes : addConversion h code s = completeReading h a := by
    simp only [addConversion, conversion, kept, Bool.false_eq_true, if_false]
    exact if_pos full
  have gathered : (a.channel h).gathered =
      ⟨(s.channel h).gathered.count + 1, (s.channel h).gathered.sum + code, false, true⟩ := by
    rw [channel]
    simp [PartialReading.add, clear, clear', calm, calm']
  let b := updateChannel h (fun c => { c with
      latest := some (makeReading average c.zero c.span false true false)
      gathered := .empty
      state := .idle
      warmUpTimer := none
      zeroTimer := some c.settings.zeroInterval }) (updateChannel h (fun c => { c with zero := average, zeroDrift := false }) a)
  have still : (a.channel h).state = .warming .done := by rw [channel]; exact warm
  have faultless : (a.channel h).refFault = false := by rw [channel]; exact sound
  have ends : completeReading h a = stepChannelIdle h (headChannelIdle h (refreshIdle h b)) := by
    unfold completeReading
    simp only [still, exponent, gathered]
    simp only [endWarmUp, faultless, Bool.not_true, Bool.or_false, Bool.false_eq_true, if_false]
    rfl
  refine ⟨refreshIdle h b, ?_, completes.trans ends⟩
  constructor
  · simp [a, b]
  · simp [a, b]
  · simp [a, b]
  · simp [a, b]
  · simp [a, b]
  · simp [a, b]
  · have same := refreshIdle_sameButIdle (s := b) h
    have last : b.channel h = (s.channel h).warmedUp average := by
      simp only [b, updateChannel_channel, channel]
      rfl
    rwa [last] at same
  · intro k ne
    simp only [refreshIdle_channel_of_ne _ ne, a, b, updateChannel_channel_of_ne _ _ ne]

/-- A WARMING head whose channel is IDLE, its cradle empty and the log with a free place, is READY (R6). -/
theorem headChannelIdle_of_warming (warming : (s.head h).state = .warming) (cradle : s.cradle h = false)
    (taken : takeReservation h s = some u) :
    headChannelIdle h s = signalIfFull (moveHead h (fun hd => { hd with state := .ready }) u) := by
  unfold headChannelIdle
  split
  · rw [if_neg (by rw [cradle]; decide)]
    split
    · next some => rw [Option.some.inj (some.symm.trans taken)]
    · next none => exact absurd (none.symm.trans taken) nofun
  · next recover => exact absurd (warming.symm.trans recover) nofun
  · next not _ => exact absurd warming not

/-- The part with its WARMING head READY, before log full is judged: the reservation is taken and the head has moved. -/
structure State.Readied (h : HeadId) (s x : State) : Prop where
  head     : x.head h = { s.head h with state := .ready, reservation := true }
  others   : ∀ k, k ≠ h → x.head k = s.head k ∧ x.channel k = s.channel k
  channel  : (s.channel h).SameButIdle (x.channel h)
  log      : x.log = { s.log with
    reservations := s.log.reservations + 1
    lowFlag := s.log.lowFlag || decide (s.logFree - 1 ≤ s.log.lowWater) }
  commands : x.Commands h
  sized    : x.outputs.length = 15
  active   : ∀ m, x.active m = s.active m
  stepless : s.service.step = none → x.service.step = none
  raises   : s.Raises 1 x

theorem headChannelIdle_readies (warming : (s.head h).state = .warming) (cradle : s.cradle h = false)
    (free : s.logFree ≠ 0) (sized : s.outputs.length = 15) (idle : (s.channel h).state = .idle) :
    ∃ x, s.Readied h x ∧ headChannelIdle h s = signalIfFull x := by
  obtain ⟨u, taken⟩ := exists_takeReservation h free
  obtain ⟨_, head, others, _⟩ := takeReservation_spec s taken
  obtain ⟨channels, _, _, _, _, _, _, inputs, outputs, _, _, service, _⟩ := takeReservation_frame s taken
  have channel : ∀ k, u.channel k = s.channel k := fun k => by rw [State.channel, channels]; rfl
  have sized' : u.outputs.length = 15 := by rw [outputs]; exact sized
  refine ⟨moveHead h (fun hd => { hd with state := .ready }) u, ?_, headChannelIdle_of_warming warming cradle taken⟩
  constructor
  · rw [moveHead_head, head]
  · intro k ne
    exact ⟨by rw [moveHead_head_of_ne _ _ ne, others k ne], by rw [moveHead_channel_of_ne _ ne, channel]⟩
  · have moved := moveHead_sameButIdle (s := u) (h := h) (fun hd => { hd with state := .ready })
      (by rw [channel]; exact .inr idle)
    rwa [channel] at moved
  · simpa using takeReservation_log taken
  · exact moveHead_commands sized' ..
  · simpa using sized'
  · intro m
    simp [State.active, State.input, inputs]
  · intro stepless
    exact moveHead_stepless _ (by rw [service]; exact stepless)
  · exact ((State.Raises.refl s).takeReservation taken).moveHead ..

/-- Settles O17: the reading ends the warm-up, the head takes its place, and log full is judged. -/
theorem warmUpEndsInReady : Obligations.WarmUpEndsInReady := by
  intro s h code v c sized warming warm conversion kept whole clear clear' calm low high sound cradle stepless free
  obtain ⟨w, warmed, begun⟩ := addConversion_of_warm warm conversion kept whole clear clear' calm
    (code := code.toInt) (by simp [isSaturated, low, high]) sound
  have head (k : HeadId) : w.head k = s.head k := by rw [State.head, warmed.heads]; rfl
  have active (m : Nat) : w.active m = s.active m := by rw [State.active, State.input, warmed.inputs]; rfl
  have places : w.logFree = s.logFree := by rw [State.logFree, warmed.log]; rfl
  have idle : (w.channel h).state = .idle := by
    obtain ⟨_, same⟩ := warmed.channel
    rw [same]
    rfl
  obtain ⟨x, readied, ready⟩ := headChannelIdle_readies (s := w) (h := h) (by rw [head]; exact warming)
    (by rw [State.cradle, active]; exact cradle) (by omega) (by rw [warmed.outputs]; exact sized.outputs) idle
  have quiet : x.service.step = none := readied.stepless (by rw [warmed.service]; exact stepless)
  have left : x.logFree = s.logFree - 1 := by
    rw [← places, State.logFree, readied.log]
    rfl
  have channel : ((s.channel h).warmedUp (averageCode c.settings.exponent (c.gathered.sum + code.toInt))).SameButIdle
      (x.channel h) := warmed.channel.trans readied.channel
  have rest : (x.channel h).Resting := readied.channel.resting (.inr idle)
  obtain ⟨calm', still, staged, records, next⟩ : (signalIfFull x).service.step = none ∧
      (x.channel h).SameButIdle ((signalIfFull x).channel h) ∧
      (∀ k, ((signalIfFull x).head k).staging = (x.head k).staging) ∧
      (signalIfFull x).log.records = x.log.records ∧ (signalIfFull x).log.nextSeq = x.log.nextSeq := by
    unfold signalIfFull
    split
    · exact ⟨logFullSignal_stepless quiet, logFullSignal_sameButIdle rest, logFullSignal_staging x, logFullSignal_records x⟩
    · exact ⟨quiet, .refl _, fun _ => rfl, rfl, rfl⟩
  have work : addConversion h code.toInt s = signalIfFull x := by
    rw [begun, ready, stepChannelIdle_of_stepless calm']
  obtain ⟨t, stepped, settles⟩ := done_settled (addConversion h code.toInt) (s := s) (.inl fun k => by
    rw [work, staged]
    rcases eq_or_ne k h with rfl | ne
    · rw [readied.head, head]
    · rw [(readied.others k ne).1, head])
  rw [work] at settles
  obtain ⟨timer, last⟩ := channel.trans still
  rw [← settles.channel] at last
  refine ⟨t, stepped, ?_, ?_, ?_, ?_, ?_, ?_, ?_, ?_, ?_, ?_, fun two => ?_, fun one k => ?_⟩
  · rw [last]; rfl
  · rw [last]; rfl
  · rw [last]; rfl
  · rw [last]; exact congrArg some (makeReading_zero _ _ _ _ _).1
  · rw [last]; exact congrArg some (makeReading_zero _ _ _ _ _).2
  · rw [last]; rfl
  · rw [last]; rfl
  · rw [last]; rfl
  · rw [settles.log, records, readied.log, warmed.log]
  · rw [settles.log, next, readied.log, warmed.log]
  · rw [signalIfFull_of_free _ (by omega)] at settles
    refine ⟨by rw [settles.head, readied.head, head], fun k ne => ⟨?_, ?_⟩, ?_, ?_⟩
    · rw [settles.head, (readied.others k ne).1, head]
    · rw [settles.channel, (readied.others k ne).2, warmed.others k ne]
    · rw [settles.log, readied.log, warmed.log, places]
    · rw [(readied.commands.settles settles).flap, settles.head, readied.head]
      rfl
  · rw [show signalIfFull x = logFullSignal x from if_pos (by omega)] at settles
    intro waits first ready'
    have started : x.head k = ready' := by
      simp only [ready']
      split
      · next same => rw [same, readied.head, head]
      · next ne => rw [(readied.others k ne).1, head]
    have pending : ready'.closePending = (s.head k).closePending := by
      simp only [ready']
      split <;> rfl
    have line : x.active (intakeShutLine k) = s.active (intakeShutLine k) := (readied.active _).trans (active _)
    have reached : waits → (x.head k).state = .ready := by
      rintro (same | already)
      · rw [same, readied.head]
      · rw [started]
        simp only [ready']
        split
        · rfl
        · exact already
    refine ⟨fun not => ?_, fun wait shut => ?_, fun wait open' => ?_⟩
    · have ne : k ≠ h := fun same => not (.inl same)
      have beside := logFullSignal_of_other (s := x) (k := k) fun is => not (.inr (by
        rwa [(readied.others k ne).1, head] at is))
      exact ⟨by rw [settles.head, beside.head, (readied.others k ne).1, head],
        by rw [settles.channel, beside.channel, (readied.others k ne).2, warmed.others k ne]⟩
    · obtain ⟨closes, -, commands⟩ := logFullSignal_of_ready readied.sized (reached wait)
      obtain ⟨closed, tells⟩ := closes (line.trans shut)
      have final := (settles.head k).trans closed
      refine ⟨final.trans (by rw [started]), ?_, fun room => ?_⟩
      · rw [(commands.settles settles).flap, final]
        rfl
      · have told := tells (by have := readied.raises.branch; rw [warmed.link] at this; omega)
        rw [started, pending] at told
        exact settles.notices .branch _ told
    · obtain ⟨-, keeps, commands⟩ := logFullSignal_of_ready readied.sized (reached wait)
      have final := (settles.head k).trans (keeps (line.trans open'))
      have stays := reached wait
      refine ⟨final.trans (by rw [started, pending]), ?_, ?_⟩
      · rw [(commands.settles settles).flap, final]
        simp [Head.flap, stays]
      · rw [(commands.settles settles).lamp, final]
        simp [Head.lamp]

end Sys2Proof.Machine
end

section
/-! The end of a scan (R19, R39, R45, R47, R48, R49). -/

namespace Sys2Proof.Machine

variable {s t u : State} {h k : HeadId} {n m : Nat}

/-! ### Work that closes heads while their tag windows are open -/

/-- `t` is `s` after work that only closes heads, ends weighings and raises notices: no staging queue has changed, a head in
EXAMINE was there before with its tag window as it is, and no latched cause is lost. -/
structure State.Steady (n : Nat) (s t : State) : Prop where
  staging : ∀ k, (t.head k).staging = (s.head k).staging
  window  : ∀ k, (t.head k).state = .examine → (s.head k).state = .examine ∧ (t.head k).windowDone = (s.head k).windowDone
  active  : ∀ m, t.active m = s.active m
  scanner : t.scanner = s.scanner
  latched : ∀ c, causeSet s.alarm.latched c = true → causeSet t.alarm.latched c = true
  raises  : s.Raises n t

/-- Such work of another head than `k`, or of none: a calibration step on channel `k`, or no step at all, stays. -/
structure State.Aside (k : HeadId) (n : Nat) (s t : State) : Prop extends State.Steady n s t where
  head    : t.head k = s.head k
  channel : t.channel k = s.channel k
  step    : (∀ j, j ≠ k → s.stepOn j = false) → t.service.step = s.service.step ∧ t.link.service = s.link.service

/-- Every tag window is open (R11). -/
def State.WindowsOpen (s : State) : Prop := ∀ k, (s.head k).state = .examine → (s.head k).windowDone = false

theorem State.Steady.windowsOpen (a : s.Steady n t) (open' : s.WindowsOpen) : t.WindowsOpen := by
  intro k examine
  obtain ⟨before, same⟩ := a.window k examine
  rw [same]
  exact open' k before

theorem State.Steady.trans (a : s.Steady n t) (b : t.Steady m u) : s.Steady (n + m) u where
  staging k := (b.staging k).trans (a.staging k)
  window k examine :=
    let ⟨before, same⟩ := b.window k examine
    let ⟨first, same'⟩ := a.window k before
    ⟨first, same.trans same'⟩
  active m := (b.active m).trans (a.active m)
  scanner := b.scanner.trans a.scanner
  latched c set := b.latched c (a.latched c set)
  raises := a.raises.trans b.raises

theorem State.Steady.le (a : s.Steady n t) (le : n ≤ m) : s.Steady m t := { a with raises := a.raises.le le }

/-- Work that leaves the heads. -/
theorem State.Steady.of_heads (heads : t.heads = s.heads) (inputs : t.inputs = s.inputs) (scanner : t.scanner = s.scanner)
    (latched : ∀ c, causeSet s.alarm.latched c = true → causeSet t.alarm.latched c = true) (raises : s.Raises n t) :
    s.Steady n t where
  staging k := by rw [State.head, heads]; rfl
  window k examine := by
    have same : t.head k = s.head k := by rw [State.head, heads]; rfl
    rw [← same]
    exact ⟨examine, rfl⟩
  active m := by rw [State.active, State.input, inputs]; rfl
  scanner := scanner
  latched := latched
  raises := raises

namespace State.Aside

theorem trans (a : s.Aside k n t) (b : t.Aside k m u) : s.Aside k (n + m) u where
  toSteady := a.toSteady.trans b.toSteady
  head := b.head.trans a.head
  channel := b.channel.trans a.channel
  step free := by
    obtain ⟨step, queue⟩ := a.step free
    have free' : ∀ j, j ≠ k → t.stepOn j = false := fun j ne => by rw [State.stepOn, step]; exact free j ne
    exact ⟨(b.step free').1.trans step, (b.step free').2.trans queue⟩

theorem le (a : s.Aside k n t) (le : n ≤ m) : s.Aside k m t := { a with raises := a.raises.le le }

/-- Work that leaves heads, channels and the service controller. -/
theorem of_blocks (heads : t.heads = s.heads) (channels : t.channels = s.channels) (inputs : t.inputs = s.inputs)
    (service : t.service = s.service) (scanner : t.scanner = s.scanner)
    (latched : ∀ c, causeSet s.alarm.latched c = true → causeSet t.alarm.latched c = true)
    (queue : t.link.service = s.link.service) (raises : s.Raises n t) : s.Aside k n t where
  toSteady := .of_heads heads inputs scanner latched raises
  head := by rw [State.head, heads]; rfl
  channel := by rw [State.channel, channels]; rfl
  step _ := ⟨by rw [service], queue⟩

/-- Work on the channel of another head. -/
theorem of_channel (heads : t.heads = s.heads) (channel : t.channel k = s.channel k) (inputs : t.inputs = s.inputs)
    (service : t.service = s.service) (scanner : t.scanner = s.scanner) (alarm : t.alarm = s.alarm) (link : t.link = s.link) :
    s.Aside k 0 t where
  toSteady := .of_heads heads inputs scanner (by rw [alarm]; exact fun _ => id) ((State.Raises.refl s).of_link link)
  head := by rw [State.head, heads]; rfl
  channel := channel
  step _ := ⟨by rw [service], by rw [link]⟩

theorem refl (k : HeadId) (s : State) : s.Aside k 0 s :=
  .of_blocks rfl rfl rfl rfl rfl (fun _ => id) rfl (.refl s)

theorem notify (k : HeadId) (s : State) {m : Notice} (branch : m.port = .branch) : s.Aside k 1 (notify m s) :=
  .of_blocks (by simp) (by simp) (by simp) (by simp) (by simp) (by simp)
    (by have other := notify_port s m .service; rw [if_neg (by rw [branch]; decide)] at other; exact other)
    ((State.Raises.refl s).notify m)

end State.Aside

theorem causeSet_raiseCause (f : AlarmFlags) (c d : AlarmCause) (set : causeSet f c = true) :
    causeSet (raiseCause f d) c = true := by cases d <;> cases c <;> first | exact set | rfl

theorem reportAlarm_keeps_latched (c d : AlarmCause) (set : causeSet s.alarm.latched c = true) :
    causeSet (reportAlarm d s).alarm.latched c = true := by
  have raised := causeSet_raiseCause s.alarm.latched c d set
  simp only [reportAlarm]
  repeat' split
  · exact set
  · simpa using raised
  · simpa using raised
  · exact raised

theorem reportAlarm_aside (k : HeadId) (c : AlarmCause) : s.Aside k 0 (reportAlarm c s) :=
  .of_blocks (by simp) (by simp) (by simp) (by simp) (by simp) (fun d set => reportAlarm_keeps_latched d c set) (by simp)
    ((State.Raises.refl s).reportAlarm c)

/-! ### Close pending -/

/-- A head that closes leaves the service controller and its port (R186). -/
theorem closeHead_service (cause : ClosedCause) :
    (closeHead h cause s).service = s.service ∧ (closeHead h cause s).link.service = s.link.service := by
  have queue : (notify (.headClosed h cause) s).link.service = s.link.service := by
    have other := notify_port s (.headClosed h cause) .service
    rwa [if_neg nofun] at other
  simp [closeHead, moveHead, HeadState.atRest, queue]

theorem receiveClose_service (c : CloseCause) :
    (receiveClose h c s).service = s.service ∧ (receiveClose h c s).link.service = s.link.service := by
  simp only [receiveClose, closeReady]
  repeat' split
  · exact ⟨rfl, rfl⟩
  · simp [closeHead_service]
  · simp
  · simp [closeHead_service]
  · simp

theorem receiveClose_steady (h : HeadId) (c : CloseCause) (s : State) : s.Steady 1 (receiveClose h c s) where
  staging := receiveClose_staging c
  window k examine := by
    rcases eq_or_ne k h with rfl | ne
    · rw [receiveClose_head] at examine ⊢
      split at examine
      · next closed => exact ⟨examine, rfl⟩
      · exact absurd examine nofun
      · next ready =>
        split at examine
        · exact absurd examine nofun
        · exact absurd (ready.symm.trans examine) nofun
      · next closed warming ready => exact ⟨examine, rfl⟩
    · rw [receiveClose_head_of_ne _ _ ne] at examine ⊢
      exact ⟨examine, rfl⟩
  active m := by simp
  scanner := by simp
  latched c := by simp
  raises := (State.Raises.refl s).receiveClose h c

theorem receiveClose_aside (c : CloseCause) (ne : k ≠ h) : s.Aside k 1 (receiveClose h c s) where
  toSteady := receiveClose_steady h c s
  head := receiveClose_head_of_ne _ _ ne
  channel := receiveClose_channel_of_ne c ne
  step _ := ⟨by rw [(receiveClose_service c).1], (receiveClose_service c).2⟩

/-- As far as one head goes, a cause that reaches all heads reaches this one. -/
theorem closeAll_aside (k : HeadId) (c : CloseCause) (s : State) :
    ∃ v, s.Aside k 2 v ∧ (receiveClose k c v).Aside k 2 (closeAll c s) := by
  have three : closeAll c s = receiveClose .c c (receiveClose .b c (receiveClose .a c s)) := rfl
  rw [three]
  cases k with
  | a => exact ⟨s, (State.Aside.refl _ _).le (by omega),
      (receiveClose_aside c (by decide)).trans (receiveClose_aside c (by decide))⟩
  | b => exact ⟨_, (receiveClose_aside c (h := .a) (by decide)).le (by omega),
      (receiveClose_aside c (by decide)).le (by omega)⟩
  | c => exact ⟨_, (receiveClose_aside c (h := .a) (by decide)).trans (receiveClose_aside c (h := .b) (by decide)),
      (State.Aside.refl _ _).le (by omega)⟩

theorem closeAll_steady (c : CloseCause) (s : State) : s.Steady 3 (closeAll c s) :=
  ((receiveClose_steady .a c s).trans (receiveClose_steady .b c _)).trans (receiveClose_steady .c c _)

/-- What close pending has made of head `h`, which it found in `s` with cause `c` (R19, R20, R21). -/
structure State.Received (h : HeadId) (c : CloseCause) (s t : State) : Prop where
  closed  : (s.head h).state = .closed → t.head h = s.head h
  warming : (s.head h).state = .warming → (t.head h).state = .closed ∧ (t.head h).closePending = none ∧
    (s.link.branch.notices.length < 32 →
      Notice.headClosed h (.cause ((s.head h).closePending.getD c)) ∈ t.link.branch.notices) ∧
    ((∃ phase, (s.channel h).state = .warming phase) → s.service.step = none → (t.channel h).state = .off)
  shut    : (s.head h).state = .ready → s.active (intakeShutLine h) = true →
    (t.head h).state = .closed ∧ (t.head h).closePending = none ∧ (t.head h).reservation = false ∧
      (s.link.branch.notices.length < 32 →
        Notice.headClosed h (.cause ((s.head h).closePending.getD c)) ∈ t.link.branch.notices)
  kept    : (s.head h).state ≠ .closed → (s.head h).state ≠ .warming →
    ¬((s.head h).state = .ready ∧ s.active (intakeShutLine h) = true) →
      t.head h = { s.head h with closePending := some ((s.head h).closePending.getD c) } ∧ t.channel h = s.channel h

theorem closeHead_channel_of_warm {phase : WarmPhase} (cause : ClosedCause) (warm : (s.channel h).state = .warming phase)
    (stepless : s.service.step = none) : ((closeHead h cause s).channel h).state = .off := by
  let v := moveHead h (fun hd => { hd with state := .closed, closePending := none }) (notify (.headClosed h cause) s)
  have still : (v.channel h).state = .warming phase := by simpa [v, moveHead, HeadState.atRest] using warm
  have off : v.stepOn h = false := by simp [State.stepOn, v, moveHead, HeadState.atRest, stepless]
  have warms : (v.channel h).isWarming = true := by rw [Channel.isWarming, still]
  have ends : closeHead h cause s = updateChannel h Channel.powerDown v := if_pos ⟨warms, off⟩
  rw [ends, updateChannel_channel]
  rfl

theorem receiveClose_received (h : HeadId) (c : CloseCause) (s : State) : s.Received h c (receiveClose h c s) where
  closed closed := receiveClose_head_of_closed c closed
  warming warming := by
    have made : receiveClose h c s = closeHead h (.cause ((s.head h).closePending.getD c))
        (updateHead h (fun hd => { hd with closePending := some ((s.head h).closePending.getD c) }) s) := by
      simp [receiveClose, warming]
    refine ⟨by rw [receiveClose_head_of_warming c warming], by rw [receiveClose_head_of_warming c warming], fun room => ?_,
      fun ⟨phase, warm⟩ stepless => ?_⟩
    · rw [made]
      exact closeHead_sends _ _ (by simpa using room)
    · rw [made]
      exact closeHead_channel_of_warm _ (by rw [updateHead_channel]; exact warm) (by simpa using stepless)
  shut ready shut := by
    refine ⟨by rw [receiveClose_head_of_shut c ready shut], by rw [receiveClose_head_of_shut c ready shut],
      by rw [receiveClose_head_of_shut c ready shut], fun room => ?_⟩
    rw [receiveClose_of_shut c ready shut]
    exact closeHead_sends _ _ (by simpa using room)
  kept closed warming open' := by
    refine ⟨receiveClose_head_of_kept c closed warming open', ?_⟩
    simp only [receiveClose, if_neg closed, updateHead_head, updateHead_frame]
    split
    · next ready => rw [if_neg fun shut => open' ⟨ready, shut⟩, updateHead_channel]
    · next warm => exact absurd warm warming
    · rw [updateHead_channel]

/-- A head that has received close pending and is left alone is as it has become. -/
theorem State.Received.aside {c : CloseCause} (a : s.Received h c t) (b : t.Aside h n u) : s.Received h c u where
  closed closed := b.head.trans (a.closed closed)
  warming warming := by
    obtain ⟨state, pending, sent, off⟩ := a.warming warming
    rw [b.head, b.channel]
    exact ⟨state, pending, fun room => b.raises.mem (sent room), off⟩
  shut ready shut := by
    obtain ⟨state, pending, given, sent⟩ := a.shut ready shut
    rw [b.head]
    exact ⟨state, pending, given, fun room => b.raises.mem (sent room)⟩
  kept closed warming open' := by
    rw [b.head, b.channel]
    exact a.kept closed warming open'

/-- A second close pending finds nothing left to do: the head is CLOSED, or keeps the flag with its first cause (R19). -/
theorem State.Received.again {c d : CloseCause} (a : s.Received h c t)
    (line : t.active (intakeShutLine h) = s.active (intakeShutLine h)) : s.Received h c (receiveClose h d t) := by
  have over' (closed : (t.head h).state = .closed) : receiveClose h d t = t := receiveClose_of_closed d closed
  constructor
  · intro closed
    rw [over' (by rw [a.closed closed]; exact closed)]
    exact a.closed closed
  · intro warming
    rw [over' (a.warming warming).1]
    exact a.warming warming
  · intro ready shut
    rw [over' (a.shut ready shut).1]
    exact a.shut ready shut
  · intro closed warming open'
    obtain ⟨head, channel⟩ := a.kept closed warming open'
    obtain ⟨head', channel'⟩ := (receiveClose_received h d t).kept (by rw [head]; exact closed) (by rw [head]; exact warming)
      (by rw [head, line]; exact open')
    refine ⟨?_, channel'.trans channel⟩
    rw [head', head]
    rfl

/-! ### The end of a weighing by a reference fault -/

theorem updateHead_steady (k : HeadId) {f : Head → Head} (state : (f (s.head k)).state = (s.head k).state)
    (window : (f (s.head k)).windowDone = (s.head k).windowDone) (staging : (f (s.head k)).staging = (s.head k).staging) :
    s.Steady 0 (updateHead k f s) where
  staging j := by
    rcases eq_or_ne j k with rfl | ne
    · rw [updateHead_head, staging]
    · rw [updateHead_head_of_ne _ _ ne]
  window j examine := by
    rcases eq_or_ne j k with rfl | ne
    · rw [updateHead_head] at examine ⊢
      exact ⟨state.symm.trans examine, window⟩
    · rw [updateHead_head_of_ne _ _ ne] at examine ⊢
      exact ⟨examine, rfl⟩
  active m := by simp
  scanner := by simp
  latched c := by simp
  raises := (State.Raises.refl s).updateHead ..

/-- The end of a weighing on channel `h`, tag windows open: `ended` says that it was the examination's (R39, R40). -/
structure State.Finished (h : HeadId) (cause : UnsettledCause) (s t : State) : Prop where
  steady     : s.Steady 0 t
  aside      : ∀ k, k ≠ h → s.Aside k 0 t
  head       : let ended := (s.head h).state = .examine ∧ ∃ x, (s.channel h).state = .weighing x ∧ x.requester = .head
    ∃ outcome, t.head h = { s.head h with weighing := outcome } ∧
      (ended → outcome = some (.unsettled cause) ∧ (t.channel h).state = .idle) ∧
      (¬ended → outcome = (s.head h).weighing)
  untouched  : (∀ x, (s.channel h).state ≠ .weighing x) → t = s
  refFault   : (t.channel h).refFault = (s.channel h).refFault
  calibrated : ∀ x kind, (s.channel h).state = .weighing x → x.requester = .service →
    s.service.step = some ⟨h, kind, .weighing⟩ → (t.channel h).state = .idle ∧ t.service.step = none ∧
      (s.link.service.notices.length < 8 →
        Notice.calDone h kind.name (.unsettled cause) ∈ t.link.service.notices)

section
variable (h)

theorem abandonWeighing_aside (ne : k ≠ h) : s.Aside k 0 (abandonWeighing h s) :=
  .of_channel (by simp) (abandonWeighing_channel_of_ne s ne) (by simp) (by simp) (by simp) (by simp) (by simp)

theorem abandonWeighing_steady : s.Steady 0 (abandonWeighing h s) :=
  .of_heads (by simp) (by simp) (by simp) (by simp) ((State.Raises.refl s).abandonWeighing h)

theorem abandonWeighing_refFault : ((abandonWeighing h s).channel h).refFault = (s.channel h).refFault := by
  obtain ⟨_, same⟩ := refreshIdle_sameButIdle (s := updateChannel h Channel.returnToIdle s) h
  rw [abandonWeighing, same, updateChannel_channel]
  unfold Channel.returnToIdle
  split <;> rfl

/-- A calibration step that ends without settling changes its channel's idle timer alone (R185, R187). -/
theorem endStep_of_step {st : CalStep} (step : s.service.step = some st) (mine : st.head = h) (cause : UnsettledCause)
    (average : Int) : endStep h (.unsettled cause) average s =
      refreshIdle h (notify (.calDone h st.kind.name (.unsettled cause))
        { s.setChannel h (s.channel h) with service := { s.service with step := none } }) := by
  simp only [endStep, step, if_pos mine]
  rfl

theorem endStep_of_other (other : s.stepOn h = false) (w : WeighOutcome) (average : Int) : endStep h w average s = s := by
  unfold endStep
  split
  · rfl
  · next st step => exact if_neg fun mine => by simp [State.stepOn, step, mine] at other
end

/-- A calibration step's weighing that a reference fault ends (R185). -/
theorem endStep_spec (cause : UnsettledCause) (average : Int) (h : HeadId) (s : State) :
    let t := endStep h (.unsettled cause) average s
    t.heads = s.heads ∧ s.Steady 0 t ∧ (∀ k, k ≠ h → s.Aside k 0 t) ∧ (s.channel h).SameButIdle (t.channel h) ∧
      (∀ kind phase, s.service.step = some ⟨h, kind, phase⟩ → t.service.step = none ∧
        (s.link.service.notices.length < 8 → Notice.calDone h kind.name (.unsettled cause) ∈ t.link.service.notices)) := by
  cases on : s.stepOn h with
  | false =>
    rw [endStep_of_other h on]
    exact ⟨rfl, (State.Aside.refl h s).toSteady, fun k _ => .refl k s, .refl _, fun kind phase step => by
      simp [State.stepOn, step] at on⟩
  | true =>
    obtain ⟨st, step⟩ : ∃ st, s.service.step = some st := by
      cases step : s.service.step with
      | none => simp [State.stepOn, step] at on
      | some st => exact ⟨st, rfl⟩
    have mine := State.head_of_stepOn step on
    rw [endStep_of_step h step mine]
    let v : State := { s.setChannel h (s.channel h) with service := { s.service with step := none } }
    let w := notify (.calDone h st.kind.name (.unsettled cause)) v
    have begun : s.Raises 0 v := (State.Raises.refl s).of_link rfl
    have raises : s.Raises 0 (refreshIdle h w) := (begun.calDone h st.kind.name (.unsettled cause)).refreshIdle h
    have channel : w.channel h = s.channel h := by
      simp only [w, notify_channel]
      exact State.setChannel_channel s h _
    have steady : s.Steady 0 (refreshIdle h w) := .of_heads (by simp [w, v]) (by simp [w, v]) (by simp [w, v]) (by simp [w, v]) raises
    refine ⟨by simp, steady, fun k ne => ⟨steady, ?_, ?_, fun free => ?_⟩, ?_, ?_⟩
    · simp [State.head]
    · rw [refreshIdle_channel_of_ne _ ne, notify_channel]
      exact State.setChannel_channel_of_ne _ _ ne
    · exact absurd (free h ne.symm) (by simp [on])
    · have same := refreshIdle_sameButIdle (s := w) h
      rwa [channel] at same
    · intro kind phase is
      obtain rfl : st = ⟨h, kind, phase⟩ := Option.some.inj (step.symm.trans is)
      refine ⟨by simp, fun room => ?_⟩
      have sent : w.link.service = _ := (notify_port v (.calDone h kind.name (.unsettled cause)) .service).trans (if_pos rfl)
      have found : w.link.service.notices = s.link.service.notices ++ [.calDone h kind.name (.unsettled cause)] := by
        rw [sent]
        exact congrArg Port.notices (if_pos (c := s.link.service.notices.length < 8) room)
      have link : (refreshIdle h w).link = w.link := by simp
      show _ ∈ (refreshIdle h w).link.service.notices
      rw [link, found]
      simp

theorem finishWeighing_finished (h : HeadId) (cause : UnsettledCause) (average : Int)
    (open' : (s.head h).state = .examine → (s.head h).windowDone = false) :
    s.Finished h cause (finishWeighing h (.unsettled cause) average s) := by
  by_cases weighs : ∃ x, (s.channel h).state = .weighing x
  · obtain ⟨x, weighing⟩ := weighs
    have idle := abandonWeighing_idle (.inl ⟨x, weighing⟩)
    have head : (abandonWeighing h s).head h = s.head h := by simp
    cases mine : x.requester with
    | service =>
      have ends : finishWeighing h (.unsettled cause) average s =
          endStep h (.unsettled cause) average (abandonWeighing h s) := by simp only [finishWeighing, weighing, mine]
      obtain ⟨heads, steady, aside, ⟨_, channel⟩, calibrated⟩ := endStep_spec cause average h (abandonWeighing h s)
      rw [ends]
      refine ⟨(abandonWeighing_steady h).trans steady, fun k ne => (abandonWeighing_aside h ne).trans (aside k ne),
        ⟨(s.head h).weighing, ?_, fun ⟨_, y, other, his⟩ => ?_, fun _ => rfl⟩, fun none => absurd weighing (none x), ?_,
        fun y kind _ _ step => ⟨?_, ?_⟩⟩
      · rw [State.head, heads, ← State.head, head]
      · obtain rfl : x = y := ChannelState.weighing.inj (weighing.symm.trans other)
        exact absurd (mine.symm.trans his) nofun
      · rw [channel]; exact abandonWeighing_refFault h
      · rw [channel]; exact idle
      · simpa using calibrated kind .weighing (by simpa using step)
    | head =>
      have ends : finishWeighing h (.unsettled cause) average s = headOutcome h (.unsettled cause) (abandonWeighing h s) := by
        simp only [finishWeighing, weighing, mine]
      have notService : ∀ y, (s.channel h).state = .weighing y → y.requester ≠ .service := by
        intro y other his
        obtain rfl : x = y := ChannelState.weighing.inj (weighing.symm.trans other)
        exact absurd (mine.symm.trans his) nofun
      rw [ends]
      by_cases examine : (s.head h).state = .examine
      · let f : Head → Head := fun hd => { hd with weighing := some (.unsettled cause) }
        have holds : headOutcome h (.unsettled cause) (abandonWeighing h s) = updateHead h f (abandonWeighing h s) := by
          simp only [headOutcome, head, examine, if_true, updateHead_head, open' examine, Bool.false_eq_true, if_false]
          rfl
        rw [holds]
        have updated : (abandonWeighing h s).Steady 0 (updateHead h f (abandonWeighing h s)) :=
          updateHead_steady h rfl rfl rfl
        refine ⟨(abandonWeighing_steady h).trans updated, fun k ne => ?_, ⟨_, by rw [updateHead_head, head],
          fun _ => ⟨rfl, by rw [updateHead_channel]; exact idle⟩, fun not => absurd ⟨examine, x, weighing, mine⟩ not⟩,
          fun none => absurd weighing (none x), by rw [updateHead_channel]; exact abandonWeighing_refFault h,
          fun y kind other his _ => absurd his (notService y other)⟩
        exact (abandonWeighing_aside h ne).trans ⟨updated, updateHead_head_of_ne _ _ ne, updateHead_channel .., fun _ => by simp⟩
      · have holds : headOutcome h (.unsettled cause) (abandonWeighing h s) = abandonWeighing h s := by
          simp only [headOutcome, head, if_neg examine]
        rw [holds]
        exact ⟨abandonWeighing_steady h, fun k ne => abandonWeighing_aside h ne, ⟨_, head.trans rfl,
          fun ended => absurd ended.1 examine, fun _ => rfl⟩, fun none => absurd weighing (none x),
          abandonWeighing_refFault h, fun y kind other his _ => absurd his (notService y other)⟩
  · have none : ∀ x, (s.channel h).state ≠ .weighing x := fun x weighing => weighs ⟨x, weighing⟩
    have same : finishWeighing h (.unsettled cause) average s = s := by
      unfold finishWeighing
      split
      · exact absurd ‹_› (none _)
      · rfl
    rw [same]
    exact ⟨(State.Aside.refl h s).toSteady, fun k _ => .refl k s, ⟨_, rfl, fun ⟨_, x, weighing, _⟩ => absurd weighing (none x),
      fun _ => rfl⟩, fun _ => rfl, rfl, fun x _ weighing => absurd weighing (none x)⟩

/-! ### A reference judged -/

section
variable {x : Int}

theorem judgeReference_of_inside (inside : ScanSettings.outside s.scanner.settings x = false) :
    judgeReference h x s = setRefFault h false s := if_neg (by rw [inside]; decide)

theorem judgeReference_of_standing (outside : ScanSettings.outside s.scanner.settings x = true)
    (standing : (s.channel h).refFault = true) : judgeReference h x s = s := by simp [judgeReference, outside, standing]

/-- The part in which a reference fault of channel `h` has ended its weighing. -/
def State.referenceLost (s : State) (h : HeadId) : State :=
  finishWeighing h (.unsettled .refFault) 0 (setRefFault h true s)

theorem judgeReference_of_failed (outside : ScanSettings.outside s.scanner.settings x = true)
    (sound : (s.channel h).refFault = false) : judgeReference h x s =
      reportAlarm .refFault (notify (.refFault h x) (receiveClose h .refFault (s.referenceLost h))) := by
  simp [judgeReference, outside, sound, State.referenceLost]

theorem setRefFault_aside (v : Bool) (ne : k ≠ h) : s.Aside k 0 (setRefFault h v s) :=
  .of_channel (by simp [setRefFault]) (updateChannel_channel_of_ne _ _ ne) (by simp [setRefFault]) (by simp [setRefFault])
    (by simp [setRefFault]) (by simp [setRefFault]) (by simp [setRefFault])

theorem setRefFault_steady (h : HeadId) (v : Bool) : s.Steady 0 (setRefFault h v s) :=
  .of_heads (by simp [setRefFault]) (by simp [setRefFault]) (by simp [setRefFault]) (by simp [setRefFault])
    ((State.Raises.refl s).updateChannel ..)

theorem referenceLost_finished (open' : s.WindowsOpen) (h : HeadId) :
    (setRefFault h true s).Finished h .refFault (s.referenceLost h) :=
  finishWeighing_finished h .refFault 0 ((setRefFault_steady h true).windowsOpen open' h)

theorem receiveClose_refFault (c : CloseCause) :
    ((receiveClose h c s).channel h).refFault = (s.channel h).refFault := by
  have close {cause : ClosedCause} {v : State} : ((closeHead h cause v).channel h).refFault = (v.channel h).refFault := by
    have moved : ((moveHead h (fun hd => { hd with state := .closed, closePending := none })
        (notify (.headClosed h cause) v)).channel h).refFault = (v.channel h).refFault := by
      obtain ⟨_, same⟩ := refreshIdle_sameButIdle
        (s := updateHead h (fun hd => { hd with state := .closed, closePending := none }) (notify (.headClosed h cause) v)) h
      simp only [moveHead, updateHead_head, HeadState.atRest, Bool.not_true, Bool.and_false, Bool.false_eq_true, if_false]
      rw [same, updateHead_channel, notify_channel]
    simp only [closeHead, endUnwantedWarmUp]
    split
    · rw [updateChannel_channel]; exact moved
    · exact moved
  simp only [receiveClose, closeReady]
  repeat' split
  · rfl
  · rw [close, giveBack_channel, updateHead_channel]
  · rw [updateHead_channel]
  · rw [close, updateHead_channel]
  · rw [updateHead_channel]

theorem receiveClose_idle (c : CloseCause) (idle : (s.channel h).state = .idle) :
    ((receiveClose h c s).channel h).state = .idle := by
  obtain ⟨_, same⟩ := receiveClose_sameButIdle (h := h) c (.inr idle)
  rw [same]
  exact idle

variable (open' : s.WindowsOpen)
include open'

theorem judgeReference_steady (h : HeadId) (x : Int) : s.Steady 2 (judgeReference h x s) := by
  cases outside : ScanSettings.outside s.scanner.settings x with
  | false => rw [judgeReference_of_inside outside]; exact (setRefFault_steady h false).le (by omega)
  | true =>
    cases sound : (s.channel h).refFault with
    | true => rw [judgeReference_of_standing outside sound]; exact ((State.Aside.refl h s).le (by omega)).toSteady
    | false =>
      rw [judgeReference_of_failed outside sound]
      exact ((setRefFault_steady h true).trans (referenceLost_finished open' h).steady).trans
        ((receiveClose_steady h .refFault _).trans
          ((State.Aside.notify h _ rfl).toSteady.trans (reportAlarm_aside h .refFault).toSteady))

theorem judgeReference_aside (x : Int) (ne : k ≠ h) : s.Aside k 2 (judgeReference h x s) := by
  cases outside : ScanSettings.outside s.scanner.settings x with
  | false => rw [judgeReference_of_inside outside]; exact (setRefFault_aside false ne).le (by omega)
  | true =>
    cases sound : (s.channel h).refFault with
    | true => rw [judgeReference_of_standing outside sound]; exact (State.Aside.refl k s).le (by omega)
    | false =>
      rw [judgeReference_of_failed outside sound]
      exact ((setRefFault_aside true ne).trans ((referenceLost_finished open' h).aside k ne)).trans
        ((receiveClose_aside .refFault ne).trans ((State.Aside.notify k _ rfl).trans (reportAlarm_aside k .refFault)))
end

/-- Close pending as head `h` of `s` has taken it in `t`, its weighing ended before by the cause or not (R19, R39). -/
structure State.Told (h : HeadId) (n : Nat) (c : CloseCause) (outcome : Option WeighOutcome) (s t : State) : Prop where
  found : ∃ z : State, z.Received h c t ∧ z.head h = { s.head h with weighing := outcome } ∧
    z.active (intakeShutLine h) = s.active (intakeShutLine h) ∧
    z.link.branch.notices.length ≤ s.link.branch.notices.length + n ∧
    (∀ phase, (s.channel h).state = .warming phase → s.service.step = none →
      (z.channel h).state = .warming phase ∧ z.service.step = none)
  line  : t.active (intakeShutLine h) = s.active (intakeShutLine h)

/-- Whether the weighing in progress on channel `h` is the examination's. -/
def State.Examines (s : State) (h : HeadId) : Prop :=
  (s.head h).state = .examine ∧ ∃ w, (s.channel h).state = .weighing w ∧ w.requester = .head

/-- What a newly failed reference has done to its own head and channel (R19, R39, R47, R48). -/
structure State.Referred (h : HeadId) (x : Int) (s t : State) : Prop where
  told       : ∃ outcome, s.Told h 0 .refFault outcome t ∧
    (s.Examines h → outcome = some (.unsettled .refFault) ∧ (t.channel h).state = .idle) ∧
    (¬s.Examines h → outcome = (s.head h).weighing)
  fault      : (t.channel h).refFault = true
  latched    : causeSet t.alarm.latched .refFault = true
  sent       : s.link.branch.notices.length ≤ 24 → Notice.refFault h x ∈ t.link.branch.notices
  calibrated : ∀ w kind, (s.channel h).state = .weighing w → w.requester = .service →
    s.service.step = some ⟨h, kind, .weighing⟩ → (t.channel h).state = .idle ∧ t.service.step = none ∧
      (s.link.service.notices.length < 8 →
        Notice.calDone h kind.name (.unsettled .refFault) ∈ t.link.service.notices)

theorem judgeReference_referred {x : Int} (open' : s.WindowsOpen) (outside : ScanSettings.outside s.scanner.settings x = true)
    (sound : (s.channel h).refFault = false) : s.Referred h x (judgeReference h x s) := by
  rw [judgeReference_of_failed outside sound]
  let u := setRefFault h true s
  let z := s.referenceLost h
  let v := receiveClose h .refFault z
  have began : s.Steady 0 u := setRefFault_steady h true
  have head : u.head h = s.head h := by simp [u, setRefFault]
  have channel : u.channel h = { s.channel h with refFault := true } := updateChannel_channel ..
  have step : u.service = s.service := by simp [u, setRefFault]
  have finished : u.Finished h .refFault z := referenceLost_finished open' h
  have tail : v.Aside h 1 (reportAlarm .refFault (notify (.refFault h x) v)) :=
    (State.Aside.notify h v rfl).trans (reportAlarm_aside h .refFault)
  have lost : s.Steady 0 z := began.trans finished.steady
  have closed : s.Steady 1 v := lost.trans (receiveClose_steady h .refFault z)
  have state {p : ChannelState} : (s.channel h).state = p → (u.channel h).state = p := fun is => by rw [channel]; exact is
  obtain ⟨outcome, last, ends, not⟩ := finished.head
  rw [head] at last not ends
  refine ⟨⟨outcome, ⟨⟨z, (receiveClose_received h .refFault z).aside tail, last, lost.active _, lost.raises.branch,
    fun phase warm stepless => ?_⟩, (closed.trans tail.toSteady).active _⟩, fun ⟨examine, w, weighing, mine⟩ => ?_,
    fun not' => not fun ⟨examine, w, weighing, mine⟩ => not' ⟨examine, w, ?_, mine⟩⟩, ?_, reportAlarm_latched .., fun room => ?_,
    fun w kind weighing mine on => ?_⟩
  · have same : z = u := finished.untouched fun y weighing => absurd ((state warm).symm.trans weighing) nofun
    rw [same, step]
    exact ⟨state warm, stepless⟩
  · obtain ⟨is, idle⟩ := ends ⟨examine, w, state weighing, mine⟩
    exact ⟨is, by rw [tail.channel]; exact receiveClose_idle .refFault idle⟩
  · rw [channel] at weighing
    exact weighing
  · rw [tail.channel, receiveClose_refFault, finished.refFault, channel]
  · refine (reportAlarm_aside h .refFault).raises.mem ((State.Raises.refl v).mem_notify rfl ?_)
    have := closed.raises.branch
    omega
  · obtain ⟨idle, stops, tells⟩ := finished.calibrated w kind (state weighing) mine (by rw [step]; exact on)
    refine ⟨by rw [tail.channel]; exact receiveClose_idle .refFault idle, ?_, fun room => ?_⟩
    · simp only [reportAlarm_frame, notify_frame, (receiveClose_service (h := h) .refFault).1]
      exact stops
    · have first : Notice.calDone h kind.name (.unsettled .refFault) ∈ v.link.service.notices := by
        simp only [v, (receiveClose_service (h := h) .refFault).2]
        exact tells (by simpa [u, setRefFault] using room)
      exact tail.raises.kept .service _ first

/-! ### The temperature judged -/

theorem judgeTemperature_of_standing {x : Int} (standing : s.scanner.tempHigh = true) :
    judgeTemperature x s = { s with scanner := { s.scanner with
      tempHigh := decide (s.scanner.settings.tempLimit - 20 ≤ x) } } := by
  simp only [judgeTemperature, standing, if_true]
  split
  · next low => rw [decide_eq_false (Int.not_le.mpr low)]
  · next high => rw [decide_eq_true (Int.not_lt.mp high), ← standing]

theorem judgeTemperature_of_cool {x : Int} (cool : s.scanner.tempHigh = false) (below : ¬s.scanner.settings.tempLimit < x) :
    judgeTemperature x s = s := by simp [judgeTemperature, cool, below]

/-- The part in which the temperature flag is set, before the heads are told. -/
def State.heated (s : State) : State := { s with scanner := { s.scanner with tempHigh := true } }

theorem judgeTemperature_of_hot {x : Int} (cool : s.scanner.tempHigh = false) (above : s.scanner.settings.tempLimit < x) :
    judgeTemperature x s = reportAlarm .tempHigh (notify (.tempHigh x) (closeAll .tempHigh s.heated)) := by
  simp [judgeTemperature, cool, above, State.heated]

/-! ### The scan as one head sees it -/

/-- Close pending told before, and found again after other work, perhaps with another cause (R19). -/
theorem State.Told.again {c d : CloseCause} {outcome : Option WeighOutcome} (told : s.Told h n c outcome t)
    (aside : t.Aside h m u) : s.Told h n c outcome (receiveClose h d u) := by
  obtain ⟨z, received, head, line, raises, warm⟩ := told.found
  have same : u.active (intakeShutLine h) = s.active (intakeShutLine h) := (aside.active _).trans told.line
  exact ⟨⟨z, (received.aside aside).again (same.trans line.symm), head, line, raises, warm⟩, by simpa using same⟩

theorem State.Told.aside {c : CloseCause} {outcome : Option WeighOutcome} (told : s.Told h n c outcome t)
    (aside : t.Aside h m u) : s.Told h n c outcome u := by
  obtain ⟨z, received, head, line, raises, warm⟩ := told.found
  exact ⟨⟨z, received.aside aside, head, line, raises, warm⟩, (aside.active _).trans told.line⟩

/-- `t` is `s` to head `h`, but that a reference fault of its channel may have gone. -/
structure State.Apart (h : HeadId) (n : Nat) (s t : State) : Prop where
  head   : t.head h = s.head h
  state  : (t.channel h).state = (s.channel h).state
  active : ∀ m, t.active m = s.active m
  step   : s.service.step = none → t.service.step = none
  raises : s.Raises n t

theorem State.Aside.apart (a : s.Aside h n t) : s.Apart h n t :=
  ⟨a.head, by rw [a.channel], a.active, fun none => (a.step fun j _ => by simp [State.stepOn, none]).1.trans none, a.raises⟩

theorem State.Apart.trans (a : s.Apart h n t) (b : t.Apart h m u) : s.Apart h (n + m) u :=
  ⟨b.head.trans a.head, b.state.trans a.state, fun m => (b.active m).trans (a.active m), fun none => b.step (a.step none),
    a.raises.trans b.raises⟩

/-- Close pending told after other work. -/
theorem State.Told.after {c : CloseCause} {outcome : Option WeighOutcome} (before : s.Apart h m t)
    (told : t.Told h n c outcome u) : s.Told h (m + n) c outcome u := by
  obtain ⟨z, received, head, line, raises, warm⟩ := told.found
  have room := before.raises.branch
  exact ⟨⟨z, received, by rw [head, before.head], line.trans (before.active _), by omega, fun phase warming stepless =>
    warm phase (before.state.trans warming) (before.step stepless)⟩, told.line.trans (before.active _)⟩

/-- Close pending reaches a head as it stands. -/
theorem receiveClose_told (h : HeadId) (c : CloseCause) (s : State) :
    s.Told h 0 c (s.head h).weighing (receiveClose h c s) :=
  ⟨⟨s, receiveClose_received h c s, rfl, rfl, Nat.le_refl _, fun _ warm stepless => ⟨warm, stepless⟩⟩, by simp⟩

/-- The clauses of close pending at the end of the step (R19, R20, R21). -/
theorem State.Told.clauses {c : CloseCause} {outcome : Option WeighOutcome} (told : s.Told h n c outcome u) (few : n ≤ 11)
    (settles : u.Settles t) (closed : (s.head h).state = .closed → outcome = (s.head h).weighing) :
    let first : CloseCause := (s.head h).closePending.getD c
    let sent := s.link.branch.notices.length ≤ 20 → Notice.headClosed h (.cause first) ∈ t.link.branch.notices
    ((s.head h).state = .closed → t.head h = s.head h) ∧
      ((s.head h).state = .warming → (t.head h).state = .closed ∧ (t.head h).closePending = none ∧ sent ∧
        ((∃ phase, (s.channel h).state = .warming phase) → s.service.step = none → (t.channel h).state = .off)) ∧
      ((s.head h).state = .ready → s.active (intakeShutLine h) = true →
        (t.head h).state = .closed ∧ (t.head h).closePending = none ∧ (t.head h).reservation = false ∧ sent) ∧
      ((s.head h).state ≠ .closed → (s.head h).state ≠ .warming →
        ¬((s.head h).state = .ready ∧ s.active (intakeShutLine h) = true) →
          t.head h = { s.head h with closePending := some first, weighing := outcome }) := by
  obtain ⟨z, received, head, line, raises, warm⟩ := told.found
  rw [settles.head, settles.channel]
  refine ⟨fun is => ?_, fun is => ?_, fun is shut => ?_, fun no no' open' => ?_⟩
  · rw [received.closed (by rw [head]; exact is), head, closed is]
  · obtain ⟨state, pending, sent, off⟩ := received.warming (by rw [head]; exact is)
    rw [head] at sent
    refine ⟨state, pending, fun room => settles.notices .branch _ (sent (by omega)), fun ⟨phase, warming⟩ stepless => ?_⟩
    exact off ⟨phase, (warm phase warming stepless).1⟩ (warm phase warming stepless).2
  · obtain ⟨state, pending, given, sent⟩ := received.shut (by rw [head]; exact is) (line.trans shut)
    rw [head] at sent
    exact ⟨state, pending, given, fun room => settles.notices .branch _ (sent (by omega))⟩
  · rw [(received.kept (by rw [head]; exact no) (by rw [head]; exact no') (by rw [head, line]; exact open')).1, head]

/-- The three references judged in their order. -/
def State.referred (s : State) (a b c : Int) : State := judgeReference .c c (judgeReference .b b (judgeReference .a a s))

/-- As far as one head goes, the references judged are its own, after and before other work. -/
theorem referred_aside (open' : s.WindowsOpen) (x : HeadId → Int) (h : HeadId) :
    ∃ p, s.Aside h 4 p ∧ p.WindowsOpen ∧ (judgeReference h (x h) p).Aside h 4 (s.referred (x .a) (x .b) (x .c)) := by
  have open1 := (judgeReference_steady open' .a (x .a)).windowsOpen open'
  have open2 := (judgeReference_steady open1 .b (x .b)).windowsOpen open1
  cases h with
  | a => exact ⟨s, (State.Aside.refl _ _).le (by omega), open',
      (judgeReference_aside open1 (x .b) (by decide)).trans (judgeReference_aside open2 (x .c) (by decide))⟩
  | b => exact ⟨_, (judgeReference_aside open' (x .a) (h := .a) (by decide)).le (by omega), open1,
      (judgeReference_aside open2 (x .c) (by decide)).le (by omega)⟩
  | c => exact ⟨_, (judgeReference_aside open' (x .a) (h := .a) (by decide)).trans
      (judgeReference_aside open1 (x .b) (h := .b) (by decide)), open2, (State.Aside.refl _ _).le (by omega)⟩

theorem referred_steady (open' : s.WindowsOpen) (a b c : Int) : s.Steady 6 (s.referred a b c) := by
  have open1 := (judgeReference_steady open' .a a).windowsOpen open'
  have open2 := (judgeReference_steady open1 .b b).windowsOpen open1
  exact ((judgeReference_steady open' .a a).trans (judgeReference_steady open1 .b b)).trans
    (judgeReference_steady open2 .c c)

/-! ### The temperature as one head sees it -/

/-- Whether the temperature sets TEMP_HIGH (R49). -/
def State.Hot (s : State) (x : Int) : Prop := s.scanner.tempHigh = false ∧ s.scanner.settings.tempLimit < x

/-- Short of a new TEMP_HIGH the temperature changes its flag alone (R49). -/
theorem judgeTemperature_of_not_hot {x : Int} (not : ¬s.Hot x) : judgeTemperature x s =
    { s with scanner := { s.scanner with
      tempHigh := s.scanner.tempHigh && decide (s.scanner.settings.tempLimit - 20 ≤ x) } } := by
  cases high : s.scanner.tempHigh with
  | true =>
    rw [judgeTemperature_of_standing high, Bool.true_and]
  | false =>
    rw [judgeTemperature_of_cool high fun above => not ⟨high, above⟩, Bool.false_and, ← high]

theorem judgeTemperature_scanner (x : Int) (s : State) : (judgeTemperature x s).scanner = { s.scanner with
      tempHigh := (judgeTemperature x s).scanner.tempHigh } ∧
    ((judgeTemperature x s).scanner.tempHigh = true ↔
      s.Hot x ∨ (s.scanner.tempHigh = true ∧ s.scanner.settings.tempLimit - 20 ≤ x)) := by
  by_cases hot : s.Hot x
  · rw [judgeTemperature_of_hot hot.1 hot.2]
    simp [State.heated, hot]
  · rw [judgeTemperature_of_not_hot hot]
    refine ⟨rfl, ?_⟩
    simp only [hot, false_or, Bool.and_eq_true, decide_eq_true_eq]

theorem State.Told.of_heated {c : CloseCause} {outcome : Option WeighOutcome} (told : s.heated.Told h n c outcome t) :
    s.Told h n c outcome t := ⟨told.found, told.line⟩

theorem State.Told.heated {c : CloseCause} {outcome : Option WeighOutcome} (told : s.Told h n c outcome t) :
    s.Told h n c outcome t.heated :=
  let ⟨z, received, rest⟩ := told.found
  ⟨⟨z, { received with }, rest⟩, told.line⟩

/-- A new TEMP_HIGH gives head `h` close pending, after and before other work (R19, R49). -/
theorem judgeTemperature_aside {x : Int} (hot : s.Hot x) (h : HeadId) :
    ∃ v, s.heated.Aside h 2 v ∧ (receiveClose h .tempHigh v).Aside h 3 (judgeTemperature x s) := by
  obtain ⟨v, before, after⟩ := closeAll_aside h .tempHigh s.heated
  rw [judgeTemperature_of_hot hot.1 hot.2]
  exact ⟨v, before, after.trans ((State.Aside.notify h _ rfl).trans (reportAlarm_aside h .tempHigh))⟩

theorem judgeTemperature_steady {x : Int} (hot : s.Hot x) : s.heated.Steady 4 (judgeTemperature x s) := by
  rw [judgeTemperature_of_hot hot.1 hot.2]
  exact (closeAll_steady .tempHigh s.heated).trans ((State.Aside.notify .a _ rfl).trans (reportAlarm_aside .a .tempHigh)).toSteady

theorem judgeTemperature_sends {x : Int} (hot : s.Hot x) :
    causeSet (judgeTemperature x s).alarm.latched .tempHigh = true ∧
      (s.link.branch.notices.length < 29 → Notice.tempHigh x ∈ (judgeTemperature x s).link.branch.notices) := by
  rw [judgeTemperature_of_hot hot.1 hot.2]
  refine ⟨reportAlarm_latched .., fun room => (reportAlarm_aside .a .tempHigh).raises.mem ?_⟩
  refine (State.Raises.refl _).mem_notify rfl ?_
  have := (closeAll_steady .tempHigh s.heated).raises.branch
  have same : s.heated.link = s.link := rfl
  rw [same] at this
  omega

theorem judgeTemperature_staging (x : Int) (s : State) (k : HeadId) :
    ((judgeTemperature x s).head k).staging = (s.head k).staging := by
  by_cases hot : s.Hot x
  · exact (judgeTemperature_steady hot).staging k
  · rw [judgeTemperature_of_not_hot hot]
    rfl

/-- The work of a scan's end, with nothing between its parts that fills a staging queue (R45, R137). -/
theorem endScan_eq (open' : s.WindowsOpen) (r : AuxReadings) :
    let w : State := { s with scanner := { s.scanner with state := .idle, readings := some r } }
    endScan r s = settleDrain w (judgeTemperature r.temp (w.referred r.refA r.refB r.refC)) := by
  intro w
  have open0 : w.WindowsOpen := open'
  have open1 := (judgeReference_steady open0 .a r.refA).windowsOpen open0
  have open2 := (judgeReference_steady open1 .b r.refB).windowsOpen open1
  simp only [endScan, settledInTurn, List.foldl_cons, List.foldl_nil]
  rw [withArbitration_of_staging _ (judgeReference .a r.refA) (judgeReference_steady open0 .a r.refA).staging,
    withArbitration_of_staging _ (judgeReference .b r.refB) (judgeReference_steady open1 .b r.refB).staging,
    withArbitration_of_staging _ (judgeReference .c r.refC) (judgeReference_steady open2 .c r.refC).staging,
    withArbitration_of_staging _ (judgeTemperature r.temp) (judgeTemperature_staging _ _)]
  rfl

/-- The fourth conversion ends the scan (R45). -/
theorem auxConversion_of_fourth {a b c v : Int} {settle : Nat} (scanning : s.scanner.state = .scanning [a, b, c] settle true)
    (low : -400 ≤ v) (high : v ≤ 1250) : auxConversion v s = endScan ⟨a, b, c, v⟩ s := by
  have value : auxValue 3 v = v := by simp [auxValue, clampInt]; omega
  simp [auxConversion, scanning, value]

/-! ### The end of a scan -/

/-- The part whose scan has ended, before its readings are judged. -/
def State.scanned (s : State) (r : AuxReadings) : State :=
  { s with scanner := { s.scanner with state := .idle, readings := some r } }

/-- Whether the reference of channel `h` newly fails (R47). -/
def State.Fails (s : State) (h : HeadId) (x : Int) : Prop :=
  (s.channel h).refFault = false ∧ (x < s.scanner.settings.refLow ∨ s.scanner.settings.refHigh < x)

theorem outside_iff (v : ScanSettings) (x : Int) : ScanSettings.outside v x = true ↔ x < v.refLow ∨ v.refHigh < x := by
  simp [ScanSettings.outside]

/-- A reference that does not newly fail leaves its head, and sets its channel's fault as it is (R47). -/
theorem judgeReference_of_not_failed {x : Int} (not : ¬s.Fails h x) : s.Apart h 0 (judgeReference h x s) ∧
    ((judgeReference h x s).channel h).refFault = ScanSettings.outside s.scanner.settings x := by
  cases outside : ScanSettings.outside s.scanner.settings x with
  | false =>
    rw [judgeReference_of_inside outside]
    refine ⟨⟨by simp [setRefFault], by simp [setRefFault], by simp [setRefFault], by simp [setRefFault],
      (setRefFault_steady h false).raises⟩, by simp [setRefFault]⟩
  | true =>
    have standing : (s.channel h).refFault = true := by
      cases sound : (s.channel h).refFault with
      | true => rfl
      | false => exact absurd ⟨sound, (outside_iff _ _).1 outside⟩ not
    rw [judgeReference_of_standing outside standing]
    exact ⟨(State.Aside.refl h s).apart, standing⟩

/-- What the judgement of the references has done as head `h` sees it. -/
theorem referred_spec (open' : s.WindowsOpen) (x : HeadId → Int) (h : HeadId) :
    let w := s.referred (x .a) (x .b) (x .c)
    ((w.channel h).refFault = true ↔ x h < s.scanner.settings.refLow ∨ s.scanner.settings.refHigh < x h) ∧
      (¬s.Fails h (x h) → s.Apart h 8 w) ∧
      (s.Fails h (x h) → (∃ outcome, s.Told h 4 .refFault outcome w ∧
          (s.Examines h → outcome = some (.unsettled .refFault) ∧ (w.channel h).state = .idle) ∧
          (¬s.Examines h → outcome = (s.head h).weighing)) ∧
        causeSet w.alarm.latched .refFault = true ∧
        (s.link.branch.notices.length ≤ 20 → Notice.refFault h (x h) ∈ w.link.branch.notices) ∧
        (∀ y kind, (s.channel h).state = .weighing y → y.requester = .service →
          s.service.step = some ⟨h, kind, .weighing⟩ → (w.channel h).state = .idle ∧ w.service.step = none ∧
            (s.link.service.notices.length < 8 →
              Notice.calDone h kind.name (.unsettled .refFault) ∈ w.link.service.notices))) := by
  intro w
  obtain ⟨p, before, openp, after⟩ := referred_aside open' x h
  have settings : p.scanner = s.scanner := before.scanner
  have same : p.Fails h (x h) ↔ s.Fails h (x h) := by simp only [State.Fails, before.channel, settings]
  have fault : ((judgeReference h (x h) p).channel h).refFault = ScanSettings.outside p.scanner.settings (x h) := by
    by_cases fails : p.Fails h (x h)
    · have outside := (outside_iff p.scanner.settings (x h)).2 fails.2
      rw [(judgeReference_referred openp outside fails.1).fault, outside]
    · exact (judgeReference_of_not_failed fails).2
  refine ⟨?_, fun not => ?_, fun fails => ?_⟩
  · rw [after.channel, fault, outside_iff, settings]
  · exact (before.apart.trans (judgeReference_of_not_failed fun fails => not (same.1 fails)).1).trans after.apart
  · have failed := same.2 fails
    obtain ⟨⟨outcome, told, ends, not⟩, -, latched, sent, calibrated⟩ :=
      judgeReference_referred openp ((outside_iff p.scanner.settings (x h)).2 failed.2) failed.1
    have examines : p.Examines h ↔ s.Examines h := by simp only [State.Examines, before.head, before.channel]
    refine ⟨⟨outcome, told.aside after |>.after before.apart, fun is => ?_, fun no => ?_⟩, after.latched _ latched, fun room => ?_,
      fun y kind weighing mine on => ?_⟩
    · rw [after.channel]
      exact ends (examines.2 is)
    · rw [not fun is => no (examines.1 is), before.head]
    · have := before.raises.branch
      exact after.raises.mem (sent (by omega))
    · obtain ⟨step, queue⟩ := before.step fun j ne => by simp [State.stepOn, on, ne.symm]
      obtain ⟨idle, stops, tells⟩ := calibrated y kind (by rw [before.channel]; exact weighing) mine (step.trans on)
      refine ⟨by rw [after.channel]; exact idle, ?_, fun room => ?_⟩
      · exact (after.step fun j _ => by simp [State.stepOn, stops]).1.trans stops
      · exact after.raises.kept .service _ (tells (by rw [queue]; exact room))

/-- The temperature leaves a channel's reference fault, an IDLE channel and the absence of a step (R49). -/
theorem judgeTemperature_keeps (x : Int) (s : State) (h : HeadId) :
    ((judgeTemperature x s).channel h).refFault = (s.channel h).refFault ∧
      ((s.channel h).state = .idle → ((judgeTemperature x s).channel h).state = .idle) ∧
      (s.service.step = none → (judgeTemperature x s).service.step = none) ∧
      (∀ c, causeSet s.alarm.latched c = true → causeSet (judgeTemperature x s).alarm.latched c = true) ∧
      s.Raises 4 (judgeTemperature x s) := by
  by_cases hot : s.Hot x
  · obtain ⟨v, before, after⟩ := judgeTemperature_aside hot h
    have steady := judgeTemperature_steady hot
    have channel : v.channel h = s.channel h := before.channel
    refine ⟨?_, fun idle => ?_, fun none => ?_, steady.latched, ⟨steady.raises.watch, steady.raises.kept, steady.raises.branch⟩⟩
    · rw [after.channel, receiveClose_refFault, channel]
    · rw [after.channel]
      exact receiveClose_idle _ (by rw [channel]; exact idle)
    · have stays : v.service.step = .none := (before.step fun j _ => by simp [State.stepOn, State.heated, none]).1.trans none
      exact after.apart.step (receiveClose_stepless _ stays)
  · rw [judgeTemperature_of_not_hot hot]
    refine ⟨rfl, id, id, fun _ => id, State.Raises.le (n := 0) ?_ (by omega)⟩
    exact (State.Raises.refl s).of_link rfl

/-- Close pending told before the temperature is judged stays (R19). -/
theorem State.Told.temperature {c : CloseCause} {outcome : Option WeighOutcome} (told : s.Told h n c outcome t) (x : Int) :
    s.Told h n c outcome (judgeTemperature x t) := by
  by_cases hot : t.Hot x
  · obtain ⟨v, before, after⟩ := judgeTemperature_aside hot h
    exact (told.heated.again before).aside after
  · rw [judgeTemperature_of_not_hot hot]
    obtain ⟨z, received, rest⟩ := told.found
    exact ⟨⟨z, { received with }, rest⟩, told.line⟩

/-- A new TEMP_HIGH tells a head that no reference has told (R19, R49). -/
theorem judgeTemperature_told {x : Int} (hot : s.Hot x) (h : HeadId) :
    s.Told h 2 .tempHigh (s.head h).weighing (judgeTemperature x s) := by
  obtain ⟨v, before, after⟩ := judgeTemperature_aside hot h
  have told := (receiveClose_told h .tempHigh v).aside after
  rw [before.head] at told
  exact (told.after before.apart).of_heated

/-- Settles O21: the references are judged in their order, then the temperature, and each head sees one of them first. -/
theorem endOfScanJudges : Obligations.EndOfScanJudges := by
  intro s a b c v settle scanning low high open' limits reference outside failed hot
  let z := s.scanned ⟨a, b, c, v⟩
  let w := z.referred (reference .a) (reference .b) (reference .c)
  let y := judgeTemperature v w
  have openz : z.WindowsOpen := open'
  have steady : z.Steady 6 w := referred_steady openz ..
  have work : auxConversion v s = settleDrain z y := (auxConversion_of_fourth scanning low high).trans (endScan_eq open' _)
  have settles : y.Settles (pump (settleDrain z y)) := (State.Settles.settleDrain z y).trans (.pump _)
  have scanner : w.scanner = z.scanner := steady.scanner
  have hot_iff : w.Hot v ↔ hot := by simp only [State.Hot, scanner]; exact Iff.rfl
  obtain ⟨kept, flag⟩ := judgeTemperature_scanner v w
  rw [hot_iff, scanner] at flag
  rw [scanner] at kept
  refine ⟨_, congrArg done work, ?_, ?_, ?_, ?_, fun is => ⟨?_, fun room => ?_⟩, fun h => ?_⟩
  · rw [settles.scanner, kept]; rfl
  · rw [settles.scanner, kept]; rfl
  · rw [settles.scanner, kept]; rfl
  · rw [settles.scanner]; exact flag
  · rw [settles.alarm]; exact (judgeTemperature_sends (hot_iff.2 is)).1
  · refine settles.notices .branch _ ((judgeTemperature_sends (hot_iff.2 is)).2 ?_)
    have := steady.raises.branch
    have same : z.link = s.link := rfl
    rw [same] at this
    omega
  obtain ⟨fault, spared, hit⟩ := referred_spec openz reference h
  obtain ⟨same, idle, stepless, latched, raises⟩ := judgeTemperature_keeps v w h
  refine ⟨?_, fun fails => ?_, fun x kind fails weighing mine on => ?_, fun no cool => ?_, fun some => ?_⟩
  · rw [settles.channel, same]; exact fault
  · obtain ⟨-, set, sent, -⟩ := hit fails
    refine ⟨?_, fun room => settles.notices .branch _ (raises.mem (sent room))⟩
    rw [settles.alarm]
    exact latched .refFault set
  · obtain ⟨-, -, -, calibrated⟩ := hit fails
    obtain ⟨is, stops, tells⟩ := calibrated x kind weighing mine on
    refine ⟨by rw [settles.channel]; exact idle is, by rw [settles.service]; exact stepless stops, fun room => ?_⟩
    exact settles.notices .service _ (raises.kept .service _ (tells room))
  · rw [settles.head]
    have cold : ¬w.Hot v := fun is => cool (hot_iff.1 is)
    rw [show y = _ from judgeTemperature_of_not_hot cold]
    exact (spared no).head
  · intro first sent
    by_cases fails : failed h
    · obtain ⟨⟨outcome, told, ends, not⟩, -⟩ := hit fails
      have is : first = (s.head h).closePending.getD .refFault := by simp only [first, if_pos fails]
      obtain ⟨closed, warming, shut, keeps⟩ := (told.temperature v).clauses (by omega) settles fun closed =>
        not fun examines => absurd (closed.symm.trans examines.1) nofun
      simp only [sent, is]
      refine ⟨closed, warming, shut, fun no no' open' => ⟨outcome, keeps no no' open', fun ended => ?_, fun not' => ?_⟩⟩
      · obtain ⟨was, still⟩ := ends ended.2
        exact ⟨was, by rw [settles.channel]; exact idle still⟩
      · exact not fun examines => not' ⟨fails, examines⟩
    · have is : first = (s.head h).closePending.getD .tempHigh := by simp only [first, if_neg fails]
      have heats : hot := some.resolve_left fails
      have told := (judgeTemperature_told (hot_iff.2 heats) h).after (spared fails)
      have head : w.head h = s.head h := (spared fails).head
      rw [head] at told
      obtain ⟨closed, warming, shut, keeps⟩ := told.clauses (by omega) settles fun _ => rfl
      simp only [sent, is]
      exact ⟨closed, warming, shut, fun no no' open' => ⟨_, keeps no no' open', fun ended => absurd ended.1 fails, fun _ => rfl⟩⟩

end Sys2Proof.Machine
end

section
/-! A delivery: its record is stored, and the next bag is let go or waits (R105, R112-R115, R122-R127). -/

namespace Sys2Proof.Machine

variable {s t u w : State} {h k : HeadId}

/-! ### The heads an arbitration passes over -/

/-- An arbitration passes over head `k`: no bag waits there, or its front record fits nowhere (R112, R122). -/
def State.Passes (s : State) (k : HeadId) : Prop := s.front k = none ∨ ∃ y, s.front k = some y ∧ s.fitOf y = .nowhere

theorem State.Checked.passes {n : Nat} (a : s.Checked n t) (passes : s.Passes k) : t.Passes k := by
  simpa only [State.Passes, a.front, a.fitOf] using passes

theorem consider_of_no_front (empty : s.front k = none) : consider k s = (none, s) := by simp [consider, empty]

theorem consider_of_nowhere {y : Record} (front : s.front k = some y) (fit : s.fitOf y = .nowhere) :
    consider k s = (none, rackFullCheck k y s) := by simp [consider, front, fit]

theorem consider_of_fit {r : Record} {b : Nat} {o : Bool} (front : s.front k = some r)
    (fit : s.fitOf r = (if o = true then .overflow b else .first b)) : consider k s = (some (r, b, o), s) := by
  cases o <;> simp_all [consider]

theorem rackFullCheck_of_full {y : Record} (full : s.rack.rackFull = true) : rackFullCheck k y s = s := by
  simp [rackFullCheck, full]

/-- Heads passed over leave only fit checks behind them, which change nothing where the rack-full flag is set or no bag
waits (R112, R122). -/
theorem firstEligible_append (before l : List HeadId) (passes : ∀ k ∈ before, s.Passes k) :
    ∃ w, s.Checked before.length w ∧ firstEligible (before ++ l) s = firstEligible l w ∧
      (s.rack.rackFull = true ∨ (∀ k ∈ before, s.front k = none) → w = s) := by
  induction before generalizing s with
  | nil => exact ⟨s, .refl s, rfl, fun _ => rfl⟩
  | cons k before ih =>
    obtain ⟨first, later⟩ := List.forall_mem_cons.1 passes
    rcases first with empty | ⟨y, front, fit⟩
    · obtain ⟨w, checked, same, still⟩ := ih later
      refine ⟨w, checked.le (by simp), ?_, fun quiet => still (quiet.imp_right fun all => (List.forall_mem_cons.1 all).2)⟩
      simp only [List.cons_append, firstEligible, consider_of_no_front empty, same]
    · have checked := State.Checked.rackFullCheck k y s
      obtain ⟨w, more, same, still⟩ := ih (s := rackFullCheck k y s) fun j mem => checked.passes (later j mem)
      refine ⟨w, (checked.trans more).le (by simp; omega), ?_, ?_⟩
      · simp only [List.cons_append, firstEligible, consider_of_nowhere front fit, same]
      · rintro (full | none)
        · rw [still (.inl (by rw [rackFullCheck_of_full full]; exact full)), rackFullCheck_of_full full]
        · exact absurd (front.symm.trans (none k (List.mem_cons_self ..))) nofun

/-! ### The order of an arbitration -/

/-- Whether the last-granted head is asked first (R125). -/
def Lift.again (l : Lift) : Bool := l.mode = .run ∧ l.runCount < l.runLimit

/-- The order in which an arbitration asks the heads (R124, R125). -/
def Lift.order (l : Lift) : List HeadId :=
  if l.again then l.lastHead :: (alternateOrder l.lastHead).take 2 else alternateOrder l.lastHead

theorem Lift.order_length (l : Lift) : l.order.length = 3 := by
  unfold Lift.order
  split <;> cases l.lastHead <;> rfl

/-- The run count that a grant to a head sets (R124, R125). -/
def Lift.runAfter (l : Lift) (h : HeadId) : Nat := if l.again = true ∧ h = l.lastHead then l.runCount + 1 else 1

theorem alternateOrder_filter (last : HeadId) :
    (alternateOrder last).filter (· != last) = (alternateOrder last).take 2 := by cases last <;> rfl

theorem last_not_mem_take (last : HeadId) : last ∉ (alternateOrder last).take 2 := by cases last <;> decide

/-- An arbitration grants to the first eligible head of its order (R123, R124, R125). -/
theorem arbitrate_of_chosen {r : Record} {b : Nat} {o : Bool} (idle : s.lift.state = .idle)
    (found : firstEligible s.lift.order s = (some (h, r, b, o), w)) : arbitrate s = grant h r b o (s.lift.runAfter h) w := by
  cases again : s.lift.again with
  | false =>
    have one : s.lift.runAfter h = 1 := by simp [Lift.runAfter, again]
    rw [Lift.order, again, if_neg (by decide)] at found
    simp only [arbitrate, idle]
    split
    · rw [found, one]; rfl
    · next run =>
      rw [if_neg fun lt => by simp [Lift.again, run, lt] at again, found, one]
      rfl
  | true =>
    obtain ⟨run, lt⟩ : s.lift.mode = .run ∧ s.lift.runCount < s.lift.runLimit := by simpa [Lift.again] using again
    rw [Lift.order, again, if_pos rfl] at found
    simp only [arbitrate, idle, run, if_pos lt, alternateOrder_filter]
    have other {v : State} (chosen : firstEligible ((alternateOrder s.lift.lastHead).take 2) v = (some (h, r, b, o), w)) :
        grantChosen 1 (firstEligible ((alternateOrder s.lift.lastHead).take 2) v) = grant h r b o (s.lift.runAfter h) w := by
      have listed := ((firstEligible_spec _ v).2 (h, r, b, o) (by rw [chosen])).listed
      have ne : h ≠ s.lift.lastHead := fun same => last_not_mem_take _ (same ▸ listed)
      rw [chosen, Lift.runAfter, if_neg fun is => ne is.2]
      rfl
    simp only [firstEligible] at found ⊢
    rcases consider_cases s.lift.lastHead s with ⟨_, asked⟩ | ⟨r', b', o', _, _, asked⟩ | ⟨r', _, _, asked⟩ <;>
      simp only [asked] at found ⊢
    · exact other found
    · cases found
      rw [Lift.runAfter, if_pos ⟨again, rfl⟩]
      rfl
    · exact other found

/-- With no head eligible an arbitration is its fit checks (R122). -/
theorem arbitrate_of_none (idle : s.lift.state = .idle) (found : firstEligible s.lift.order s = (none, w)) :
    arbitrate s = w := by
  cases again : s.lift.again with
  | false =>
    rw [Lift.order, again, if_neg (by decide)] at found
    simp only [arbitrate, idle]
    split
    · rw [found]; rfl
    · next run =>
      rw [if_neg fun lt => by simp [Lift.again, run, lt] at again, found]
      rfl
  | true =>
    obtain ⟨run, lt⟩ : s.lift.mode = .run ∧ s.lift.runCount < s.lift.runLimit := by simpa [Lift.again] using again
    rw [Lift.order, again, if_pos rfl] at found
    simp only [arbitrate, idle, run, if_pos lt, alternateOrder_filter]
    simp only [firstEligible] at found ⊢
    rcases consider_cases s.lift.lastHead s with ⟨_, asked⟩ | ⟨r', b', o', _, _, asked⟩ | ⟨r', _, _, asked⟩ <;>
      simp only [asked] at found ⊢
    · rw [found]; rfl
    · exact absurd (congrArg Prod.fst found) nofun
    · rw [found]; rfl

/-! ### The grant -/

/-- The rack with a record charged to a bin (R113, R114). -/
def BinTable.charged (t : BinTable) (r : Record) (b zone : Nat) (o : Bool) : BinTable :=
  { t with
    bins := t.bins.modify b fun v => { v with count := v.count + 1, mass := v.mass + r.allocationMass }
    zoneFull := if o then t.zoneFull.set zone true else if r.plain then t.zoneFull.set zone false else t.zoneFull
    rackFull := false }

theorem set_of_getD_true {l : List Bool} {n : Nat} (full : (l[n]?).getD false = true) : l.set n true = l := by
  cases at' : l[n]? with
  | none => simp [at'] at full
  | some v =>
    obtain rfl : v = true := by simpa [at'] using full
    obtain ⟨lt, is⟩ := List.getElem?_eq_some_iff.1 at'
    rw [← is, List.set_getElem_self]

/-- An allocation charges the bin and keeps the zone's flag by its kind, with a notice at the first overflow (R113,
R114). -/
theorem allocate_spec (r : Record) (b : Nat) (o : Bool) (s : State) :
    (allocate r b o s).rack = s.rack.charged r b (s.zoneOf r) o ∧ s.Raises 1 (allocate r b o s) ∧
      (o = true → s.zoneFull (s.zoneOf r) = false → s.link.branch.notices.length < 32 →
        Notice.zoneFull (s.zoneOf r) r.seq b ∈ (allocate r b o s).link.branch.notices) := by
  let u : State := { chargeBin b r.allocationMass s with rack := { (chargeBin b r.allocationMass s).rack with rackFull := false } }
  have begun : s.Raises 0 u := (State.Raises.refl s).of_link rfl
  have same : u.zoneFull (s.zoneOf r) = s.zoneFull (s.zoneOf r) := rfl
  have made : allocate r b o s = if o then
      (if u.zoneFull (s.zoneOf r) then u else notify (.zoneFull (s.zoneOf r) r.seq b) (setZoneFull (s.zoneOf r) true u))
      else if r.plain then setZoneFull (s.zoneOf r) false u else u := rfl
  rw [made, same]
  cases o with
  | true =>
    cases full : s.zoneFull (s.zoneOf r) with
    | true =>
      refine ⟨?_, begun.le (by omega), fun _ => nofun⟩
      simp only [BinTable.charged, if_true, set_of_getD_true full]
      rfl
    | false =>
      refine ⟨?_, ?_, fun _ _ room => ?_⟩
      · simp only [Bool.false_eq_true, if_false, if_true, notify_frame]
        rfl
      · rw [if_pos rfl, if_neg (by decide)]
        refine .notify (n := 0) _ ?_
        exact begun.of_link rfl
      · exact (State.Raises.refl (setZoneFull (s.zoneOf r) true u)).mem_notify rfl (by exact room)
  | false =>
    refine ⟨?_, ?_, nofun⟩
    · simp only [BinTable.charged, Bool.false_eq_true, if_false]
      split <;> rfl
    · simp only [Bool.false_eq_true, if_false]
      split
      · refine State.Raises.le (n := 0) ?_ (by omega)
        exact begun.of_link rfl
      · exact begun.le (by omega)

/-- An entry has left the staging queue of a head whose cradle, where it holds, is occupied (R18). -/
theorem leaveHold_of_cradle (cradle : (s.head h).state = .hold → s.cradle h = true) : leaveHold h s =
    if (s.head h).state = .hold ∧ (s.head h).staging.length < 2 then moveHead h Head.opening s else s := by
  unfold leaveHold
  split
  · next leaves => rw [openGate_of_cradle (cradle leaves.1)]
  · rfl

/-- The head whose front bag is let go, and which leaves HOLD where its staging queue now has room (R18, R126). -/
def Head.letGo (hd : Head) : Head :=
  let left : Head := { hd with staging := hd.staging.tail }
  if left.state = .hold ∧ left.staging.length < 2 then left.opening else left

/-- The record granted a bin (R126). -/
def Record.granted (b : Nat) (o : Bool) (r : Record) : Record :=
  { r with bin := some b, overflow := r.overflow || o, state := .inTransfer }

/-- The grant of a record to a bin (R105, R113, R114, R126). -/
structure State.Granted (h : HeadId) (r : Record) (b : Nat) (o : Bool) (run : Nat) (s t : State) : Prop where
  lift   : t.lift = { s.lift with
    state := .moving ⟨r.seq, h, b⟩ s.now
    lastHead := h
    runCount := run
    transferTimer := some s.lift.transferTime
    moveOutstanding := some b
    orders := s.lift.orders ++ [.move h b] }
  log    : t.log = { s.log with records := s.log.records.map fun x => if x.seq = r.seq then x.granted b o else x }
  rack   : t.rack = s.rack.charged r b (s.zoneOf r) o
  head   : t.head h = (s.head h).letGo
  others : ∀ k, k ≠ h → t.head k = s.head k
  stats  : t.service.stats = { s.service.stats with transfers := countUp s.service.stats.transfers }
  raises : s.Raises 1 t
  sent   : o = true → s.zoneFull (s.zoneOf r) = false → s.link.branch.notices.length < 32 →
    Notice.zoneFull (s.zoneOf r) r.seq b ∈ t.link.branch.notices

theorem grant_granted {r : Record} {b run : Nat} {o : Bool} (cradle : (s.head h).state = .hold → s.cradle h = true) :
    s.Granted h r b o run (grant h r b o run s) := by
  let a := allocate r b o s
  let v := a.setHead h { a.head h with staging := (a.head h).staging.tail }
  obtain ⟨rack, raises, sent⟩ := allocate_spec r b o s
  have before : a.head h = s.head h := by simp [a]
  have head : v.head h = { s.head h with staging := (s.head h).staging.tail } := by
    rw [← before]
    exact State.setHead_head a h _
  have other {k : HeadId} (ne : k ≠ h) : v.head k = s.head k := by
    rw [State.setHead_head_of_ne _ _ ne]
    simp [a]
  have lets : leaveHold h v = if (v.head h).state = .hold ∧ (v.head h).staging.length < 2 then moveHead h Head.opening v else v :=
    leaveHold_of_cradle fun holds => by
      rw [head] at holds
      rw [← cradle holds]
      simp [v, a]
  obtain ⟨moved, others, stats, after⟩ : (leaveHold h v).head h = (s.head h).letGo ∧
      (∀ k, k ≠ h → (leaveHold h v).head k = s.head k) ∧ (leaveHold h v).service.stats = s.service.stats ∧
      a.Raises 0 (leaveHold h v) := by
    rw [lets, Head.letGo, head]
    split
    · next leaves =>
      exact ⟨by rw [moveHead_head, head], fun k ne => by rw [moveHead_head_of_ne _ _ ne, other ne], by simp [v, a],
        ((State.Raises.refl a).setHead h _).moveHead ..⟩
    · exact ⟨head, fun k ne => other ne, by simp [v, a], (State.Raises.refl a).setHead h _⟩
  have log : (leaveHold h v).log = s.log := by
    rw [lets]
    split <;> simp [v, a]
  let y := leaveHold h v
  have same : y.lift = s.lift ∧ y.rack = a.rack ∧ y.now = s.now := by simp [y, v, a]
  obtain ⟨lift, rack', now⟩ := same
  have lift' : (grant h r b o run s).lift = { y.lift with
    state := .moving ⟨r.seq, h, b⟩ y.now
    lastHead := h
    runCount := run
    transferTimer := some y.lift.transferTime
    moveOutstanding := some b
    orders := y.lift.orders ++ [.move h b] } := rfl
  have log' : (grant h r b o run s).log = { y.log with
    records := y.log.records.map fun x => if x.seq = r.seq then x.granted b o else x } := rfl
  have last : a.Raises 0 (grant h r b o run s) := after.of_link rfl
  constructor
  · rw [lift', lift, now]
  · rw [log', log]
  · exact rack'.trans rack
  · exact moved
  · exact others
  · have counted : (grant h r b o run s).service.stats =
        { y.service.stats with transfers := countUp y.service.stats.transfers } := rfl
    rw [counted, stats]
  · exact raises.trans last
  · exact fun overflows clear room => last.mem (sent overflows clear room)

/-! ### The delivery -/

/-- A record stored at a time (R127). -/
def Record.storedAt (now : Nat) (r : Record) : Record := { r with state := .stored, storedTime := some now }

/-- A record after the delivery of the one with a sequence number. -/
def Record.afterDelivery (seq now : Nat) (r : Record) : Record := if r.seq = seq then r.storedAt now else r

theorem Record.afterDelivery_seq (seq now : Nat) (r : Record) : (r.afterDelivery seq now).seq = r.seq := by
  unfold Record.afterDelivery
  split <;> rfl

/-- The fit of a record does not depend on where its bag is (R109, R110). -/
theorem fitOf_afterDelivery (seq now : Nat) (r : Record) : s.fitOf (r.afterDelivery seq now) = s.fitOf r := by
  unfold Record.afterDelivery
  split <;> rfl

/-- The part with the in-flight record stored and the lift IDLE, before the next bag is looked for (R127). -/
def State.delivered (s : State) (f : InFlight) : State := liftIdle (storeInFlight f .drive s)

section
variable (f : InFlight)

theorem delivered_lift : (s.delivered f).lift =
    { s.lift with state := .idle, transferTimer := none, moveOutstanding := none } := by
  simp [State.delivered, liftIdle, storeInFlight]

theorem delivered_log : (s.delivered f).log =
    { s.log with records := s.log.records.map (Record.afterDelivery f.seq s.now) } := by
  simp [State.delivered, storeInFlight, State.updateRecord]
  exact fun _ _ => rfl

theorem delivered_frame : (s.delivered f).heads = s.heads ∧ (s.delivered f).rack = s.rack ∧
    (s.delivered f).advices = s.advices ∧ (s.delivered f).service = s.service ∧ (s.delivered f).clock = s.clock ∧
    (∀ k, (s.delivered f).cradle k = s.cradle k) ∧ s.Raises 1 (s.delivered f) := by
  refine ⟨by simp [State.delivered], by simp [State.delivered], by simp [State.delivered], by simp [State.delivered],
    by simp [State.delivered], by simp [State.delivered], ?_⟩
  refine State.Raises.of_link ((?_ : s.Raises 0 _).notify (.depositStored f.seq f.head f.bin s.now .drive)) rfl
  exact (State.Raises.refl s).of_link rfl

theorem delivered_record (q : Nat) :
    (s.delivered f).record q = (s.record q).map (Record.afterDelivery f.seq s.now) := by
  simp only [State.record, delivered_log, List.find?_map]
  congr 2
  funext r
  simp [Record.afterDelivery_seq]

/-- The front record of a head is the same bag's after the delivery. -/
theorem delivered_front (k : HeadId) :
    (s.delivered f).front k = (s.front k).map (Record.afterDelivery f.seq s.now) := by
  have head : (s.delivered f).head k = s.head k := by rw [State.head, (delivered_frame f).1]; rfl
  unfold State.front
  rw [head]
  split
  · rfl
  · exact delivered_record f _

theorem delivered_fitOf (r : Record) : (s.delivered f).fitOf r = s.fitOf r := by
  obtain ⟨-, rack, advices, -⟩ := delivered_frame (s := s) f
  rw [State.fitOf, State.zoneOf, rack, advices]
  rfl

theorem delivered_passes (passes : s.Passes k) : (s.delivered f).Passes k := by
  rcases passes with empty | ⟨y, front, fit⟩
  · exact .inl (by rw [delivered_front, empty]; rfl)
  · exact .inr ⟨_, by rw [delivered_front, front]; rfl, by rw [delivered_fitOf, fitOf_afterDelivery, fit]⟩
end

/-- The report of the bin that the MOVE names delivers (R127). -/
theorem moveReport_of_delivered {f : InFlight} {granted : Nat} (moving : s.lift.state = .moving f granted)
    (out : s.lift.moveOutstanding.isSome = true) : moveReport (.delivered f.bin) s = arbitrate (s.delivered f) := by
  have some : ¬s.lift.moveOutstanding.isNone = true := by rw [← Option.not_isSome, out]; decide
  simp only [moveReport, if_neg some, moving, if_true]
  rfl

theorem front_of_find {y : Record}
    (found : s.log.records.find? (fun r => (s.head k).staging.head? == some r.seq) = some y) : s.front k = some y := by
  unfold State.front
  cases staging : (s.head k).staging with
  | nil =>
    have is := List.find?_some found
    simp [staging] at is
  | cons seq rest =>
    rw [← found]
    simp only [State.record, staging, List.head?_cons]
    congr 1
    funext r
    simp [eq_comm]

theorem Record.plain_eq (x : Record) : x.plain = decide (x.verdict = .accepted ∧ x.late = false) := by
  unfold Record.plain
  cases x.late <;> simp [beq_eq_decide]

section
variable {f : InFlight} {granted : Nat} (moving : s.lift.state = .moving f granted)
  (out : s.lift.moveOutstanding.isSome = true) (bin : f.bin ≤ 59)
include moving out bin

/-- The delivery, where what the arbitration does calls for no other. -/
theorem exec_delivered (quiet : s.Undisturbed (arbitrate (s.delivered f))) :
    ∃ t, exec (.delivered f.bin) s = .next t ∧ (arbitrate (s.delivered f)).Settles t := by
  have work := moveReport_of_delivered moving out
  obtain ⟨t, stepped, settles⟩ := done_settled (moveReport (.delivered f.bin)) (s := s) (by rw [work]; exact quiet)
  refine ⟨t, ?_, work ▸ settles⟩
  rw [← stepped]
  exact congrArg done (if_neg (by omega))

theorem exec_delivered_empty (mode : s.mode ≠ .dayPending)
    (empty : ∀ h, (s.head h).staging = []) : exec (.delivered f.bin) s = .next (pump (s.delivered f)) := by
  have heads := (delivered_frame (s := s) f).1
  have none : ∀ h, ((s.delivered f).head h).staging = [] := fun h => by rw [State.head, heads]; exact empty h
  have work : moveReport (.delivered f.bin) s = s.delivered f := by
    rw [moveReport_of_delivered moving out, arbitrate_of_empty _ none]
  have whole : settled (moveReport (.delivered f.bin)) s = s.delivered f := by
    rw [settled, withArbitration_of_staging _ _ fun h => by rw [work, none, empty], work]
    exact settleDrain_of_not_pending _ _ (by simpa [State.delivered] using mode)
  refine Eq.trans (congrArg done (if_neg (by omega))) ?_
  rw [whole]
  rfl
end

/-- Settles O22: the bag is stored, and the arbitration that follows finds the first head whose bag fits, or none. -/
theorem deliveryStoresAndGrants : Obligations.DeliveryStoresAndGrants := by
  intro s f granted now moving out bin clock mode
  have time : s.now = now := by rw [State.now, clock]; rfl
  let p := s.delivered f
  obtain ⟨heads, rack, advices, service, clock', cradle, told⟩ := delivered_frame (s := s) f
  have head (k : HeadId) : p.head k = s.head k := by rw [State.head, heads]; rfl
  have idle : p.lift.state = .idle := by rw [delivered_lift]
  refine ⟨fun empty => ?_, ?_⟩
  · rw [exec_delivered_empty moving out bin mode empty, ← time]
    rfl
  intro last after again order blocked before behind h x placed plain mass
  have order' : p.lift.order = before ++ h :: behind := by
    rw [← placed, Lift.order, delivered_lift]
    simp only [order, after, last]
    cases s.lift.lastHead <;> rfl
  have passes {k : HeadId} (wait : (s.head k).staging = [] ∨ blocked k) : p.Passes k := by
    refine delivered_passes f ?_
    rcases wait with empty | ⟨y, found, fit⟩
    · exact .inl (by simp [State.front, empty])
    · exact .inr ⟨y, front_of_find found, fit⟩
  have records : p.log = { s.log with records := s.log.records.map (Record.afterDelivery f.seq now) } := by
    rw [← time]; exact delivered_log f
  constructor
  · intro rest b overflow passed staging found other fit hold zone
    obtain ⟨w, checked, same, -⟩ := firstEligible_append before (h :: behind) fun k mem => passes (passed k mem)
    have front : p.front h = some x := by
      have first : s.front h = some x := by rw [State.front, staging]; exact found
      rw [delivered_front, first, Option.map_some, Record.afterDelivery, if_neg other]
    have eligible : consider h w = (some (x, b, overflow), w) := consider_of_fit ((checked.front h).trans front)
      ((checked.fitOf x).trans ((delivered_fitOf f x).trans fit))
    have chosen : firstEligible p.lift.order p = (some (h, x, b, overflow), w) := by
      rw [order', same]
      simp only [firstEligible, eligible]
    have work := arbitrate_of_chosen idle chosen
    have grants : w.Granted h x b overflow (p.lift.runAfter h) (grant h x b overflow (p.lift.runAfter h) w) :=
      grant_granted fun holds => by
        rw [checked.head, head] at holds
        rw [← hold holds, ← cradle h, State.cradle, State.active, State.input, checked.inputs]
        rfl
    rw [← work] at grants
    obtain ⟨t, stepped, settles⟩ := exec_delivered moving out bin (.inr (by rw [grants.lift]; nofun))
    have zone' : w.zoneOf x = zone := by
      rw [checked.zoneOf, State.zoneOf, rack, advices]
      simp only [zone]
      unfold recordClass
      cases x.advice <;> rfl
    refine ⟨t, stepped, ?_, ?_, ?_, fun overflows clear room => ?_, ?_, fun k ne => ?_, ?_⟩
    · have now' : w.now = now := by rw [State.now, checked.clock, clock', clock]; rfl
      rw [settles.lift, grants.lift, checked.lift, delivered_lift, now']
      rfl
    · rw [settles.log, grants.log, checked.log, records]
      simp only [List.map_map]
      congr 2
      funext r
      simp only [Function.comp_apply, Record.afterDelivery_seq]
      split
      · next mine =>
        rw [Record.afterDelivery, if_neg fun is => other (mine ▸ is)]
        rfl
      · rfl
    · rw [settles.rack, grants.rack, zone', checked.rack, rack, BinTable.charged, Record.plain_eq]
      rfl
    · have clear' : w.zoneFull (w.zoneOf x) = false := by
        rw [zone', State.zoneFull, checked.rack, rack, clear]
        rfl
      have sent := grants.sent overflows clear' (by
        have checks := checked.raises.branch
        have stored : p.link.branch.notices.length ≤ _ := told.branch
        have three := p.lift.order_length
        rw [order', List.length_append] at three
        omega)
      rw [zone'] at sent
      exact settles.notices .branch _ sent
    · rw [settles.head, grants.head, checked.head, head, Head.letGo, staging]
      split
      · next leaves => exact (if_pos (c := (s.head h).state = .hold ∧ rest.length < 2) leaves).symm
      · next stays => exact (if_neg (c := (s.head h).state = .hold ∧ rest.length < 2) stays).symm
    · rw [settles.head, grants.others k ne, checked.head, head]
    · rw [settles.service, grants.stats, checked.service, service]
  · intro empty found fit waits
    obtain ⟨w, -, same, still⟩ := firstEligible_append before (h :: behind) fun k mem => passes (.inl (empty k mem))
    obtain rfl : w = p := still (.inr fun k mem => by simp [State.front, head, empty k mem])
    let y := x.afterDelivery f.seq now
    let q := rackFullCheck h y p
    have front : p.front h = some y := by
      rw [delivered_front, front_of_find found, time]
      rfl
    have full : q.rack = { p.rack with rackFull := true } := by
      simp only [q, rackFullCheck]
      split
      · next set => rw [← set]
      · simp
    have checked : p.Checked 1 q := .rackFullCheck h y p
    obtain ⟨v, -, rest, still'⟩ := firstEligible_append behind [] (s := q) fun k mem => checked.passes (passes (waits k mem))
    obtain rfl : v = q := still' (.inl (by rw [full]))
    have nobody : firstEligible p.lift.order p = (none, q) := by
      rw [order', same]
      simp only [firstEligible, consider_of_nowhere front ((delivered_fitOf f y).trans ((fitOf_afterDelivery ..).trans fit))]
      rw [List.append_nil] at rest
      exact rest
    have work := arbitrate_of_none idle nobody
    obtain ⟨t, stepped, settles⟩ := exec_delivered moving out bin (.inl fun k => by rw [work, checked.head, head])
    rw [work] at settles
    refine ⟨t, stepped, ?_, ?_, ?_, ?_, fun clear room => settles.notices .branch _ ?_⟩
    · rw [settles.lift, checked.lift, delivered_lift]
    · rw [settles.rack, full, rack]
    · rw [settles.heads, checked.heads, heads]
    · rw [settles.log, checked.log, records]
      rfl
    · have tells : q = notify (.rackFull h y.seq y.allocationMass y.plain) { p with rack := { p.rack with rackFull := true } } :=
        if_neg (by rw [rack, clear]; decide)
      have bag : y.seq = x.seq ∧ y.allocationMass = mass ∧ y.plain = plain := by
        refine ⟨Record.afterDelivery_seq .., ?_, ?_⟩
        · simp only [y, Record.afterDelivery]
          split <;> rfl
        · rw [show plain = x.plain from (Record.plain_eq x).symm]
          simp only [y, Record.afterDelivery]
          split <;> rfl
      obtain ⟨seq, weight, kind⟩ := bag
      rw [seq, weight, kind] at tells
      rw [tells]
      exact (State.Raises.refl _).mem_notify rfl (by
        have stored : p.link.branch.notices.length ≤ _ := told.branch
        exact Nat.lt_of_le_of_lt stored (by omega))

end Sys2Proof.Machine
end

section
/-! Debounced lines, and the restart decision that the last of a head's lines brings (R25, R102, R142, R161, R163, R164). -/

namespace Sys2Proof.Machine

variable {s t u v : State} {h k : HeadId} {n m : Nat}

/-! ### A line's own work -/

theorem InputLine.withRaw_raw (l : InputLine) (a : Bool) : (l.withRaw a).raw = a := by
  cases a <;> cases e : l.polarity <;> simp [InputLine.withRaw, InputLine.raw, e]

theorem setInput_setInput (s : State) (n : Nat) (l l' : InputLine) : (s.setInput n l).setInput n l' = s.setInput n l' := by
  simp [State.setInput]

/-- Work on the lines alone is followed by nothing. -/
theorem settled_of_lines {f : State → State} (heads : (f s).heads = s.heads) (lift : (f s).lift = s.lift)
    (cradles : ∀ h, ((f s).input (cradleLine h)).debounced = (s.input (cradleLine h)).debounced) : settled f s = f s := by
  have head (h : HeadId) : (f s).head h = s.head h := by rw [State.head, heads]; rfl
  rw [settled, withArbitration_of_staging _ _ fun h => by rw [head]]
  exact settleDrain_of_same _ _ (fun h => by rw [head]) (fun h => by rw [head]) cradles (by rw [lift])

/-- A raw change on an established line starts or stops its debounce timer (R163). -/
theorem rawLevelChange_of_established {a d : Bool} (sized : s.Sized) (lt : n < 16) (established : (s.input n).debounced = some d)
    (change : (s.input n).raw ≠ a) (slow : 0 < (s.input n).debounce) : rawLevelChange n a s = s.setInput n
      { (s.input n).withRaw a with timer := if a = d then none else some (s.input n).debounce } := by
  have line : (s.setInput n ((s.input n).withRaw a)).input n = (s.input n).withRaw a :=
    State.setInput_input _ _ (by rw [sized.inputs]; exact lt)
  have level : ((s.input n).withRaw a).debounced = some d := established
  simp only [rawLevelChange, if_neg change, rawChanged, line, level, InputLine.withRaw_raw]
  split
  · exact setInput_setInput ..
  · rw [if_neg (show ((s.input n).withRaw a).debounce ≠ 0 from slow.ne')]
    exact setInput_setInput ..

theorem debounceExpired_of_unestablished (running : (s.input n).timer.isSome = true) (none : (s.input n).debounced = none) :
    debounceExpired n s = establish n s := by
  have going : (s.input n).timer.isNone = false := by cases e : (s.input n).timer <;> simp_all
  simp [debounceExpired, none, going]

/-- The level of a line that no head and not TAMPER owns is established, and nobody is told (R164). -/
theorem establish_of_unowned (owner : ownerHead n = none) (plain : n ≠ tamperLine) : establish n s = s.lineTaken n := by
  simp [establish, owner, signalFirstLevel, plain, State.lineTaken]

/-- The edge of such a line is recorded and nobody is told (R163, R166). -/
theorem debounceExpired_of_unowned (owner : ownerHead n = none) (plain : n ≠ tamperLine)
    (running : (s.input n).timer.isSome = true) (edge : (s.input n).debounced = some (!(s.input n).raw)) :
    debounceExpired n s = recordEdge n (s.input n).raw (s.lineTaken n) := by
  have going : (s.input n).timer.isNone = false := by cases e : (s.input n).timer <;> simp_all
  simp [debounceExpired, edge, going, takeEdge, signalEdge, owner, plain, State.lineTaken]

theorem recordEdge_lineTaken (sized : s.Sized) (lt : n < 16) :
    let l := s.input n
    let recorded : Bool := l.report = .both ∨ (l.report = .activate ∧ l.raw = true) ∨ (l.report = .deactivate ∧ l.raw = false)
    let u := s.setInput n { l with debounced := some l.raw, timer := none, event := l.event || recorded }
    recordEdge n l.raw (s.lineTaken n) = if recorded && l.notify then notify (.lineEvent n l.raw s.clock) u else u := by
  intro l recorded u
  have line : (s.lineTaken n).input n = { l with debounced := some l.raw, timer := none } :=
    State.setInput_input _ _ (by rw [sized.inputs]; exact lt)
  have records : recordsEdge l.report l.raw = recorded := by
    simp only [recorded]
    cases l.report <;> cases l.raw <;> rfl
  simp only [recordEdge, line, records]
  cases yes : recorded with
  | false =>
    have same : u = s.lineTaken n := by simp only [u, yes, Bool.or_false]; rfl
    simp [same]
  | true =>
    have set : (s.lineTaken n).setInput n { l with debounced := some l.raw, timer := none, event := true } = u := by
      simp only [u, yes, Bool.or_true]
      exact setInput_setInput ..
    simp only [if_true, set, Bool.true_and]
    rfl

/-! ### A head about to decide -/

/-- The level at which a line stands once line `n` is established at its raw level. -/
def State.standing (s : State) (n m : Nat) : Bool := if n = m then (s.input n).raw else s.active m

/-- `v` is `s` with line `n` established, head `h` having come to `d` with its decision, but not taken its case (R25,
R164). -/
structure State.Deciding (n : Nat) (h : HeadId) (d : RestartDecision) (s v : State) : Prop where
  head    : v.head h = { s.head h with decision := d }
  others  : ∀ k, k ≠ h → v.head k = s.head k
  active  : ∀ m, v.active m = s.standing n m
  state   : (v.channel h).state = (s.channel h).state
  rack    : v.rack = s.rack
  advices : v.advices = s.advices
  log     : v.log = s.log
  lift    : v.lift = s.lift
  release : v.release = s.release
  service : v.service = s.service
  link    : v.link = s.link
  inputs  : v.inputs = (s.lineTaken n).inputs
  outputs : v.outputs.length = s.outputs.length

theorem State.Deciding.updateHead {d d' : RestartDecision} (a : s.Deciding n h d v) {f : Head → Head}
    (f_eq : ∀ hd, f hd = { hd with decision := d' }) : s.Deciding n h d' (updateHead h f v) where
  head := by rw [updateHead_head, f_eq, a.head]
  others k ne := by rw [updateHead_head_of_ne _ _ ne, a.others k ne]
  active m := by simp [a.active]
  state := by rw [updateHead_channel, a.state]
  rack := by simp [a.rack]
  advices := by simp [a.advices]
  log := by simp [a.log]
  lift := by simp [a.lift]
  release := by simp [a.release]
  service := by simp [a.service]
  link := by simp [a.link]
  inputs := by simp [a.inputs]
  outputs := by simp [a.outputs]

theorem ownerHead_of_line (own : n / 4 = headIndex h) (lt : n < 12) : ownerHead n = some h := by
  rw [ownerHead, if_pos lt, own]
  cases h <;> rfl

theorem cradleLine_of_role (own : n / 4 = headIndex h) : n = cradleLine h ↔ lineRole n = 2 := by
  simp only [cradleLine, lineRole, ← own]
  omega

theorem lineTaken_active_eq (sized : s.Sized) (lt : n < 16) (m : Nat) : (s.lineTaken n).active m = s.standing n m := by
  unfold State.standing
  split
  · next same => rw [← same]; exact State.lineTaken_active sized lt
  · next ne => exact State.lineTaken_active_of_ne (Ne.symm ne)

/-- The line established and the channel told, the head has not taken notice yet (R164). -/
theorem channelSeesCradle_deciding (sized : s.Sized) (lt : n < 16) (role : Nat) (a : Bool) :
    s.Deciding n h (s.head h).decision (channelSeesCradle h role a (s.lineTaken n)) := by
  have active := lineTaken_active_eq sized lt
  unfold channelSeesCradle
  split
  · constructor <;> simp [Channel.cradleSeen_state, active]
    all_goals simp [State.lineTaken]
  · exact ⟨rfl, fun _ _ => rfl, active, rfl, rfl, rfl, rfl, rfl, rfl, rfl, rfl, rfl, rfl⟩

/-- The decision that the last line of a head brings, and the end of the restart with the last head's (R25). -/
def State.decide (v : State) (h : HeadId) (level : Bool) : State :=
  let r := restartCase h level v
  if HeadId.all.any fun k => (r.head k).starting then r else restartEnd r

/-- The last line of a head makes all four established (R164). -/
theorem linesEstablished_of_last (sized : s.Sized) (own : n / 4 = headIndex h)
    (rest : ∀ m < 16, m / 4 = headIndex h → m ≠ n → (s.input m).debounced.isSome = true)
    (same : u.inputs = (s.lineTaken n).inputs) : u.linesEstablished h = true := by
  have line (m : Nat) (lt' : m < 16) (mine : m / 4 = headIndex h) : (u.input m).debounced.isSome = true := by
    rw [State.input, same, ← State.input]
    rcases eq_or_ne m n with rfl | ne
    · rw [State.lineTaken, State.setInput_input _ _ (by rw [sized.inputs]; exact lt')]
      rfl
    · rw [State.lineTaken, State.setInput_input_of_ne _ _ ne]
      exact rest m lt' mine ne
  have small : headIndex h < 3 := by cases h <;> decide
  simp only [State.linesEstablished, List.all_cons, List.all_nil, intakeShutLine, chuteBeamLine, cradleLine, gateShutLine]
  rw [line _ (by omega) (by omega), line _ (by omega) (by omega), line _ (by omega) (by omega), line _ (by omega) (by omega)]
  rfl

section
variable {first : Option Bool} {level : Bool} (sized : s.Sized) (waits : (s.head h).decision = .awaited first)
  (own : n / 4 = headIndex h) (lt : n < 12)
  (known : if n = cradleLine h then level = (s.input n).raw else first = some level)
include sized waits own lt known

/-- The head has kept, or keeps, the first level of its cradle line (R25, R164). -/
theorem signalFirstLevel_deciding : s.Deciding n h (.awaited (some level)) (signalFirstLevel n (s.input n).raw (s.lineTaken n)) := by
  have seen := channelSeesCradle_deciding (h := h) sized (n := n) (by omega) (lineRole n) (s.input n).raw
  have told : signalFirstLevel n (s.input n).raw (s.lineTaken n) =
      headFirstLevel h (lineRole n) (s.input n).raw (channelSeesCradle h (lineRole n) (s.input n).raw (s.lineTaken n)) := by
    simp only [signalFirstLevel, ownerHead_of_line own lt]
  have decision : ((channelSeesCradle h (lineRole n) (s.input n).raw (s.lineTaken n)).head h).decision = .awaited first := by
    rw [seen.head]; exact waits
  rw [told]
  simp only [headFirstLevel, decision]
  split
  · next role =>
    rw [if_pos ((cradleLine_of_role own).2 role)] at known
    exact seen.updateHead fun hd => by rw [known]
  · next role =>
    rw [if_neg fun is => role ((cradleLine_of_role own).1 is)] at known
    rwa [waits, known] at seen

/-- The last line of a head established, the head takes its case (R25, R164). -/
theorem establish_decides (rest : ∀ m < 16, m / 4 = headIndex h → m ≠ n → (s.input m).debounced.isSome = true) : ∃ v, s.Deciding n h .made v ∧ establish n s = v.decide h level := by
  have kept := signalFirstLevel_deciding sized waits own lt known
  refine ⟨_, kept.updateHead (d' := .made) (f := fun hd => { hd with decision := .made }) fun _ => rfl, ?_⟩
  have ready := linesEstablished_of_last sized own rest kept.inputs
  have made : establish n s = decideIfReady h (signalFirstLevel n (s.input n).raw (s.lineTaken n)) := by
    simp only [establish, ownerHead_of_line own lt]
    rfl
  have decision : ((signalFirstLevel n (s.input n).raw (s.lineTaken n)).head h).decision = .awaited (some level) := by
    rw [kept.head]
  rw [made]
  simp only [decideIfReady, decision, ready, if_true, Option.getD_some, State.decide]
end

/-! ### The cases of the decision -/

/-- Between `s` and `t` head `h` has worked alone, and no record, bin or advice, nor the lift, has changed. -/
structure State.Alone (h : HeadId) (s t : State) : Prop where
  others  : ∀ k, k ≠ h → t.head k = s.head k
  lift    : t.lift = s.lift
  rack    : t.rack = s.rack
  advices : t.advices = s.advices

namespace State.Alone

theorem trans (a : s.Alone h t) (b : t.Alone h u) : s.Alone h u :=
  ⟨fun k ne => (b.others k ne).trans (a.others k ne), b.lift.trans a.lift, b.rack.trans a.rack, b.advices.trans a.advices⟩

theorem updateHead (h : HeadId) (f : Head → Head) (s : State) : s.Alone h (updateHead h f s) :=
  ⟨fun _ ne => updateHead_head_of_ne _ _ ne, by simp, by simp, by simp⟩

theorem moveHead (h : HeadId) (f : Head → Head) (s : State) : s.Alone h (moveHead h f s) :=
  ⟨fun _ ne => moveHead_head_of_ne _ _ ne, by simp, by simp, by simp⟩

theorem closeHead (h : HeadId) (cause : ClosedCause) (s : State) : s.Alone h (closeHead h cause s) :=
  ⟨fun _ ne => closeHead_head_of_ne _ _ ne, by simp, by simp, by simp⟩

theorem enterFault (h : HeadId) (cause : HeadFaultCause) (s : State) : s.Alone h (enterFault h cause s) :=
  ⟨fun _ ne => enterFault_head_of_ne _ _ ne, by simp, by simp, by simp⟩

theorem endUnwantedWarmUp (h : HeadId) (s : State) : s.Alone h (endUnwantedWarmUp h s) :=
  ⟨fun _ _ => by simp, by simp, by simp, by simp⟩

end State.Alone

/-- The head whose bag has gone to staging (R16). -/
def Head.joined (seq : Nat) (hd : Head) : Head := { hd with staging := hd.staging ++ [seq], cradleRecord := none }

/-- A head that enters HOLD discharges at once where staging has room (R18). -/
theorem enterHold_eq (h : HeadId) (s : State) : enterHold h s =
    if (s.head h).staging.length < 2 then openGate h (moveHead h Head.holding s) else moveHead h Head.holding s := by
  have room : ((moveHead h Head.holding s).head h).staging = (s.head h).staging := by rw [moveHead_head]; rfl
  show (if ((moveHead h Head.holding s).head h).staging.length < 2 then openGate h (moveHead h Head.holding s)
    else moveHead h Head.holding s) = _
  rw [room]

theorem enterHold_of_full (full : 2 ≤ (s.head h).staging.length) : enterHold h s = moveHead h Head.holding s := by
  rw [enterHold_eq, if_neg (by omega)]

/-- HOLD with room in staging and the cradle found clear: the bag has gone, and the discharge waits for the gate, or ends
(R16, R18). -/
theorem enterHold_of_gone {seq : Nat} (record : (s.head h).cradleRecord = some seq) (room : (s.head h).staging.length < 2)
    (clear : s.cradle h = false) :
    let x := Machine.updateHead h (Head.joined seq) (moveHead h Head.opening (moveHead h Head.holding s))
    enterHold h s = if s.active (gateShutLine h) then endDischarge h x else x := by
  intro x
  let y := moveHead h Head.opening (moveHead h Head.holding s)
  have cleared : openGate h (moveHead h Head.holding s) = cradleCleared h y := if_neg (by
    rw [show (moveHead h _ _).cradle h = s.cradle h by simp, clear]; decide)
  have held : (y.head h).cradleRecord = some seq := by rw [moveHead_head, moveHead_head]; exact record
  have line : x.active (gateShutLine h) = s.active (gateShutLine h) := by simp [x]
  rw [enterHold_eq, if_pos room, cleared, cradleCleared]
  simp only [held]
  rw [← line]
  rfl

theorem restartCase_of_record {level : Bool} (record : (s.head h).cradleRecord.isSome = true) : restartCase h level s =
    enterHold h (updateHead h (fun hd => { hd with closePending := some .restart }) s) := if_pos record

theorem restartCase_of_clear (record : (s.head h).cradleRecord = none) : restartCase h false s =
    endUnwantedWarmUp h (moveHead h (fun hd => { hd with state := .closed, closePending := none }) s) := by
  simp [restartCase, record]

theorem restartCase_of_day (record : (s.head h).cradleRecord = none) (day : s.mode = .day) :
    restartCase h true s = enterFault h .unexpectedCradle s := by simp [restartCase, record, day]

theorem restartCase_of_full (record : (s.head h).cradleRecord = none) (full : s.logFree = 0) :
    restartCase h true s = enterFault h .unexpectedCradle s := by
  simp [restartCase, record, (takeReservation_eq_none s h).mpr full]

theorem restartCase_of_taken (record : (s.head h).cradleRecord = none) (night : s.mode ≠ .day)
    (taken : takeReservation h s = some u) : restartCase h true s =
      enterRecover h (updateHead h (fun hd => { hd with closePending := some .restart }) u) := by
  simp [restartCase, record, night, taken]

/-- While another head waits the case is all (R25). -/
theorem decide_of_others {level : Bool} (alone : v.Alone h (restartCase h level v))
    (others : ∃ k, k ≠ h ∧ (v.head k).starting = true) : v.decide h level = restartCase h level v := by
  obtain ⟨k, ne, waits⟩ := others
  refine if_pos (List.any_eq_true.2 ⟨k, by cases k <;> decide, ?_⟩)
  rw [alone.others k ne]
  exact waits

/-- The last head's case ends the restart (R25). -/
theorem decide_of_last {level : Bool} (alone : v.Alone h (restartCase h level v))
    (made : ((restartCase h level v).head h).decision = .made) (last : ¬∃ k, k ≠ h ∧ (v.head k).starting = true) :
    v.decide h level = restartEnd (restartCase h level v) := by
  refine if_neg fun any => ?_
  obtain ⟨k, -, waits⟩ := List.any_eq_true.1 any
  rcases eq_or_ne k h with rfl | ne
  · rw [Head.starting, made] at waits
    exact absurd waits nofun
  · rw [alone.others k ne] at waits
    exact last ⟨k, ne, waits⟩

/-- What HOLD at the restart decision comes to, by staging, cradle and gate (R16, R17, R18, R25). -/
theorem enterHold_spec {seq : Nat} {c : CloseCause} (record : (s.head h).cradleRecord = some seq)
    (pending : (s.head h).closePending = some c) :
    let t := enterHold h s
    s.Alone h t ∧ t.log = s.log ∧
      (2 ≤ (s.head h).staging.length → t.head h = (s.head h).holding) ∧
      ((s.head h).staging.length < 2 → s.cradle h = true → t.head h = (s.head h).holding.opening) ∧
      ((s.head h).staging.length < 2 → s.cradle h = false → s.active (gateShutLine h) = false →
        t.head h = (s.head h).holding.opening.joined seq) ∧
      ((s.head h).staging.length < 2 → s.cradle h = false → s.active (gateShutLine h) = true →
        t.head h = { ((s.head h).holding.opening.joined seq).discharged with state := .closed, closePending := none }) := by
  have held := State.Alone.moveHead h Head.holding s
  have opened := held.trans (.moveHead h Head.opening _)
  intro t
  rcases Nat.lt_or_ge (s.head h).staging.length 2 with room | full
  · cases cradle : s.cradle h with
    | true =>
      have work : t = moveHead h Head.opening (moveHead h Head.holding s) := (enterHold_of_cradle cradle).trans (if_pos room)
      rw [work]
      exact ⟨opened, by simp, fun full => absurd room (by omega), fun _ _ => by rw [moveHead_head, moveHead_head],
        fun _ => nofun, fun _ => nofun⟩
    | false =>
      have joined := opened.trans (.updateHead h (Head.joined seq) _)
      have work : t = _ := enterHold_of_gone record room cradle
      cases gate : s.active (gateShutLine h) with
      | false =>
        rw [gate, if_neg (by decide)] at work
        rw [work]
        exact ⟨joined, by simp, fun full => absurd room (by omega), fun _ => nofun,
          fun _ _ _ => by rw [updateHead_head, moveHead_head, moveHead_head], fun _ _ => nofun⟩
      | true =>
        rw [gate, if_pos rfl, endDischarge_of_pending (cause := c) (by
          rw [updateHead_head, moveHead_head, moveHead_head]; exact pending)] at work
        rw [work]
        exact ⟨(joined.trans (.updateHead h Head.discharged _)).trans (.closeHead ..), by simp,
          fun full => absurd room (by omega), fun _ => nofun, fun _ _ => nofun,
          fun _ _ _ => by rw [closeHead_head, updateHead_head, updateHead_head, moveHead_head, moveHead_head]⟩
  · have work : t = moveHead h Head.holding s := enterHold_of_full full
    rw [work]
    exact ⟨held, by simp, fun _ => by rw [moveHead_head], fun room => absurd room (by omega),
      fun room => absurd room (by omega), fun room => absurd room (by omega)⟩

/-- A reservation taken touches no other head, and not the lift, the rack or the advices (R93). -/
theorem takeReservation_alone (taken : takeReservation h s = some t) : s.Alone h t := by
  obtain ⟨_, _, others, _⟩ := takeReservation_spec s taken
  obtain ⟨_, _, advices, _, rack, lift, _⟩ := takeReservation_frame s taken
  exact ⟨others, lift, rack, advices⟩

theorem enterRecover_alone_of_off (off : (s.channel h).state = .off) : s.Alone h (enterRecover h s) := by
  rw [enterRecover_of_off off]
  refine (State.Alone.moveHead h Head.recovering s).trans ⟨fun k _ => by simp, by simp, by simp, by simp⟩

/-! ### The end of the restart actions -/

theorem judgeLowWater_log (s : State) :
    (judgeLowWater s).log = { s.log with lowFlag := decide (s.logFree ≤ s.log.lowWater) } := by
  have same : (lowWaterRise s).logFree = s.logFree := by simp
  rw [judgeLowWater, lowWaterFall_log_eq, same, lowWaterRise_log_eq]
  cases s.log.lowFlag <;> simp

theorem judgeLowWater_sends (clear : s.log.lowFlag = false) (low : s.logFree ≤ s.log.lowWater)
    (room : s.link.branch.notices.length < 32) :
    Notice.logLow s.logFree s.log.lowWater ∈ (judgeLowWater s).link.branch.notices := by
  have stays : lowWaterRise s = s := if_neg (by omega)
  rw [judgeLowWater, stays, lowWaterFall, if_pos ⟨low, clear⟩]
  exact (State.Raises.refl ({ s with log := { s.log with lowFlag := true } } : State)).mem_notify rfl (by exact room)

/-- With no bag waiting the end of the restart is the low-water flag and the drain (R25, R102, R142). -/
theorem restartEnd_of_empty (empty : ∀ k, (s.head k).staging = []) : restartEnd s = evaluateDrain (judgeLowWater s) := by
  rw [restartEnd, arbitrate_of_empty _ fun k => by
    rw [show (judgeLowWater s).head k = s.head k by simp [judgeLowWater]]; exact empty k]

/-- The drain condition of closed heads without bags (R142). -/
theorem evaluateDrain_of_drained {source : ModeSource} (pending : s.release.mode = .dayPending source)
    (closed : ∀ k, (s.head k).state = .closed) (empty : ∀ k, (s.head k).staging = []) (idle : s.lift.state = .idle) :
    (evaluateDrain s).release.mode = .day := by
  have drained : drainCondition s = true := by simp [drainCondition, headDrained, closed, empty, idle]
  simp only [evaluateDrain, pending, drained, if_true]
  simp [changeMode]

/-- A mode of DAY stays to the end of the step (R142). -/
theorem settled_release_of_day {f : State → State} (quiet : s.Undisturbed (f s)) (day : (f s).release.mode = .day) :
    (pump (settled f s)).release.mode = .day := by
  have mode : (f s).mode = .day := by rw [State.mode, day]; rfl
  rw [settled, withArbitration, arbitrateIfFilled_of_undisturbed quiet,
    settleDrain_of_not_pending _ _ (by rw [mode]; decide), pump_release, day]

/-- A case of the decision leaves what its statement leaves. -/
theorem State.Deciding.frame {n : Nat} {r : State} (deciding : s.Deciding n h .made v) (alone : v.Alone h r)
    (settles : r.Settles t) :
    (∀ k, k ≠ h → t.head k = s.head k) ∧ t.lift = s.lift ∧ t.rack = s.rack ∧ t.advices = s.advices :=
  ⟨fun k ne => by rw [settles.head, alone.others k ne, deciding.others k ne],
    by rw [settles.lift, alone.lift, deciding.lift], by rw [settles.rack, alone.rack, deciding.rack],
    by rw [settles.advices, alone.advices, deciding.advices]⟩

/-- Where a case leaves its head's staging queue, or the lift is not IDLE, no arbitration follows it. -/
theorem State.Deciding.undisturbed {n : Nat} {r : State} (deciding : s.Deciding n h .made v) (alone : v.Alone h r)
    (quiet : (r.head h).staging = (s.head h).staging ∨ s.lift.state ≠ .idle) : s.Undisturbed r := by
  rcases quiet with same | busy
  · refine .inl fun k => ?_
    rcases eq_or_ne k h with rfl | ne
    · exact same
    · rw [alone.others k ne, deciding.others k ne]
  · exact .inr (by rw [alone.lift, deciding.lift]; exact busy)

/-- The raw levels and the lines without an owner that acts (R163, R164, R166). -/
theorem lines_of_their_own (s : State) (n : Fin 16) (sized : s.Sized) :
    (∀ a, (s.input n).raw = a → exec (.rawLevelChange n a) s = .next (pump s)) ∧
    (∀ a d, (s.input n).debounced = some d → (s.input n).raw ≠ a → 0 < (s.input n).debounce →
      exec (.rawLevelChange n a) s = .next (pump (s.setInput n
        { (s.input n).withRaw a with timer := if a = d then none else some (s.input n).debounce }))) := by
  refine ⟨fun a same => ?_, fun a d established change slow => ?_⟩
  · have nothing : rawLevelChange n a s = s := if_pos same
    refine (congrArg done (settled_of_lines ?_ ?_ ?_)).trans (by rw [nothing]; rfl)
    all_goals simp [nothing]
  · have work := rawLevelChange_of_established sized n.isLt established change slow
    refine (congrArg done (settled_of_lines ?_ ?_ fun h => ?_)).trans (by rw [work]; rfl)
    · rw [work]; rfl
    · rw [work]; rfl
    · rw [work]
      rcases eq_or_ne (cradleLine h) n.val with same | ne
      · rw [same, State.setInput_input _ _ (by rw [sized.inputs]; exact n.isLt)]
        rfl
      · rw [State.setInput_input_of_ne _ _ ne]

/-- A line that no head and not TAMPER owns is established, or takes its edge, and is recorded (R163, R164, R166). -/
theorem unowned_lines (s : State) (n : Fin 16) (sized : s.Sized) (which : n.val = 12 ∨ n.val = 14 ∨ n.val = 15)
    (running : (s.input n).timer.isSome = true) :
    let l := s.input n
    (l.debounced = none → exec (.debounceTimerExpiry n) s =
      .next (pump (s.setInput n { l with debounced := some l.raw, timer := none }))) ∧
    (l.debounced = some (!l.raw) →
      let recorded : Bool := l.report = .both ∨ (l.report = .activate ∧ l.raw = true) ∨
        (l.report = .deactivate ∧ l.raw = false)
      let u := s.setInput n { l with debounced := some l.raw, timer := none, event := l.event || recorded }
      exec (.debounceTimerExpiry n) s =
        .next (pump (if recorded && l.notify then notify (.lineEvent n l.raw s.clock) u else u))) := by
  intro l
  have owner : ownerHead n.val = none := if_neg (by omega)
  have plain : n.val ≠ tamperLine := by simp only [tamperLine]; omega
  have other (h : HeadId) : cradleLine h ≠ n.val := by cases h <;> simp only [cradleLine, headIndex] <;> omega
  refine ⟨fun none => ?_, fun edge => ?_⟩
  · have work : debounceExpired n s = s.lineTaken n := by
      rw [debounceExpired_of_unestablished running none, establish_of_unowned owner plain]
    refine (congrArg done (settled_of_lines ?_ ?_ fun h => ?_)).trans (by rw [work]; rfl)
    · rw [work]; rfl
    · rw [work]; rfl
    · rw [work, State.lineTaken, State.setInput_input_of_ne _ _ (other h)]
  · intro recorded u
    have work : debounceExpired n s = if recorded && l.notify then notify (.lineEvent n l.raw s.clock) u else u :=
      (debounceExpired_of_unowned owner plain running edge).trans (recordEdge_lineTaken sized n.isLt)
    have kept : (debounceExpired n s).heads = s.heads ∧ (debounceExpired n s).lift = s.lift ∧
        (debounceExpired n s).inputs = u.inputs := by
      rw [work]
      split <;> simp [u]
    obtain ⟨heads, lift, inputs⟩ := kept
    refine (congrArg done (settled_of_lines heads lift fun h => ?_)).trans (by rw [work]; rfl)
    rw [State.input, inputs, ← State.input, State.setInput_input_of_ne _ _ (other h)]

/-- Settles O5: a line's own work is `rawChanged` and `debounceExpired`; the last line of a head is `State.decide`. -/
theorem linesAreDebounced : Obligations.LinesAreDebounced := by
  intro s n sized
  refine ⟨(lines_of_their_own s n sized).1, (lines_of_their_own s n sized).2, unowned_lines s n sized, ?_⟩
  intro h first level waits _ own lt fresh running rest known hd latched standing gone others decided
  obtain ⟨v, deciding, establishes⟩ := establish_decides sized waits own lt known rest
  have expires : debounceExpired n s = v.decide h level :=
    (debounceExpired_of_unestablished running fresh).trans establishes
  have step {r : State} (work : v.decide h level = r) (quiet : s.Undisturbed r) :
      ∃ t, exec (.debounceTimerExpiry n) s = .next t ∧ r.Settles t := by
    obtain ⟨t, stepped, settles⟩ := done_settled (debounceExpired n) (s := s) (by rw [expires, work]; exact quiet)
    exact ⟨t, stepped, by rwa [expires, work] at settles⟩
  have waiting (more : others) : ∃ k, k ≠ h ∧ (v.head k).starting = true := by
    obtain ⟨k, ne, is⟩ := more
    exact ⟨k, ne, by rw [deciding.others k ne]; exact is⟩
  have record : (v.head h).cradleRecord = hd.cradleRecord := by rw [deciding.head]
  have mode : v.mode = s.mode := by rw [State.mode, deciding.release]; rfl
  have places : v.logFree = s.logFree := by rw [State.logFree, deciding.log]; rfl
  refine ⟨fun more seq holds busy => ?_, fun more clear up night free off _ => ?_, fun more clear up full => ?_,
    fun more clear down => ?_, fun last clear down empty => ?_⟩
  · let w := updateHead h (fun hd => { hd with closePending := some .restart }) v
    have head : w.head h = { hd with decision := .made, closePending := some .restart } := by
      rw [updateHead_head, deciding.head]
    have line (m : Nat) : w.active m = standing m :=
      (show w.active m = v.active m by simp [w]).trans (deciding.active m)
    obtain ⟨alone', log, full, kept, gone', ended⟩ := enterHold_spec (s := w) (h := h) (seq := seq) (c := .restart)
      (by rw [head]; exact holds) (by rw [head])
    have work : restartCase h level v = enterHold h w := restartCase_of_record (by rw [record, holds]; rfl)
    have alone := (State.Alone.updateHead h _ v).trans alone'
    rw [head] at full kept gone' ended
    have whole := (decide_of_others (work ▸ alone) (waiting more)).trans work
    obtain ⟨t, stepped, settles⟩ := step whole (deciding.undisturbed alone (by
      rcases Nat.lt_or_ge hd.staging.length 2 with room | none
      · cases cradle : standing (cradleLine h) with
        | true => exact .inl (by rw [kept room ((line _).trans cradle)]; rfl)
        | false => exact .inr (busy ⟨room, cradle⟩)
      · exact .inl (by rw [full none]; rfl)))
    refine ⟨t, stepped, deciding.frame alone settles, ?_, fun none => ?_, fun room cradle => ?_,
      fun ⟨room, cradle⟩ gate => ?_, fun ⟨room, cradle⟩ gate => ?_⟩
    · rw [settles.log, log]
      simp [w, deciding.log]
    · rw [settles.head, full none]; rfl
    · rw [settles.head, kept room ((line _).trans cradle)]; rfl
    · rw [settles.head, gone' room ((line _).trans cradle) ((line _).trans gate)]; rfl
    · rw [settles.head, ended room ((line _).trans cradle) ((line _).trans gate)]; rfl
  · subst up
    obtain ⟨u, taken⟩ := exists_takeReservation (s := v) h (by omega)
    let w := updateHead h (fun hd => { hd with closePending := some .restart }) u
    have channel : (w.channel h).state = .off := by
      obtain ⟨channels, _⟩ := takeReservation_frame v taken
      rw [updateHead_channel, State.channel, channels, ← State.channel, deciding.state, off]
    have work : restartCase h true v = enterRecover h w :=
      restartCase_of_taken (record.trans clear) (by rw [mode]; exact night) taken
    have alone : v.Alone h (enterRecover h w) :=
      ((takeReservation_alone taken).trans (.updateHead ..)).trans (enterRecover_alone_of_off channel)
    have head : (enterRecover h w).head h = ({ hd with
        decision := .made, reservation := true, closePending := some .restart } : Head).recovering := by
      rw [(enterRecover_frame_of_off channel).1, updateHead_head, (takeReservation_spec v taken).2.1, deciding.head]
    have whole := (decide_of_others (work ▸ alone) (waiting more)).trans work
    obtain ⟨t, stepped, settles⟩ := step whole (deciding.undisturbed alone (.inl (by rw [head]; rfl)))
    refine ⟨t, stepped, deciding.frame alone settles, by rw [settles.head, head]; rfl, ?_, ?_⟩
    · rw [settles.channel]
      exact enterRecover_channel_of_off channel
    · rw [settles.log, (enterRecover_frame_of_off channel).2.2]
      simp only [w, updateHead_frame]
      rw [takeReservation_log taken, deciding.log, places]
  · subst up
    have work : restartCase h true v = enterFault h .unexpectedCradle v := by
      rcases full with day | none
      · exact restartCase_of_day (record.trans clear) (mode.trans day)
      · exact restartCase_of_full (record.trans clear) (places.trans none)
    have alone : v.Alone h (enterFault h .unexpectedCradle v) := .enterFault ..
    have whole := (decide_of_others (work ▸ alone) (waiting more)).trans work
    obtain ⟨t, stepped, settles⟩ := step whole (deciding.undisturbed alone (.inl (by rw [enterFault_staging, deciding.head])))
    refine ⟨t, stepped, deciding.frame alone settles, by rw [settles.log]; simp [deciding.log], ?_, ?_⟩
    · rw [settles.head, enterFault_head, deciding.head]
    · rw [settles.alarm]; exact enterFault_latched ..
  all_goals
    subst down
    let f : Head → Head := fun hd => { hd with state := .closed, closePending := none }
    let r := endUnwantedWarmUp h (moveHead h f v)
    have work : restartCase h false v = r := restartCase_of_clear (record.trans clear)
    have alone : v.Alone h r := (State.Alone.moveHead h f v).trans (.endUnwantedWarmUp ..)
    have head : r.head h = { hd with decision := .made, state := .closed, closePending := none } := by
      simp only [r, endUnwantedWarmUp_frame, moveHead_head, deciding.head, f, hd]
  · have whole := (decide_of_others (work ▸ alone) (waiting more)).trans work
    obtain ⟨t, stepped, settles⟩ := step whole (deciding.undisturbed alone (.inl (by rw [head])))
    exact ⟨t, stepped, deciding.frame alone settles, by rw [settles.log]; simp [r, deciding.log], by rw [settles.head, head]⟩
  · let w := evaluateDrain (judgeLowWater r)
    have bags (k : HeadId) : (r.head k).staging = [] := by
      rcases eq_or_ne k h with rfl | ne
      · rw [head]; exact empty k
      · rw [alone.others k ne, deciding.others k ne]; exact empty k
    have whole : v.decide h false = w := by
      rw [decide_of_last (work ▸ alone) (by rw [work, head]) fun ⟨k, ne, is⟩ => last ⟨k, ne, by
        rw [← deciding.others k ne]; exact is⟩, work]
      exact restartEnd_of_empty bags
    have ends : r.Alone h w := ⟨fun k _ => by simp [w, judgeLowWater], by simp [w, judgeLowWater], by simp [w, judgeLowWater],
      by simp [w, judgeLowWater]⟩
    have same : w.head h = r.head h := by simp [w, judgeLowWater]
    have quiet := deciding.undisturbed (alone.trans ends) (.inl (by rw [same, head]))
    have log : r.log = s.log := by simp [r, deciding.log]
    have free : r.logFree = s.logFree := by rw [State.logFree, log]; rfl
    obtain ⟨t, stepped, settles⟩ := step whole quiet
    refine ⟨t, stepped, deciding.frame (alone.trans ends) settles, by rw [settles.head, same, head], ?_, fun flag low room => ?_,
      fun source pending closed idle => ?_⟩
    · rw [settles.log]
      simp only [w, evaluateDrain_frame]
      rw [judgeLowWater_log, log, free]
    · have raises : v.Raises 0 r := ((State.Raises.refl v).moveHead h f).endUnwantedWarmUp h
      have few := raises.branch
      rw [deciding.link] at few
      have sent := judgeLowWater_sends (s := r) (by rw [log]; exact flag) (by rw [free, log]; exact low) (by omega)
      rw [free, log] at sent
      exact settles.notices .branch _ (State.Settles.evaluateDrain _ |>.notices .branch _ sent)
    · have shut (k : HeadId) : (r.head k).state = .closed := by
        rcases eq_or_ne k h with rfl | ne
        · rw [head]
        · rw [alone.others k ne, deciding.others k ne]
          exact closed k ne
      have awaits : (judgeLowWater r).release.mode = .dayPending source := by
        simp only [judgeLowWater, lowWaterFall_frame, lowWaterRise_frame, r, endUnwantedWarmUp_frame, moveHead_frame]
        rw [deciding.release]
        exact pending
      have day : w.release.mode = .day :=
        evaluateDrain_of_drained awaits (by simpa [judgeLowWater] using shut) (by simpa [judgeLowWater] using bags)
          (by rw [(show (judgeLowWater r).lift = r.lift by simp [judgeLowWater]), alone.lift, deciding.lift]; exact idle)
      have work := expires.trans whole
      rw [← Host.Outcome.next.inj ((show exec _ s = done (settled (debounceExpired n) s) from rfl).symm.trans stepped)]
      exact settled_release_of_day (by rw [work]; exact quiet) (by rw [work]; exact day)

end Sys2Proof.Machine
end

section
/-! The accounts of the part: what its heads may hold, and the books they agree with (R14, R85, R91 to R93, R138). Every
operation here leaves the books as they are. -/

namespace Sys2Proof.Machine

/-! ### A sound head -/

/-- What the laws ask of one head: its reservation and cradle record agree with its state (R93), its staging queue has room
(R14), and in DAY it is at rest with no bag in hand, but for one that awaits its restart decision (R138,
notes/assumptions/10). -/
structure Head.Sound (day : Prop) (hd : Head) : Prop where
  reserving : hd.Reserving
  staged    : hd.Staged
  rest      : day → (hd.state = .closed ∨ hd.state.isFault = true) ∧ hd.staging = [] ∧
    (hd.cradleRecord = none ∨ hd.starting = true)

/-- A head with nothing on its cradle and no reservation. -/
structure Head.Vacant (day : Prop) (hd : Head) : Prop where
  unreserved : hd.reservation = false
  noRecord   : hd.cradleRecord = none
  two        : hd.staging.length ≤ 2
  rest       : day → hd.staging = []

/-- A head at work, outside DAY: its restart decision is made. -/
structure Head.Working (day : Prop) (hd : Head) : Prop where
  two   : hd.staging.length ≤ 2
  awake : hd.starting = false
  night : ¬day

variable {day : Prop} {hd v : Head}

namespace Head.Sound

/-- A head that has left CLOSED has made its restart decision (R164). -/
theorem awake (hs : hd.Sound day) (state : hd.state ≠ .closed) : hd.starting = false :=
  Bool.eq_false_iff.2 fun starting => state (hs.reserving.awaiting starting)

/-- A head that is neither CLOSED nor in FAULT shows that it is not DAY (R138). -/
theorem working (hs : hd.Sound day) (state : hd.state ≠ .closed) (fault : hd.state.isFault = false) : hd.Working day where
  two := hs.staged.two
  awake := hs.awake state
  night isDay := by
    obtain ⟨closed | faulted, -⟩ := hs.rest isDay
    · exact state closed
    · exact Bool.noConfusion (fault.symm.trans faulted)

/-- A reservation is held in no state but those that take a bag in and FAULT (R93). -/
theorem unreserved (hs : hd.Sound day) (admits : hd.state.admitting = false) (fault : hd.state.isFault = false) :
    hd.reservation = false :=
  Bool.eq_false_iff.2 fun held => by
    obtain admitting | faulted := hs.reserving.only held
    · exact Bool.noConfusion (admits.symm.trans admitting)
    · exact Bool.noConfusion (fault.symm.trans faulted)

/-- A head that admits a bag has no cradle record yet (R12). -/
theorem noRecord (hs : hd.Sound day) (admits : hd.state.admitting = true) : hd.cradleRecord = none :=
  hs.reserving.noRecord (hs.reserving.held admits)

theorem emptied (hs : hd.Sound day) (isDay : day) : hd.staging = [] := by
  obtain ⟨-, empty, -⟩ := hs.rest isDay
  exact empty

/-- Only the state, the reservation, the bags and the decision count. -/
theorem congr (hs : hd.Sound day) (state : v.state = hd.state) (reservation : v.reservation = hd.reservation)
    (record : v.cradleRecord = hd.cradleRecord) (staging : v.staging = hd.staging) (decision : v.starting = hd.starting) :
    v.Sound day where
  reserving := by
    obtain ⟨held, only, noRecord, warming, closed, awaiting⟩ := hs.reserving
    constructor <;> simpa only [state, reservation, record, decision]
  staged := ⟨staging ▸ hs.staged.two, by rw [state, record, staging]; exact hs.staged.room⟩
  rest := by rw [state, record, staging, decision]; exact hs.rest

/-- A head with nothing on its cradle that is CLOSED. -/
theorem of_closed (vacant : hd.Vacant day) (state : hd.state = .closed) : hd.Sound day where
  reserving := by constructor <;> simp [state, vacant.unreserved, vacant.noRecord, HeadState.admitting]
  staged := ⟨vacant.two, by simp [state]⟩
  rest isDay := ⟨.inl state, vacant.rest isDay, .inl vacant.noRecord⟩

theorem of_warming (vacant : hd.Vacant day) (work : hd.Working day) (state : hd.state = .warming) : hd.Sound day where
  reserving := by constructor <;> simp [state, vacant.unreserved, vacant.noRecord, work.awake, HeadState.admitting]
  staged := ⟨vacant.two, by simp [state]⟩
  rest isDay := absurd isDay work.night

/-- A head in a state that admits a bag. -/
theorem of_admitting (work : hd.Working day) (state : hd.state.admitting = true) (reservation : hd.reservation = true)
    (record : hd.cradleRecord = none) : hd.Sound day where
  reserving := by constructor <;> simp [state, reservation, record, work.awake]
  staged := ⟨work.two, by simp [record]⟩
  rest isDay := absurd isDay work.night

theorem of_discharge (work : hd.Working day) (state : hd.state = .discharge) (reservation : hd.reservation = false)
    (room : hd.cradleRecord.isSome = true → hd.staging.length < 2) : hd.Sound day where
  reserving := by constructor <;> simp [state, reservation, work.awake, HeadState.admitting]
  staged := ⟨work.two, fun _ => room⟩
  rest isDay := absurd isDay work.night

theorem of_hold (work : hd.Working day) (state : hd.state = .hold) (reservation : hd.reservation = false) :
    hd.Sound day where
  reserving := by constructor <;> simp [state, reservation, work.awake, HeadState.admitting]
  staged := ⟨work.two, by simp [state]⟩
  rest isDay := absurd isDay work.night

theorem of_fault (state : hd.state.isFault = true) (record : hd.reservation = true → hd.cradleRecord = none)
    (awake : hd.starting = false) (two : hd.staging.length ≤ 2) (rest : day → hd.staging = [] ∧ hd.cradleRecord = none) :
    hd.Sound day := by
  cases e : hd.state <;> rw [e] at state <;> cases state
  refine ⟨?_, ⟨two, by simp [e]⟩, fun isDay => ⟨.inr (by rw [e]; rfl), (rest isDay).1, .inl (rest isDay).2⟩⟩
  exact ⟨by simp [e, HeadState.admitting], by simp [e, HeadState.isFault], record, by simp [e], by simp [e], by simp [awake]⟩

/-- A head that admits a bag and gives its reservation back is vacant. -/
theorem vacant_of_admitting (hs : hd.Sound day) (state : hd.state.admitting = true) :
    ({ hd with reservation := false } : Head).Vacant day :=
  ⟨rfl, hs.noRecord state, hs.staged.two, hs.emptied⟩

/-- A head that neither admits a bag nor is in FAULT is vacant but for its cradle record. -/
theorem vacant (hs : hd.Sound day) (admits : hd.state.admitting = false) (fault : hd.state.isFault = false)
    (record : hd.cradleRecord = none) : hd.Vacant day :=
  ⟨hs.unreserved admits fault, record, hs.staged.two, hs.emptied⟩

end Head.Sound

/-! ### The books -/

/-- What the bin table counts of a bin: its count, its mass and its limit (R103, R115). -/
def Bin.figures (b : Bin) : Nat × Nat × Nat := (b.count, b.mass, b.limit)

/-- What the log, the lift and the rack hold of the bags, the bags each head has in hand, which heads await their restart
decision, and the mode. -/
structure Books where
  bags     : HeadId → List Nat
  starting : HeadId → Bool
  records  : List Record
  nextSeq  : Nat
  lift     : LiftState
  bins     : List (Nat × Nat × Nat)
  mode     : ModeName

/-- The books as they stand. -/
def State.books (s : State) : Books :=
  ⟨fun h => (s.head h).bags, fun h => (s.head h).starting, s.log.records, s.log.nextSeq, s.lift.state,
    s.rack.bins.map Bin.figures, s.mode⟩

/-- The accounts: the books keep a `law`, the reservation count is that of the heads, with room in the log (R91, R93), and
every head is sound, `but` one in the middle of its work. -/
structure Accounts (law : Books → Prop) (but : Option HeadId) (heads : PerHead Head) (reservations : Nat) (books : Books) :
    Prop where
  lawful  : law books
  counted : reservations = HeadId.all.countP fun h => (heads.get h).reservation
  room    : books.records.length + reservations ≤ logCapacity
  sound   : ∀ k, but ≠ some k → (heads.get k).Sound (books.mode = .day)

/-- The accounts of a state. -/
def State.Accounts (law : Books → Prop) (but : Option HeadId) (s : State) : Prop :=
  Machine.Accounts law but s.heads s.log.reservations s.books

/-- How many heads hold a reservation, after one head has changed. -/
theorem holders_of_others {p q : PerHead Head} {h : HeadId} (others : ∀ k, k ≠ h → q.get k = p.get k) :
    (HeadId.all.countP fun k => (q.get k).reservation) + (p.get h).reservation.toNat =
      (HeadId.all.countP fun k => (p.get k).reservation) + (q.get h).reservation.toNat := by
  have count (u : PerHead Head) : (HeadId.all.countP fun k => (u.get k).reservation) =
      (u.get .a).reservation.toNat + (u.get .b).reservation.toNat + (u.get .c).reservation.toNat := by
    simp only [HeadId.all, List.countP_cons, List.countP_nil]
    cases (u.get .a).reservation <;> cases (u.get .b).reservation <;> cases (u.get .c).reservation <;> rfl
  rw [count p, count q]
  cases h
  · rw [others .b (by decide), others .c (by decide)]; omega
  · rw [others .a (by decide), others .c (by decide)]; omega
  · rw [others .a (by decide), others .b (by decide)]; omega

theorem mem_allHeads (h : HeadId) : h ∈ HeadId.all := by cases h <;> decide

variable {law law' : Books → Prop} {but : Option HeadId} {s t : State} {h : HeadId}

/-- What every head shows is as it was, where one head has changed and still shows the same. -/
theorem heads_show_congr {α : Type} (f : Head → α) (others : ∀ k, k ≠ h → t.head k = s.head k)
    (mine : f (t.head h) = f (s.head h)) : (fun k => f (t.head k)) = fun k => f (s.head k) :=
  funext fun k => by
    rcases eq_or_ne k h with rfl | ne
    · exact mine
    · rw [others k ne]

namespace State.Accounts

theorem head (fs : s.Accounts law none) (h : HeadId) : (s.head h).Sound (s.mode = .day) := fs.sound h nofun

/-- A reservation held is counted (R93). -/
theorem reserved (fs : s.Accounts law but) (held : (s.head h).reservation = true) : 0 < s.log.reservations := by
  rw [show s.log.reservations = _ from fs.counted]
  exact List.countP_pos_iff.2 ⟨h, mem_allHeads h, held⟩

theorem counted_le (fs : s.Accounts law but) : s.log.records.length + s.log.reservations ≤ logCapacity := fs.room

/-- Work on other blocks leaves the accounts. -/
theorem of_figures (fs : s.Accounts law but) (heads : t.heads = s.heads) (reservations : t.log.reservations = s.log.reservations)
    (books : t.books = s.books) : t.Accounts law but := by
  rw [State.Accounts, heads, reservations, books]
  exact fs

theorem of_same (fs : s.Accounts law but) (heads : t.heads = s.heads) (log : t.log = s.log) (lift : t.lift = s.lift)
    (rack : t.rack = s.rack) (release : t.release = s.release) : t.Accounts law but :=
  fs.of_figures heads (by rw [log]) (by simp only [State.books, State.head, State.mode, heads, log, lift, rack, release])

/-- A head begins work in which it need not be sound. -/
theorem begin (fs : s.Accounts law none) (h : HeadId) : s.Accounts law (some h) :=
  ⟨fs.lawful, fs.counted, fs.room, fun k _ => fs.sound k nofun⟩

/-- The head's work ends with the head sound. -/
theorem finish (fs : s.Accounts law (some h)) (sound : (s.head h).Sound (s.mode = .day)) : s.Accounts law none :=
  ⟨fs.lawful, fs.counted, fs.room, fun k _ => by
    rcases eq_or_ne k h with rfl | ne
    · exact sound
    · exact fs.sound k fun same => ne (Option.some.inj same).symm⟩

/-- The one head and its reservation change, and another law takes the books. -/
theorem change (fs : s.Accounts law (some h)) (others : ∀ k, k ≠ h → t.head k = s.head k)
    (reservation : t.log.reservations + (s.head h).reservation.toNat = s.log.reservations + (t.head h).reservation.toNat)
    (room : t.log.records.length + t.log.reservations ≤ logCapacity) (mode : t.mode = s.mode) (lawful : law' t.books) :
    t.Accounts law' (some h) := by
  refine ⟨lawful, ?_, room, fun k ne => ?_⟩
  · have counted : s.log.reservations = _ := fs.counted
    have change := holders_of_others others
    simp only [State.head] at reservation
    omega
  · have other : t.heads.get k = s.heads.get k := others k fun same => ne (same ▸ rfl)
    rw [other, show t.books.mode = s.books.mode from mode]
    exact fs.sound k ne

/-- Work of the one head that keeps its bags, and of the log on its reservation. -/
theorem work (fs : s.Accounts law (some h)) (others : ∀ k, k ≠ h → t.head k = s.head k)
    (bags : (t.head h).bags = (s.head h).bags) (starting : (t.head h).starting = (s.head h).starting)
    (reservation : t.log.reservations + (s.head h).reservation.toNat = s.log.reservations + (t.head h).reservation.toNat)
    (room : t.log.records.length + t.log.reservations ≤ logCapacity)
    (records : t.log.records = s.log.records) (nextSeq : t.log.nextSeq = s.log.nextSeq) (lift : t.lift.state = s.lift.state)
    (rack : t.rack = s.rack) (release : t.release = s.release) : t.Accounts law (some h) := by
  have mode : t.mode = s.mode := by rw [State.mode, release]; rfl
  refine fs.change others reservation room mode ?_
  rw [State.books, heads_show_congr Head.bags others bags, heads_show_congr Head.starting others starting, records, nextSeq,
    lift, rack, mode]
  exact fs.lawful

/-- Work of the one head that keeps its bags and its reservation. -/
theorem work_of_same (fs : s.Accounts law (some h)) (others : ∀ k, k ≠ h → t.head k = s.head k)
    (bags : (t.head h).bags = (s.head h).bags) (starting : (t.head h).starting = (s.head h).starting)
    (reservation : (t.head h).reservation = (s.head h).reservation)
    (log : t.log = s.log) (lift : t.lift = s.lift) (rack : t.rack = s.rack) (release : t.release = s.release) :
    t.Accounts law (some h) :=
  fs.work others bags starting (by rw [log, reservation]) (by rw [log]; exact fs.room) (by rw [log]) (by rw [log])
    (by rw [lift]) rack release

/-! ### Operations of other blocks -/

theorem setPort {p : PortId} {v : Port} (fs : s.Accounts law but) : (s.setPort p v).Accounts law but :=
  fs.of_same (by simp) (by simp) (by simp) (by simp) (by simp)

theorem notify {n : Notice} (fs : s.Accounts law but) : (notify n s).Accounts law but := fs.setPort

theorem handOutput {n : Nat} {level : Bool} (fs : s.Accounts law but) : (handOutput n level s).Accounts law but :=
  fs.of_same (by simp) (by simp) (by simp) (by simp) (by simp)

theorem alarmLevel (fs : s.Accounts law but) : (alarmLevel s).Accounts law but :=
  fs.of_same (by simp) (by simp) (by simp) (by simp) (by simp)

theorem reportAlarm {c : AlarmCause} (fs : s.Accounts law but) : (reportAlarm c s).Accounts law but :=
  fs.of_same (by simp) (by simp) (by simp) (by simp) (by simp)

theorem updateStats {f : Stats → Stats} (fs : s.Accounts law but) : (updateStats f s).Accounts law but := fs

theorem updateHeadStats {k : HeadId} {f : HeadStats → HeadStats} (fs : s.Accounts law but) :
    (updateHeadStats k f s).Accounts law but := fs

theorem driveError (fs : s.Accounts law but) : (driveError s).Accounts law but := fs

theorem lowWaterFall (fs : s.Accounts law but) : (lowWaterFall s).Accounts law but := by
  unfold Machine.lowWaterFall
  split
  · exact notify (s := { s with log := _ }) fs
  · exact fs

theorem lowWaterRise (fs : s.Accounts law but) : (lowWaterRise s).Accounts law but := by
  unfold Machine.lowWaterRise
  split <;> exact fs

theorem judgeLowWater (fs : s.Accounts law but) : (judgeLowWater s).Accounts law but := fs.lowWaterRise.lowWaterFall

theorem updateChannel {k : HeadId} {f : Channel → Channel} (fs : s.Accounts law but) :
    (updateChannel k f s).Accounts law but := fs

theorem refreshIdle {k : HeadId} (fs : s.Accounts law but) : (refreshIdle k s).Accounts law but := fs

theorem abandonWeighing {k : HeadId} (fs : s.Accounts law but) : (abandonWeighing k s).Accounts law but := fs

theorem stopStep (fs : s.Accounts law but) : (stopStep s).Accounts law but :=
  fs.of_same (by simp) (by simp) (by simp) (by simp) (by simp)

theorem askWarm {k : HeadId} (fs : s.Accounts law but) : (askWarm k s).Accounts law but :=
  fs.of_same (by simp) (by simp) (by simp) (by simp) (by simp)

theorem endUnwantedWarmUp {k : HeadId} (fs : s.Accounts law but) : (endUnwantedWarmUp k s).Accounts law but :=
  fs.of_same (by simp) (by simp) (by simp) (by simp) (by simp)

theorem zeroFailed {k : HeadId} {mass : Option Int} (fs : s.Accounts law but) : (zeroFailed k mass s).Accounts law but :=
  fs.of_same (by simp) (by simp) (by simp) (by simp) (by simp)

theorem evaluateZero {k : HeadId} (fs : s.Accounts law but) : (evaluateZero k s).Accounts law but :=
  fs.of_same (by simp) (by simp) (by simp) (by simp) (by simp)

theorem endServiceState (fs : s.Accounts law but) : (endServiceState s).Accounts law but :=
  fs.of_same (by simp) (by simp) (by simp) (by simp) (by simp)

theorem foldl {α : Type} {f : State → α → State} {l : List α} (fs : s.Accounts law but)
    (keeps : ∀ s a, s.Accounts law but → (f s a).Accounts law but) : (l.foldl f s).Accounts law but :=
  List.foldlRecOn l f fs fun _ ft a _ => keeps _ a ft

/-! ### Reservations -/

theorem giveBack (fs : s.Accounts law (some h)) : (giveBack h s).Accounts law (some h) := by
  refine fs.work (fun k ne => giveBack_head_of_ne s ne) (by rw [giveBack_head]; rfl) (by rw [giveBack_head]; rfl) ?_ ?_
    (by simp) giveBack_nextSeq
    (by simp) (by simp) (by simp)
  · rw [giveBack_log_reservations, giveBack_head]
    cases held : (s.head h).reservation with
    | false => simp
    | true =>
      have := fs.reserved held
      simp
      omega
  · have room := fs.counted_le
    rw [giveBack_log_records, giveBack_log_reservations]
    split <;> omega

theorem takeReservation (fs : s.Accounts law (some h)) (free : (s.head h).reservation = false)
    (taken : takeReservation h s = some t) : t.Accounts law (some h) := by
  obtain ⟨places, mine, others, records, nextSeq, reservations⟩ := takeReservation_spec s taken
  obtain ⟨-, -, -, -, rack, lift, release, -⟩ := takeReservation_frame s taken
  have room : s.log.records.length + s.log.reservations < logCapacity := by
    rw [State.logFree, CustodyLog.free] at places
    omega
  exact fs.work others (by rw [mine]; rfl) (by rw [mine]; rfl) (by rw [mine, free, reservations]; rfl)
    (by rw [records, reservations]; exact room) records nextSeq (by rw [lift]) rack release

end State.Accounts

end Sys2Proof.Machine
end

section
/-! The work of the heads that leaves the books: closing, faults and discharge keep the accounts under any law of the books
(R14 to R23, R93, R94). -/

namespace Sys2Proof.Machine

variable {law : Books → Prop} {but : Option HeadId} {s t : State} {h : HeadId} {f : Head → Head}

namespace State.Accounts

/-! ### Changes of a head -/

theorem updateHead_begun (fs : s.Accounts law (some h)) (reservation : (f (s.head h)).reservation = (s.head h).reservation)
    (bags : (f (s.head h)).bags = (s.head h).bags) (starting : (f (s.head h)).starting = (s.head h).starting := by rfl) :
    (updateHead h f s).Accounts law (some h) :=
  fs.work_of_same (fun _ ne => updateHead_head_of_ne _ _ ne) (by rw [updateHead_head, bags]) (by rw [updateHead_head, starting])
    (by rw [updateHead_head, reservation]) (by simp) (by simp) (by simp) (by simp)

theorem moveHead_begun (fs : s.Accounts law (some h)) (reservation : (f (s.head h)).reservation = (s.head h).reservation)
    (bags : (f (s.head h)).bags = (s.head h).bags) (starting : (f (s.head h)).starting = (s.head h).starting := by rfl) :
    (moveHead h f s).Accounts law (some h) :=
  fs.work_of_same (fun _ ne => moveHead_head_of_ne _ _ ne) (by rw [moveHead_head, bags]) (by rw [moveHead_head, starting])
    (by rw [moveHead_head, reservation]) (by simp) (by simp) (by simp) (by simp)

/-- A head that takes a new state with its bags and its reservation as they are, and is then sound. -/
theorem moveHead (fs : s.Accounts law (some h)) (sound : (f (s.head h)).Sound (s.mode = .day))
    (reservation : (f (s.head h)).reservation = (s.head h).reservation := by rfl)
    (bags : (f (s.head h)).bags = (s.head h).bags := by rfl)
    (starting : (f (s.head h)).starting = (s.head h).starting := by rfl) : (moveHead h f s).Accounts law none :=
  (fs.moveHead_begun reservation bags starting).finish (by simpa only [moveHead_head, moveHead_frame] using sound)

/-- A head that keeps what the laws ask of it. -/
theorem updateHead (fs : s.Accounts law none) (state : (f (s.head h)).state = (s.head h).state := by rfl)
    (reservation : (f (s.head h)).reservation = (s.head h).reservation := by rfl)
    (record : (f (s.head h)).cradleRecord = (s.head h).cradleRecord := by rfl)
    (staging : (f (s.head h)).staging = (s.head h).staging := by rfl)
    (decision : (f (s.head h)).starting = (s.head h).starting := by rfl) : (updateHead h f s).Accounts law none :=
  ((fs.begin h).updateHead_begun reservation (by rw [Head.bags, record, staging]; rfl) decision).finish (by
    simp only [updateHead_head, updateHead_frame]
    exact (fs.head h).congr state reservation record staging decision)

/-! ### Closing and faults -/

theorem closeHead {c : ClosedCause} (fs : s.Accounts law (some h)) (vacant : (s.head h).Vacant (s.mode = .day)) :
    (closeHead h c s).Accounts law none := by
  have told : (Machine.notify (.headClosed h c) s).Accounts law (some h) := fs.notify
  refine (told.moveHead ?_).endUnwantedWarmUp
  simp only [notify_frame]
  exact .of_closed ⟨vacant.unreserved, vacant.noRecord, vacant.two, vacant.rest⟩ rfl

theorem closeReady {c : CloseCause} (fs : s.Accounts law none) (ready : (s.head h).state = .ready) :
    (closeReady h c s).Accounts law none := by
  refine (fs.begin h).giveBack.closeHead ?_
  simp only [giveBack_head, giveBack_frame]
  exact (fs.head h).vacant_of_admitting (by rw [ready]; rfl)

theorem receiveClose {k : HeadId} {c : CloseCause} (fs : s.Accounts law none) : (receiveClose k c s).Accounts law none := by
  have flagged {pending : Option CloseCause} : (Machine.updateHead k (fun hd => { hd with closePending := pending }) s).Accounts
      law none := fs.updateHead
  simp only [Machine.receiveClose]
  repeat' split
  · exact fs
  · next ready _ => exact flagged.closeReady ready
  · exact flagged
  · next warming =>
    refine (flagged.begin k).closeHead ((flagged.head k).vacant ?_ ?_ ((flagged.head k).reserving.warming warming)) <;>
      rw [warming] <;> rfl
  · exact flagged

theorem closeAll {c : CloseCause} (fs : s.Accounts law none) : (closeAll c s).Accounts law none :=
  fs.foldl fun _ _ ft => ft.receiveClose

theorem logFullSignal (fs : s.Accounts law none) : (logFullSignal s).Accounts law none :=
  fs.foldl fun _ _ ft => by
    split
    · exact ft.receiveClose
    · exact ft

theorem signalIfFull (fs : s.Accounts law none) : (signalIfFull s).Accounts law none := by
  unfold Machine.signalIfFull
  split
  · exact fs.logFullSignal
  · exact fs

/-- A head with no reservation beside a cradle record enters FAULT (R23). -/
theorem enterFault_begun {c : HeadFaultCause} (fs : s.Accounts law (some h)) (awake : (s.head h).starting = false)
    (record : (s.head h).reservation = true → (s.head h).cradleRecord = none) (two : (s.head h).staging.length ≤ 2)
    (rest : s.mode = .day → (s.head h).staging = [] ∧ (s.head h).cradleRecord = none) :
    (enterFault h c s).Accounts law none := by
  have moved := fs.moveHead (f := fun hd => { hd with
    state := .fault c
    intakeTimer := none
    descentTimer := none
    windowTimer := none
    gateTimer := none
    tags := []
    windowDone := false
    weighing := none
    landed := none }) (.of_fault rfl record awake two rest)
  simp only [Machine.enterFault]
  split
  · exact moved.abandonWeighing.notify.reportAlarm.updateHeadStats
  · exact moved.notify.reportAlarm.updateHeadStats

theorem enterFault {c : HeadFaultCause} (fs : s.Accounts law none) (awake : (s.head h).starting = false) :
    (enterFault h c s).Accounts law none := by
  have sound := fs.head h
  refine (fs.begin h).enterFault_begun awake sound.reserving.noRecord sound.staged.two fun isDay => ?_
  obtain ⟨-, empty, clear | starting⟩ := sound.rest isDay
  · exact ⟨empty, clear⟩
  · exact Bool.noConfusion (awake.symm.trans starting)

/-- A head that admits a bag gives its reservation back and enters FAULT (R13, R26). -/
theorem loseBag {c : HeadFaultCause} (fs : s.Accounts law none) (admits : (s.head h).state.admitting = true) :
    (Machine.enterFault h c (Machine.giveBack h s)).Accounts law none := by
  have sound := fs.head h
  have clear := sound.noRecord admits
  refine (fs.begin h).giveBack.enterFault_begun ?_ ?_ ?_ ?_ <;> rw [giveBack_head]
  · exact sound.awake fun closed => by rw [closed] at admits; cases admits
  · exact fun _ => clear
  · exact sound.staged.two
  · simp only [giveBack_frame]
    exact fun isDay => ⟨sound.emptied isDay, clear⟩

/-! ### Discharge and staging -/

/-- A vacant head takes a reservation and is READY (R6, R17). -/
theorem readied (fs : s.Accounts law (some h)) (vacant : (s.head h).Vacant (s.mode = .day))
    (working : (s.head h).Working (s.mode = .day)) (taken : Machine.takeReservation h s = some t) :
    (Machine.moveHead h (fun hd => { hd with state := .ready }) t).Accounts law none := by
  obtain ⟨-, mine, -⟩ := takeReservation_spec s taken
  obtain ⟨-, -, -, -, -, -, release, -⟩ := takeReservation_frame s taken
  refine (fs.takeReservation vacant.unreserved taken).moveHead ?_
  rw [mine, State.mode, release, ← State.mode]
  exact .of_admitting ⟨working.two, working.awake, working.night⟩ rfl rfl vacant.noRecord

theorem endDischarge (fs : s.Accounts law none) (state : (s.head h).state = .discharge)
    (record : (s.head h).cradleRecord = none) : (endDischarge h s).Accounts law none := by
  have begun : (Machine.updateHead h (fun hd => { hd with gateTimer := none, beamCount := 0 }) s).Accounts law none :=
    fs.updateHead
  have vacant := (begun.head h).vacant (by simp [state, HeadState.admitting]) (by simp [state, HeadState.isFault])
    (by simp [record])
  have working := (begun.head h).working (by simp [state]) (by simp [state, HeadState.isFault])
  simp only [Machine.endDischarge]
  split
  · exact (begun.begin h).closeHead vacant
  · split
    · refine (begun.begin h).askWarm.moveHead ?_
      simp only [askWarm_frame]
      exact .of_warming ⟨vacant.unreserved, vacant.noRecord, vacant.two, vacant.rest⟩
        ⟨working.two, working.awake, working.night⟩ rfl
    · split
      · next taken => exact ((begun.begin h).readied vacant working taken).signalIfFull
      · exact (begun.begin h).closeHead vacant

theorem cradleCleared (fs : s.Accounts law none) (state : (s.head h).state = .discharge) :
    (cradleCleared h s).Accounts law none := by
  simp only [Machine.cradleCleared]
  split
  · exact fs
  · next seq record =>
    have sound := fs.head h
    have room := sound.staged.room state (by rw [record]; rfl)
    have working := sound.working (by simp [state]) (by simp [state, HeadState.isFault])
    have joined : (Machine.updateHead h (fun hd => { hd with staging := hd.staging ++ [seq], cradleRecord := none }) s).Accounts
        law none := by
      refine ((fs.begin h).updateHead_begun rfl ?_).finish ?_
      · simp [Head.bags, record]
      · simp only [updateHead_head, updateHead_frame]
        refine .of_discharge ⟨?_, working.awake, working.night⟩ state
          (sound.unreserved (by rw [state]; rfl) (by rw [state]; rfl)) (by simp)
        simp
        omega
    split
    · exact joined.endDischarge (by simp [state]) (by simp)
    · exact joined

/-- The gate opens for a head with room in its staging queue and no reservation (R15). -/
theorem openGate (fs : s.Accounts law (some h)) (working : (s.head h).Working (s.mode = .day))
    (free : (s.head h).reservation = false) (room : (s.head h).staging.length < 2) : (openGate h s).Accounts law none := by
  have moved := fs.moveHead (f := fun hd => { hd with state := .discharge, gateTimer := some hd.latched.gate })
    (.of_discharge ⟨working.two, working.awake, working.night⟩ rfl free fun _ => room)
  simp only [Machine.openGate]
  split
  · exact moved
  · exact moved.cradleCleared (by rw [moveHead_head])

theorem enterDischarge (fs : s.Accounts law (some h)) (working : (s.head h).Working (s.mode = .day))
    (free : (s.head h).reservation = false) : (enterDischarge h s).Accounts law none := by
  unfold Machine.enterDischarge
  split
  · next room => exact fs.openGate working free room
  · exact fs.moveHead (.of_hold ⟨working.two, working.awake, working.night⟩ rfl free)

theorem enterHold (fs : s.Accounts law (some h)) (working : (s.head h).Working (s.mode = .day))
    (free : (s.head h).reservation = false) : (enterHold h s).Accounts law none := by
  have moved := fs.moveHead (f := fun hd => { hd with state := .hold, latched := .ofSettings hd.settings })
    (.of_hold ⟨working.two, working.awake, working.night⟩ rfl free)
  simp only [Machine.enterHold]
  split
  · next room =>
    refine (moved.begin h).openGate ?_ ?_ room <;> rw [moveHead_head]
    · simp only [moveHead_frame]
      exact ⟨working.two, working.awake, working.night⟩
    · exact free
  · exact moved

theorem leaveHold (fs : s.Accounts law none) : (leaveHold h s).Accounts law none := by
  unfold Machine.leaveHold
  split
  · next held =>
    obtain ⟨state, room⟩ := held
    have sound := fs.head h
    exact (fs.begin h).openGate (sound.working (by simp [state]) (by simp [state, HeadState.isFault]))
      (sound.unreserved (by rw [state]; rfl) (by rw [state]; rfl)) room
  · exact fs

end State.Accounts

end Sys2Proof.Machine
end

section
/-! The law of the books, and what it takes for a change of the records to keep it (R85, R91, R92, R115, R120, R138). -/

namespace Sys2Proof.Machine

/-! ### Sequence numbers -/

theorem seqAfter_iterate {n : Nat} (low : 1 ≤ n) (high : n ≤ 16777215) (i : Nat) :
    seqAfter^[i] n = (n - 1 + i) % 16777215 + 1 := by
  induction i with
  | zero => simp only [Function.iterate_zero, id_eq]; omega
  | succ i ih =>
    rw [Function.iterate_succ_apply', ih, seqAfter]
    split <;> omega

/-- A search that ends on a number held has tried no number that is free (R92). -/
theorem held_of_freeSeq_mem {held : List Nat} {fuel n : Nat} (mem : freeSeq held fuel n ∈ held) :
    ∀ i ≤ fuel, seqAfter^[i] n ∈ held := by
  induction fuel generalizing n with
  | zero =>
    intro i le
    obtain rfl : i = 0 := by omega
    exact mem
  | succ fuel ih =>
    intro i le
    unfold freeSeq at mem
    split at mem
    · next taken =>
      cases i with
      | zero => exact taken
      | succ i => exact ih mem i (by omega)
    · next free => exact absurd mem free

/-- The next sequence number is held by no record, since there are more numbers than records (R92). -/
theorem nextSeqAfter_not_mem {held : List Nat} (few : held.length < 16777215) (taken : Nat) :
    nextSeqAfter held taken ∉ held := by
  intro mem
  have all := held_of_freeSeq_mem mem
  have range : 1 ≤ seqAfter taken ∧ seqAfter taken ≤ 16777215 := by
    unfold seqAfter
    split <;> omega
  have distinct : ((List.range (held.length + 1)).map fun i => seqAfter^[i] (seqAfter taken)).Nodup := by
    refine List.Nodup.map_on (fun i hi j hj same => ?_) List.nodup_range
    rw [List.mem_range] at hi hj
    rw [seqAfter_iterate range.1 range.2, seqAfter_iterate range.1 range.2] at same
    omega
  have more := (distinct.subperm fun x mem => by
    obtain ⟨i, hi, rfl⟩ := List.mem_map.1 mem
    exact all i (by rw [List.mem_range] at hi; omega)).length_le
  simp at more

/-! ### The law of the books -/

/-- The records of a list that count in a bin (R115). -/
def countedAmong (records : List Record) (bin : Nat) : List Record :=
  records.filter fun r => r.counts && r.bin == some bin

/-- The figures of a bin are those of the records that count in it, and within its bounds (R115). -/
def tallies (records : List Record) (bin : Nat) (v : Nat × Nat × Nat) : Prop :=
  v.1 = (countedAmong records bin).length ∧ v.2.1 = ((countedAmong records bin).map (·.allocationMass)).sum ∧
    v.1 ≤ 8 ∧ v.2.1 ≤ v.2.2

/-- The bags in hand are the JUDGED records, each once (R85); the sequence numbers are distinct (R92); the lift and the bins
agree with the records (R115, R120); and in DAY the lift is IDLE (R138). -/
structure Books.Lawful (b : Books) : Prop where
  once     : ∀ h, (b.bags h).Nodup
  apart    : ∀ h k seq, seq ∈ b.bags h → seq ∈ b.bags k → h = k
  judged   : ∀ seq, (∃ h, seq ∈ b.bags h) ↔ ∃ r ∈ b.records, r.seq = seq ∧ r.state = .judged
  distinct : (b.records.map (·.seq)).Nodup
  next     : b.nextSeq ∉ b.records.map (·.seq)
  lift     : Lift.agrees b.lift b.records
  bins     : ∀ n v, b.bins[n]? = some v → tallies b.records n v
  flight   : ∀ f, b.lift.inFlight = some f → ∀ r ∈ b.records, r.seq = f.seq → r.bin = some f.bin
  quiet    : b.mode = .day → b.lift = .idle

/-- A state whose accounts and books are in order. -/
def State.Sound (s : State) : Prop := s.Accounts Books.Lawful none

variable {s t : State} {h : HeadId} {b : Books}

theorem State.bags_nodup_iff (s : State) :
    s.bags.Nodup ↔ (∀ h, (s.head h).bags.Nodup) ∧ ∀ h k seq, seq ∈ (s.head h).bags → seq ∈ (s.head k).bags → h = k := by
  let apart (h k : HeadId) : Prop := List.Disjoint (s.head h).bags (s.head k).bags
  have : Std.Symm apart := ⟨fun _ _ => List.Disjoint.symm⟩
  rw [State.bags, List.nodup_flatMap]
  refine and_congr ⟨fun all h => all h (mem_allHeads h), fun all h _ => all h⟩ ⟨fun all h k seq mine yours => ?_, fun all => ?_⟩
  · by_contra ne
    exact (show HeadId.all.Pairwise apart from all).forall (mem_allHeads h) (mem_allHeads k) ne mine yours
  · exact List.Nodup.pairwise_of_forall_ne (by decide) fun h _ k _ ne seq mine yours => ne (all h k seq mine yours)

theorem State.mem_bags (s : State) (seq : Nat) : seq ∈ s.bags ↔ ∃ h, seq ∈ (s.head h).bags := by
  simp only [State.bags, List.mem_flatMap]
  exact ⟨fun ⟨h, _, mem⟩ => ⟨h, mem⟩, fun ⟨h, mem⟩ => ⟨h, (mem_allHeads h), mem⟩⟩

/-- The laws of the log, of custody, of the rack and of DAY make a state sound. -/
theorem State.sound_of_laws (log : s.LogLaw) (distinct : s.log.Distinct) (custody : s.CustodyLaw) (rack : s.RackLaw)
    (rest : s.DayLaw) : s.Sound where
  lawful := by
    obtain ⟨once, apart⟩ := s.bags_nodup_iff.1 custody.once
    refine ⟨once, apart, fun seq => (s.mem_bags seq).symm.trans (custody.judged seq), distinct.nodup, distinct.next,
      custody.lift, fun n v here => ?_, rack.flight, fun day => (rest day).1⟩
    rw [State.books, List.getElem?_map, Option.map_eq_some_iff] at here
    obtain ⟨b, bin, rfl⟩ := here
    exact rack.bins n b bin
  counted := log.counted
  room := log.room
  sound h _ := ⟨log.reserving h, custody.staged h, fun day => by
    obtain ⟨-, all⟩ := rest day
    obtain ⟨state, record, staging⟩ := all h
    exact ⟨state, staging, .inl record⟩⟩

/-- A sound state meets the laws; that of DAY where no head awaits its decision with a bag on its cradle. -/
theorem State.Sound.laws (sound : s.Sound) : s.LogLaw ∧ s.log.Distinct ∧ s.CustodyLaw ∧ s.RackLaw ∧
    ((∀ h, (s.head h).starting = true → (s.head h).cradleRecord = none) → s.DayLaw) := by
  obtain ⟨once, apart, judged, distinct, next, lift, bins, flight, quiet⟩ := sound.lawful
  refine ⟨⟨sound.counted, sound.room, fun h => (sound.head h).reserving⟩, ⟨distinct, next⟩,
    ⟨s.bags_nodup_iff.2 ⟨once, apart⟩, fun h => (sound.head h).staged, fun seq => (s.mem_bags seq).trans (judged seq), lift⟩,
    ⟨fun n b here => bins n b.figures ?_, flight⟩, fun clear day => ⟨quiet day, fun h => ?_⟩⟩
  · rw [State.books, List.getElem?_map, ← State.bin, here]
    rfl
  · obtain ⟨state, staging, none | starting⟩ := (sound.head h).rest day
    · exact ⟨state, none, staging⟩
    · exact ⟨state, clear h starting, staging⟩

/-! ### Changes of the records -/

/-- Two lists of records count alike in a bin where their records that count there are alike. -/
theorem tallies_map {records : List Record} {f : Record → Record} {n : Nat} {v : Nat × Nat × Nat}
    (same : ∀ r ∈ records, ((f r).counts && (f r).bin == some n) = (r.counts && r.bin == some n) ∧
      (f r).allocationMass = r.allocationMass) (tally : tallies records n v) : tallies (records.map f) n v := by
  have counted : countedAmong (records.map f) n = (countedAmong records n).map f := by
    rw [countedAmong, List.filter_map, countedAmong]
    exact congrArg _ (List.filter_congr fun r mem => (same r mem).1)
  have masses : ((countedAmong records n).map f).map (·.allocationMass) = (countedAmong records n).map (·.allocationMass) := by
    rw [List.map_map]
    exact List.map_congr_left fun r mem => (same r (List.mem_of_mem_filter mem)).2
  unfold tallies
  rw [counted, masses, List.length_map]
  exact tally

namespace Books.Lawful

/-- Two records with one sequence number are one. -/
theorem unique (lawful : b.Lawful) {r x : Record} (mine : r ∈ b.records) (yours : x ∈ b.records) (same : r.seq = x.seq) :
    r = x := List.inj_on_of_nodup_map lawful.distinct mine yours same

/-- The records change with their sequence numbers kept, and the bags in hand, the lift and the bins agree with them. -/
theorem reform (lawful : b.Lawful) {f : Record → Record} {bags : HeadId → List Nat} {lift : LiftState}
    {bins : List (Nat × Nat × Nat)} (seq : ∀ r, (f r).seq = r.seq) (kept : ∀ h, (bags h).Sublist (b.bags h))
    (judged : ∀ q, (∃ h, q ∈ bags h) ↔ ∃ r ∈ b.records, r.seq = q ∧ (f r).state = .judged)
    (agrees : Lift.agrees lift (b.records.map f)) (tally : ∀ n v, bins[n]? = some v → tallies (b.records.map f) n v)
    (flight : ∀ g, lift.inFlight = some g → ∀ r ∈ b.records, r.seq = g.seq → (f r).bin = some g.bin)
    (quiet : b.mode = .day → lift = .idle) :
    ({ b with bags := bags, records := b.records.map f, lift := lift, bins := bins } : Books).Lawful := by
  have seqs : (b.records.map f).map (·.seq) = b.records.map (·.seq) := by
    rw [List.map_map]
    exact List.map_congr_left fun r _ => seq r
  refine ⟨fun h => (kept h).nodup (lawful.once h),
    fun h k q mine yours => lawful.apart h k q ((kept h).subset mine) ((kept k).subset yours), fun q => (judged q).trans ?_,
    seqs ▸ lawful.distinct, seqs ▸ lawful.next, agrees, tally, fun g fly r mem same => ?_, quiet⟩
  · constructor
    · rintro ⟨r, mem, same, is⟩
      exact ⟨f r, List.mem_map_of_mem mem, (seq r).trans same, is⟩
    · rintro ⟨_, mem, same, is⟩
      obtain ⟨r, here, rfl⟩ := List.mem_map.1 mem
      exact ⟨r, here, (seq r).symm.trans same, is⟩
  · obtain ⟨r, here, rfl⟩ := List.mem_map.1 mem
    exact flight g fly r here ((seq r).symm.trans same)

/-- The records change with the JUDGED ones as they were, and the lift and the bins agree with them. -/
theorem rewrite (lawful : b.Lawful) {f : Record → Record} {lift : LiftState} {bins : List (Nat × Nat × Nat)}
    (seq : ∀ r, (f r).seq = r.seq)
    (judged : ∀ r ∈ b.records, (f r).state = .judged ↔ r.state = .judged) (agrees : Lift.agrees lift (b.records.map f))
    (tally : ∀ n v, bins[n]? = some v → tallies (b.records.map f) n v)
    (flight : ∀ g, lift.inFlight = some g → ∀ r ∈ b.records, r.seq = g.seq → (f r).bin = some g.bin)
    (quiet : b.mode = .day → lift = .idle) : ({ b with records := b.records.map f, lift := lift, bins := bins } : Books).Lawful :=
  lawful.reform seq (fun _ => .refl _) (fun q => (lawful.judged q).trans ⟨
    fun ⟨r, mem, same, is⟩ => ⟨r, mem, same, (judged r mem).2 is⟩,
    fun ⟨r, mem, same, is⟩ => ⟨r, mem, same, (judged r mem).1 is⟩⟩) agrees tally flight quiet

end Books.Lawful

/-! ### One record and one bin -/

/-- The figures of a bin with a record more that counts in it. -/
theorem tallies_join {before after : List Record} {r x : Record} {n : Nat} {v : Nat × Nat × Nat}
    (out : (r.counts && r.bin == some n) = false) (counts : (x.counts && x.bin == some n) = true)
    (space : v.1 < 8) (fits : v.2.1 + x.allocationMass ≤ v.2.2) (tally : tallies (before ++ r :: after) n v) :
    tallies (before ++ x :: after) n (v.1 + 1, v.2.1 + x.allocationMass, v.2.2) := by
  obtain ⟨count, mass, -⟩ := tally
  simp only [countedAmong, List.filter_append, List.filter_cons, out, Bool.false_eq_true, if_false] at count mass
  simp only [tallies, countedAmong, List.filter_append, List.filter_cons, counts, if_true]
  refine ⟨?_, ?_, space, fits⟩
  · rw [count]
    simp
    omega
  · rw [mass]
    simp
    omega

/-- The figures of a bin with a record less that counts in it. -/
theorem tallies_leave {before after : List Record} {r x : Record} {n : Nat} {v : Nat × Nat × Nat}
    (counts : (r.counts && r.bin == some n) = true) (out : (x.counts && x.bin == some n) = false)
    (tally : tallies (before ++ r :: after) n v) :
    tallies (before ++ x :: after) n (v.1 - 1, v.2.1 - r.allocationMass, v.2.2) := by
  obtain ⟨count, mass, eight, limit⟩ := tally
  simp only [countedAmong, List.filter_append, List.filter_cons, counts, if_true] at count mass
  simp only [tallies, countedAmong, List.filter_append, List.filter_cons, out, Bool.false_eq_true, if_false]
  refine ⟨?_, ?_, by omega, by omega⟩
  · rw [count]
    simp
  · rw [mass]
    simp
    omega

/-- The change of the record of one sequence number, at its place in the log. -/
theorem map_of_unique {records : List Record} (distinct : (records.map (·.seq)).Nodup) {r : Record} (mem : r ∈ records)
    (f : Record → Record) : ∃ before after, records = before ++ r :: after ∧
      records.map (fun x => if x.seq = r.seq then f x else x) = before ++ f r :: after := by
  obtain ⟨before, after, rfl⟩ := List.append_of_mem mem
  refine ⟨before, after, rfl, ?_⟩
  simp only [List.map_append, List.map_cons, List.nodup_append, List.nodup_cons, List.mem_map] at distinct
  obtain ⟨-, ⟨later, -⟩, earlier⟩ := distinct
  have apart {l : List Record} (other : ∀ x ∈ l, x.seq ≠ r.seq) : l.map (fun x => if x.seq = r.seq then f x else x) = l :=
    (List.map_congr_left fun x here => if_neg (other x here)).trans (List.map_id' l)
  rw [List.map_append, List.map_cons, if_pos rfl, apart fun x here same => ?_, apart fun x here same => ?_]
  · exact later ⟨x, here, same⟩
  · exact earlier x.seq ⟨x, here, rfl⟩ r.seq (by simp) same

/-- What a change of one bin makes of the figures. -/
theorem figures_modify {bins : List Bin} {n : Nat} {f : Bin → Bin} {g : Nat × Nat × Nat → Nat × Nat × Nat}
    (same : ∀ b, (f b).figures = g b.figures) : (bins.modify n f).map Bin.figures = (bins.map Bin.figures).modify n g := by
  refine List.ext_getElem? fun m => ?_
  simp only [List.getElem?_map, List.getElem?_modify, Option.map_eq_map, Option.map_map]
  refine congrArg (fun p => Option.map p bins[m]?) (funext fun b => ?_)
  simp only [Function.comp]
  split
  · exact same b
  · rfl

/-- A change of one bin that keeps its figures. -/
theorem figures_modify_of_same {bins : List Bin} {n : Nat} {f : Bin → Bin} (same : ∀ b, (f b).figures = b.figures) :
    (bins.modify n f).map Bin.figures = bins.map Bin.figures := by
  rw [figures_modify (g := id) same]
  simp

end Sys2Proof.Machine
end

section
/-! The examination of a bag keeps the accounts: the judgement enters its record, and everything that can lead to it (R6 to R12,
R26, R36 to R41, R86, R92). -/

namespace Sys2Proof.Machine

variable {s t : State} {h : HeadId} {but : Option HeadId}

theorem HeadState.busy_of_admitting {state : HeadState} (admits : state.admitting = true) :
    state ≠ .closed ∧ state.isFault = false := by
  cases state <;> simp_all [HeadState.admitting, HeadState.isFault]

/-! ### The record of a judgement -/

/-- A lift with a bag in flight has its record in the log (R120). -/
theorem Books.Lawful.flying {b : Books} (lawful : b.Lawful) {f : InFlight} (fly : b.lift.inFlight = some f) :
    ∃ x ∈ b.records, x.seq = f.seq := by
  have agrees := lawful.lift
  cases lift : b.lift <;> rw [lift] at fly agrees <;> cases fly <;> exact agrees.1

/-- A record that is not in the lift joins the log (R120). -/
theorem Lift.agrees_append {l : LiftState} {records : List Record} {r : Record} (agrees : Lift.agrees l records)
    (waits : r.state = .judged) (apart : ∀ f, l.inFlight = some f → r.seq ≠ f.seq) : Lift.agrees l (records ++ [r]) := by
  have lifted : r.lifted = false := by simp [Record.lifted, waits]
  cases l with
  | idle =>
    intro x mem
    rcases List.mem_append.1 mem with old | new
    · exact agrees x old
    · exact List.mem_singleton.1 new ▸ lifted
  | moving f granted | fault cause f =>
    obtain ⟨⟨x, here, same⟩, all⟩ := agrees
    refine ⟨⟨x, List.mem_append_left _ here, same⟩, fun y mem => ?_⟩
    rcases List.mem_append.1 mem with old | new
    · exact all y old
    · obtain rfl := List.mem_singleton.1 new
      simp [waits, apart f rfl]

/-- A new record, JUDGED and in the hands of one head, joins the books (R86, R92). -/
theorem Books.Lawful.append {b : Books} (lawful : b.Lawful) {r : Record} {bags : HeadId → List Nat} {nextSeq : Nat}
    (seq : r.seq = b.nextSeq) (state : r.state = .judged) (mine : ∀ q, q ∈ bags h ↔ q ∈ b.bags h ∨ q = b.nextSeq)
    (once : (bags h).Nodup) (others : ∀ k, k ≠ h → bags k = b.bags k)
    (next : nextSeq ∉ (b.records ++ [r]).map (·.seq)) :
    ({ b with bags := bags, records := b.records ++ [r], nextSeq := nextSeq } : Books).Lawful := by
  have fresh (k : HeadId) : b.nextSeq ∉ b.bags k := fun mem => by
    obtain ⟨x, here, same, -⟩ := (lawful.judged _).1 ⟨k, mem⟩
    exact lawful.next (List.mem_map.2 ⟨x, here, same⟩)
  have held (k : HeadId) (q : Nat) (mem : q ∈ bags k) : q ∈ b.bags k ∨ k = h ∧ q = b.nextSeq := by
    rcases eq_or_ne k h with rfl | ne
    · exact ((mine q).1 mem).imp_right fun same => ⟨rfl, same⟩
    · exact .inl (others k ne ▸ mem)
  have kept (k : HeadId) (q : Nat) (mem : q ∈ b.bags k) : q ∈ bags k := by
    rcases eq_or_ne k h with rfl | ne
    · exact (mine q).2 (.inl mem)
    · exact others k ne ▸ mem
  have waits : r.counts = false := by simp [Record.counts, state]
  have grounded (f : InFlight) (fly : b.lift.inFlight = some f) : r.seq ≠ f.seq := fun same => by
    obtain ⟨x, here, is⟩ := lawful.flying fly
    exact lawful.next (List.mem_map.2 ⟨x, here, is.trans (same.symm.trans seq)⟩)
  refine ⟨fun k => ?_, fun k j q inK inJ => ?_, fun q => ⟨fun ⟨k, mem⟩ => ?_, fun ⟨x, mem, same, is⟩ => ?_⟩, ?_, next, ?_,
    fun n v here => ?_, fun f fly x mem same => ?_, lawful.quiet⟩
  · rcases eq_or_ne k h with rfl | ne
    · exact once
    · simpa only [others k ne] using lawful.once k
  · rcases held k _ inK with oldK | ⟨rfl, rfl⟩ <;> rcases held j _ inJ with oldJ | ⟨rfl, same⟩
    · exact lawful.apart k j _ oldK oldJ
    · exact absurd (same ▸ oldK) (fresh k)
    · exact absurd oldJ (fresh j)
    · rfl
  · rcases held k q mem with old | ⟨-, rfl⟩
    · obtain ⟨x, here, same, is⟩ := (lawful.judged q).1 ⟨k, old⟩
      exact ⟨x, List.mem_append_left _ here, same, is⟩
    · exact ⟨r, by simp, seq, state⟩
  · rcases List.mem_append.1 mem with old | new
    · obtain ⟨k, here⟩ := (lawful.judged q).2 ⟨x, old, same, is⟩
      exact ⟨k, kept k q here⟩
    · obtain rfl := List.mem_singleton.1 new
      exact ⟨h, (mine q).2 (.inr (same.symm.trans seq))⟩
  · rw [List.map_append, List.nodup_append]
    refine ⟨lawful.distinct, by simp, fun x old y new => ?_⟩
    rw [List.map_singleton, List.mem_singleton, seq] at new
    exact fun same => lawful.next (new ▸ same ▸ old)
  · exact Lift.agrees_append lawful.lift state grounded
  · have counted : countedAmong (b.records ++ [r]) n = countedAmong b.records n := by
      simp [countedAmong, List.filter_append, waits]
    unfold tallies
    rw [counted]
    exact lawful.bins n v here
  · rcases List.mem_append.1 mem with old | new
    · exact lawful.flight f fly x old same
    · obtain rfl := List.mem_singleton.1 new
      exact absurd same (grounded f fly)

namespace State.Accounts

/-- A head in EXAMINE spends its reservation on a record, and has not yet moved on (R86, R92). -/
theorem createRecord {make : Nat → Record} (fs : s.Sound) (state : (s.head h).state = .examine)
    (seq : ∀ n, (make n).seq = n) (judged : ∀ n, (make n).state = .judged) :
    (createRecord h make s).Accounts Books.Lawful (some h) := by
  have sound := fs.head h
  have held := sound.reserving.held (by rw [state]; rfl)
  have clear := sound.reserving.noRecord held
  have room := fs.counted_le
  have positive := fs.reserved held
  have others (k : HeadId) (ne : k ≠ h) : (Machine.createRecord h make s).head k = s.head k :=
    createRecord_head_of_ne s make ne
  have spent : (Machine.createRecord h make s).log.reservations = s.log.reservations - 1 := by
    simp [Machine.createRecord, held]
  have bags : ((Machine.createRecord h make s).head h).bags = (s.head h).staging ++ [s.log.nextSeq] := by
    rw [createRecord_head]
    rfl
  have before : (s.head h).bags = (s.head h).staging := by simp [Head.bags, clear]
  have fresh : s.log.nextSeq ∉ (s.head h).bags := fun mem => by
    obtain ⟨x, here, same, -⟩ := (fs.lawful.judged _).1 ⟨h, mem⟩
    exact fs.lawful.next (List.mem_map.2 ⟨x, here, same⟩)
  have books : (Machine.createRecord h make s).books = { s.books with
      bags := fun k => ((Machine.createRecord h make s).head k).bags
      records := s.log.records ++ [make s.log.nextSeq]
      nextSeq := (Machine.createRecord h make s).log.nextSeq } := by
    simp [State.books, heads_show_congr Head.starting others (by rw [createRecord_head]; rfl)]
  refine (fs.begin h).change others ?_ ?_ (by simp) ?_
  · rw [spent, createRecord_head, held]
    simp only [Bool.toNat_true, Bool.toNat_false]
    omega
  · rw [createRecord_records, spent, List.length_append, List.length_singleton]
    omega
  · rw [books]
    refine fs.lawful.append (h := h) (seq _) (judged _) (fun q => ?_) ?_ (fun k ne => ?_) ?_
    · rw [bags, List.mem_append, List.mem_singleton]
      exact or_congr (by rw [← before]; rfl) Iff.rfl
    · rw [bags, List.nodup_append]
      refine ⟨before ▸ fs.lawful.once h, by simp, fun x old y new same => fresh ?_⟩
      rw [before, ← List.mem_singleton.1 new, ← same]
      exact old
    · rw [others k ne]
      rfl
    · refine nextSeqAfter_not_mem ?_ _
      simp only [List.length_map, List.length_append, List.length_singleton]
      simp only [logCapacity] at room
      show s.log.records.length + 1 < _
      omega

end State.Accounts

namespace State.Sound

theorem judge {w : WeighOutcome} (fs : s.Sound) (state : (s.head h).state = .examine) : (Machine.judge h w s).Sound := by
  have working := (fs.head h).working (by simp [state]) (by simp [state, HeadState.isFault])
  have made : (s.recorded h w).Accounts Books.Lawful (some h) :=
    State.Accounts.createRecord fs state (fun _ => rfl) fun _ => rfl
  have head : (s.recorded h w).head h = (Machine.createRecord h (judgedRecord h (s.head h) w (s.lookupOf h)
      (toleranceFor s.judge (s.lookupOf h))) s).head h := rfl
  have mode : (s.recorded h w).mode = s.mode := by simp [State.recorded, State.mode]
  rw [judge_eq]
  refine (State.Accounts.updateHeadStats made.notify).enterDischarge ?_ ?_ <;>
    simp only [updateHeadStats_frame, notify_frame, head, mode, createRecord_head]
  exact ⟨working.two, working.awake, working.night⟩

theorem headOutcome {w : WeighOutcome} (fs : s.Sound) : (headOutcome h w s).Sound := by
  simp only [Machine.headOutcome]
  split
  · next state =>
    have held : (Machine.updateHead h (fun hd => { hd with weighing := some w }) s).Sound := fs.updateHead
    split
    · exact held.judge (by rw [updateHead_head]; exact state)
    · exact held
  · exact fs

/-! ### Weighings and readings -/

theorem endStep {w : WeighOutcome} {average : Int} (fs : s.Sound) : (endStep h w average s).Sound :=
  fs.of_same (by simp) (by simp) (by simp) (by simp) (by simp)

theorem finishWeighing {w : WeighOutcome} {average : Int} (fs : s.Sound) : (finishWeighing h w average s).Sound := by
  simp only [Machine.finishWeighing]
  repeat' split
  · exact headOutcome (State.Accounts.abandonWeighing fs)
  · exact endStep (State.Accounts.abandonWeighing fs)
  · exact fs

theorem startWeighing {q : Requester} (fs : s.Sound) : (startWeighing h q s).Sound := by
  simp only [Machine.startWeighing]
  repeat' split
  · exact finishWeighing (State.Accounts.refreshIdle (State.Accounts.updateChannel fs))
  · exact fs
  · exact fs

/-- A head with a reservation and a clear record enters EXAMINE (R10). -/
theorem enterExamine_begun (fs : s.Accounts Books.Lawful (some h)) (working : (s.head h).Working (s.mode = .day))
    (held : (s.head h).reservation = true) (clear : (s.head h).cradleRecord = none) : (enterExamine h s).Sound :=
  startWeighing (fs.moveHead (.of_admitting ⟨working.two, working.awake, working.night⟩ rfl held clear))

/-- A head that admits a bag enters EXAMINE (R8, R9, R26). -/
theorem enterExamine (fs : s.Sound) (admits : (s.head h).state.admitting = true) : (enterExamine h s).Sound := by
  have sound := fs.head h
  obtain ⟨closed, fault⟩ := HeadState.busy_of_admitting admits
  exact enterExamine_begun (fs.begin h) (sound.working closed fault) (sound.reserving.held admits) (sound.noRecord admits)

/-- A head with a reservation and a clear record enters RECOVER (R26). -/
theorem enterRecover_begun (fs : s.Accounts Books.Lawful (some h)) (working : (s.head h).Working (s.mode = .day))
    (held : (s.head h).reservation = true) (clear : (s.head h).cradleRecord = none) : (enterRecover h s).Sound := by
  have moved : (Machine.moveHead h (fun hd => { hd with
      state := .recover
      latched := .ofSettings hd.settings
      beamCount := 1
      restarted := true
      earlyLanding := false
      tags := []
      windowDone := false
      weighing := none
      landed := none }) s).Sound :=
    fs.moveHead (.of_admitting ⟨working.two, working.awake, working.night⟩ rfl held clear)
  simp only [Machine.enterRecover]
  split
  · exact moved.enterExamine (by rw [moveHead_head]; rfl)
  · exact moved.askWarm
  · exact moved.askWarm
  · exact (show State.Sound _ from moved.askWarm).enterExamine (by simp only [askWarm_frame, moveHead_head]; rfl)

theorem headChannelIdle (fs : s.Sound) : (headChannelIdle h s).Sound := by
  have sound := fs.head h
  simp only [Machine.headChannelIdle]
  split
  · next state =>
    have vacant := sound.vacant (by rw [state]; rfl) (by rw [state]; rfl) (sound.reserving.warming state)
    have working := sound.working (by simp [state]) (by simp [state, HeadState.isFault])
    split
    · exact fs.enterFault working.awake
    · split
      · next taken => exact ((fs.begin h).readied vacant working taken).signalIfFull
      · exact (fs.begin h).closeHead vacant
  · next state => exact fs.enterExamine (by rw [state]; rfl)
  · exact fs

theorem stepChannelIdle (fs : s.Sound) : (stepChannelIdle h s).Sound := by
  simp only [Machine.stepChannelIdle]
  repeat' split
  · exact startWeighing fs
  · exact fs
  · exact fs

theorem countReading {w : WeighRecord} {r : Reading} (fs : s.Sound) : (countReading h w r s).Sound := by
  simp only [Machine.countReading]
  repeat' split
  on_goal 3 => exact finishWeighing fs
  all_goals exact fs

theorem endWarmUp {average : Int} {saturated clear : Bool} (fs : s.Sound) : (endWarmUp h average saturated clear s).Sound := by
  have ended {u : State} {f : Channel → Channel} (fu : u.Sound) :
      (Machine.stepChannelIdle h (Machine.headChannelIdle h (Machine.refreshIdle h (Machine.updateChannel h f u)))).Sound :=
    stepChannelIdle (headChannelIdle fu)
  simp only [Machine.endWarmUp]
  repeat' split
  · exact ended fs
  · exact ended fs.zeroFailed
  · exact ended fs

theorem completeReading (fs : s.Sound) : (completeReading h s).Sound := by
  simp only [Machine.completeReading]
  split
  · exact endWarmUp fs
  · exact countReading fs
  all_goals exact fs

theorem addConversion {code : Int} (fs : s.Sound) : (addConversion h code s).Sound := by
  simp only [Machine.addConversion]
  repeat' split
  on_goal 3 => exact completeReading fs
  all_goals exact fs

theorem settleExpired (fs : s.Sound) : (settleExpired h s).Sound := by
  simp only [Machine.settleExpired]
  split
  · exact finishWeighing fs
  · exact fs

end State.Sound

end Sys2Proof.Machine
end

section
/-! The lift and the rack keep the accounts: a grant, the end of a transfer, and what release control makes of a bin (R112 to
R117, R120, R126 to R131). -/

namespace Sys2Proof.Machine

variable {law : Books → Prop} {s t u : State} {h : HeadId} {but : Option HeadId} {b : Books}

/-! ### The books of the lift -/

/-- The change of the record of one sequence number. -/
def changing (q : Nat) (f : Record → Record) (r : Record) : Record := if r.seq = q then f r else r

theorem changing_seq {q : Nat} {f : Record → Record} (seq : ∀ r, (f r).seq = r.seq) (r : Record) :
    (changing q f r).seq = r.seq := by
  unfold changing
  split
  · exact seq r
  · rfl

/-- The records in the lift are those in flight (R120). -/
theorem Lift.lifted_iff {l : LiftState} {records : List Record} (agrees : Lift.agrees l records) {r : Record}
    (mem : r ∈ records) : r.lifted = true ↔ ∃ f, l.inFlight = some f ∧ r.seq = f.seq := by
  cases l with
  | idle => simp [agrees r mem, LiftState.inFlight]
  | moving f granted =>
    obtain ⟨moves, still⟩ := agrees.2 r mem
    simp [Record.lifted, LiftState.inFlight, moves, still]
  | fault cause f =>
    obtain ⟨faulted, still⟩ := agrees.2 r mem
    simp [Record.lifted, LiftState.inFlight, faulted, still]

theorem Record.waiting_of_judged {r : Record} (state : r.state = .judged) : r.lifted = false ∧ r.counts = false := by
  simp [Record.lifted, Record.counts, state]

theorem Record.counts_of_lifted {r : Record} (lifted : r.lifted = true) : r.counts = true := by
  simp only [Record.lifted, Bool.or_eq_true, beq_iff_eq] at lifted
  rcases lifted with state | state <;> simp [Record.counts, state]

namespace Books.Lawful

/-- The record in flight takes another state in the lift, or leaves it; the bins count it as before (R127, R128, R131). -/
theorem changed (lawful : b.Lawful) {f : InFlight} (fly : b.lift.inFlight = some f) {g : Record → Record} {lift : LiftState}
    {bins : List (Nat × Nat × Nat)}
    (seq : ∀ r, (g r).seq = r.seq) (bin : ∀ r, (g r).bin = r.bin) (state : ∀ r, (g r).state ≠ .judged)
    (agrees : Lift.agrees lift (b.records.map (changing f.seq g)))
    (tally : ∀ n v, bins[n]? = some v → tallies (b.records.map (changing f.seq g)) n v)
    (flight : ∀ x, lift.inFlight = some x → x = f) (quiet : b.mode = .day → lift = .idle) :
    ({ b with records := b.records.map (changing f.seq g), lift := lift, bins := bins } : Books).Lawful := by
  refine lawful.rewrite (changing_seq seq) (fun r mem => ?_) agrees tally (fun x is r mem same => ?_) quiet
  · unfold changing
    split
    · next same =>
      have lifted := (Lift.lifted_iff lawful.lift mem).2 ⟨f, fly, same⟩
      refine iff_of_false (state r) fun judged => ?_
      rw [(Record.waiting_of_judged judged).1] at lifted
      cases lifted
    · exact Iff.rfl
  · obtain rfl := flight x is
    rw [changing, if_pos same, bin]
    exact lawful.flight x fly r mem same

/-- The same, where the record still counts in its bin. -/
theorem changed_of_counting (lawful : b.Lawful) {f : InFlight} (fly : b.lift.inFlight = some f) {g : Record → Record}
    {lift : LiftState} (seq : ∀ r, (g r).seq = r.seq) (bin : ∀ r, (g r).bin = r.bin)
    (mass : ∀ r, (g r).allocationMass = r.allocationMass) (state : ∀ r, (g r).state ≠ .judged)
    (counts : ∀ r, (g r).counts = true) (agrees : Lift.agrees lift (b.records.map (changing f.seq g)))
    (flight : ∀ x, lift.inFlight = some x → x = f) (quiet : b.mode = .day → lift = .idle) :
    ({ b with records := b.records.map (changing f.seq g), lift := lift } : Books).Lawful := by
  refine lawful.changed fly seq bin state agrees (fun n v here => tallies_map (fun r mem => ?_) (lawful.bins n v here))
    flight quiet
  unfold changing
  split
  · next same =>
    have lifted := (Lift.lifted_iff lawful.lift mem).2 ⟨f, fly, same⟩
    exact ⟨by rw [counts, bin, Record.counts_of_lifted lifted], mass r⟩
  · exact ⟨rfl, rfl⟩

/-- With the record in flight out of the lift, the lift agrees with the log when it is IDLE (R120). -/
theorem landed (lawful : b.Lawful) {f : InFlight} (fly : b.lift.inFlight = some f) {g : Record → Record}
    (state : ∀ r, (g r).lifted = false) : Lift.agrees .idle (b.records.map (changing f.seq g)) := by
  intro x mem
  obtain ⟨r, here, rfl⟩ := List.mem_map.1 mem
  unfold changing
  split
  · exact state r
  · next other =>
    refine Bool.eq_false_iff.2 fun lifted => other ?_
    obtain ⟨y, flies, same⟩ := (Lift.lifted_iff lawful.lift here).1 lifted
    rw [fly] at flies
    cases flies
    exact same

/-- A transfer becomes a fault of the lift (R128). -/
theorem faulted (lawful : b.Lawful) {f : InFlight} {granted : Nat} (moving : b.lift = .moving f granted)
    (cause : LiftFaultCause) (night : b.mode ≠ .day) :
    ({ b with
      records := b.records.map (changing f.seq fun r => { r with state := .transferFault })
      lift := .fault cause f } : Books).Lawful := by
  have agrees := lawful.lift
  rw [moving] at agrees
  obtain ⟨⟨r, mem, same⟩, all⟩ := agrees
  refine lawful.changed_of_counting (f := f) (by rw [moving]; rfl) (fun _ => rfl) (fun _ => rfl) (fun _ => rfl)
    (fun _ => by simp) (fun _ => rfl) ⟨⟨_, List.mem_map_of_mem mem, ?_⟩, fun x here => ?_⟩ (fun x is => ?_)
    (fun day => absurd day night)
  · rw [changing, if_pos same]
    exact same
  · obtain ⟨y, old, rfl⟩ := List.mem_map.1 here
    obtain ⟨moves, still⟩ := all y old
    unfold changing
    split
    · next is => simp [is]
    · next other => simp [still, other, mt moves.1 other]
  · cases is
    rfl

/-- A transfer, or a fault of the lift, ends with its record STORED (R127, R131). -/
theorem stored (lawful : b.Lawful) {f : InFlight} (fly : b.lift.inFlight = some f) (time : Option Nat) :
    ({ b with
      records := b.records.map (changing f.seq fun r => { r with state := .stored, storedTime := time })
      lift := .idle } : Books).Lawful :=
  lawful.changed_of_counting fly (fun _ => rfl) (fun _ => rfl) (fun _ => rfl) (fun _ => by simp) (fun _ => rfl)
    (lawful.landed fly fun _ => rfl) (fun _ is => by cases is) fun _ => rfl

/-- A fault of the lift ends with its record WITHDRAWN and its bin relieved of it (R89, R116, R131). -/
theorem withdrawn (lawful : b.Lawful) {f : InFlight} (fly : b.lift.inFlight = some f) {r : Record} (mem : r ∈ b.records)
    (same : r.seq = f.seq) :
    ({ b with
      records := b.records.map (changing f.seq fun r => { r with state := .withdrawn })
      lift := .idle
      bins := b.bins.modify f.bin fun v => (v.1 - 1, v.2.1 - r.allocationMass, v.2.2) } : Books).Lawful := by
  have counts := Record.counts_of_lifted ((Lift.lifted_iff lawful.lift mem).2 ⟨f, fly, same⟩)
  have bin := lawful.flight f fly r mem same
  refine lawful.changed fly (fun _ => rfl) (fun _ => rfl) (fun _ => by simp) (lawful.landed fly fun _ => rfl)
    (fun n v here => ?_) (fun _ is => by cases is) fun _ => rfl
  rw [List.getElem?_modify] at here
  by_cases mine : f.bin = n
  · subst mine
    obtain ⟨w, old, rfl⟩ := Option.map_eq_some_iff.1 here
    rw [if_pos rfl]
    obtain ⟨before, after, whole, mapped⟩ := map_of_unique lawful.distinct mem fun r => { r with state := .withdrawn }
    have tally := lawful.bins _ w old
    rw [whole] at tally
    rw [same] at mapped
    rw [show b.records.map (changing f.seq fun r => { r with state := .withdrawn }) = _ from mapped]
    exact tallies_leave (by rw [counts, bin]; simp) (by simp [Record.counts]) tally
  · have old : b.bins[n]? = some v := by simpa [mine] using here
    refine tallies_map (fun x here => ?_) (lawful.bins n v old)
    unfold changing
    split
    · next is =>
      obtain rfl := lawful.unique here mem (is.trans same.symm)
      exact ⟨by simp [bin, beq_eq_false_iff_ne.2 mine], rfl⟩
    · exact ⟨rfl, rfl⟩

/-- The record at the front of a staging queue is granted a bin that it fits (R113, R126). -/
theorem granted (lawful : b.Lawful) (idle : b.lift = .idle) (night : b.mode ≠ .day) {r : Record} (mem : r ∈ b.records)
    {bags : HeadId → List Nat} (front : b.bags h = r.seq :: bags h) (others : ∀ k, k ≠ h → bags k = b.bags k) {n : Nat}
    (fits : ∀ v, b.bins[n]? = some v → v.1 < 8 ∧ v.2.1 + r.allocationMass ≤ v.2.2) (o : Bool) (now : Nat) :
    ({ b with
      bags := bags
      records := b.records.map (changing r.seq (Record.granted n o))
      lift := .moving ⟨r.seq, h, n⟩ now
      bins := b.bins.modify n fun v => (v.1 + 1, v.2.1 + r.allocationMass, v.2.2) } : Books).Lawful := by
  have once := lawful.once h
  rw [front, List.nodup_cons] at once
  obtain ⟨x, here, same, judged⟩ := (lawful.judged r.seq).1 ⟨h, by rw [front]; exact List.mem_cons_self ..⟩
  obtain rfl := lawful.unique here mem same
  have agrees := lawful.lift
  rw [idle] at agrees
  have waits := Record.waiting_of_judged judged
  have gone (k : HeadId) : x.seq ∉ bags k := by
    rcases eq_or_ne k h with rfl | ne
    · exact once.1
    · rw [others k ne]
      exact fun there => ne (lawful.apart k h _ there (by rw [front]; exact List.mem_cons_self ..))
  have changed (y : Record) (other : y.seq ≠ x.seq) : changing x.seq (Record.granted n o) y = y := if_neg other
  refine lawful.reform (changing_seq fun _ => rfl) (fun k => ?_) (fun q => ⟨fun ⟨k, held⟩ => ?_, fun ⟨y, old, is, state⟩ => ?_⟩)
    ⟨⟨_, List.mem_map_of_mem mem, changing_seq (f := Record.granted n o) (fun _ => rfl) x⟩, fun z new => ?_⟩ (fun m v new => ?_) (fun g fly y old is => ?_)
    (fun day => absurd day night)
  · rcases eq_or_ne k h with rfl | ne
    · rw [front]
      exact List.sublist_cons_self ..
    · rw [others k ne]
  · have there : q ∈ b.bags k := by
      rcases eq_or_ne k h with rfl | ne
      · rw [front]
        exact List.mem_cons_of_mem _ held
      · exact others k ne ▸ held
    obtain ⟨y, old, is, state⟩ := (lawful.judged q).1 ⟨k, there⟩
    have other : y.seq ≠ x.seq := fun e => gone k (e ▸ is ▸ held)
    exact ⟨y, old, is, by rw [changed y other]; exact state⟩
  · have other : y.seq ≠ x.seq := fun e => by simp [changing, e, Record.granted] at state
    rw [changed y other] at state
    obtain ⟨k, held⟩ := (lawful.judged q).2 ⟨y, old, is, state⟩
    refine ⟨k, ?_⟩
    rcases eq_or_ne k h with rfl | ne
    · rw [front] at held
      exact (List.mem_cons.1 held).resolve_left fun e => other (is.trans e)
    · exact (others k ne).symm ▸ held
  · obtain ⟨y, old, rfl⟩ := List.mem_map.1 new
    by_cases e : y.seq = x.seq
    · simp [changing, e, Record.granted]
    · rw [changed y e]
      have lifted := agrees y old
      simp only [Record.lifted, Bool.or_eq_false_iff, beq_eq_false_iff_ne] at lifted
      simp [lifted, e]
  · rw [List.getElem?_modify] at new
    by_cases mine : n = m
    · subst mine
      obtain ⟨w, old, rfl⟩ := Option.map_eq_some_iff.1 new
      rw [if_pos rfl]
      obtain ⟨before, after, whole, mapped⟩ := map_of_unique lawful.distinct mem (Record.granted n o)
      have tally := lawful.bins _ w old
      obtain ⟨space, room⟩ := fits w old
      rw [whole] at tally
      rw [show b.records.map (changing x.seq (Record.granted n o)) = _ from mapped]
      exact tallies_join (x := x.granted n o) (by rw [waits.2]; rfl) (by simp [Record.granted, Record.counts]) space room tally
    · have old : b.bins[m]? = some v := by simpa [mine] using new
      refine tallies_map (fun y here => ?_) (lawful.bins m v old)
      by_cases e : y.seq = x.seq
      · obtain rfl := lawful.unique here mem e
        simp [changing, Record.granted, Record.allocationMass, waits.2, mine]
      · rw [changed y e]
        exact ⟨rfl, rfl⟩
  · cases fly
    rw [changing, if_pos is]
    rfl

end Books.Lawful

end Sys2Proof.Machine
end

section
/-! The line events at a head, the lift and the rack keep a state sound (R7 to R22, R112 to R131). -/

namespace Sys2Proof.Machine

variable {law law' : Books → Prop} {s t u : State} {h : HeadId} {but : Option HeadId}

/-! ### Line events at a head -/

namespace State.Accounts

theorem startDeposit (fs : s.Accounts law none) (ready : (s.head h).state = .ready) : (startDeposit h s).Accounts law none := by
  have sound := fs.head h
  have admits : (s.head h).state.admitting = true := by rw [ready]; rfl
  have working := sound.working (by simp [ready]) (by simp [ready, HeadState.isFault])
  exact ((fs.begin h).moveHead (.of_admitting ⟨working.two, working.awake, working.night⟩ rfl (sound.reserving.held admits)
    (sound.noRecord admits))).updateHeadStats

theorem countBeam (fs : s.Accounts law none) : (countBeam h s).Accounts law none := fs.updateHead

theorem chuteBeam (fs : s.Accounts law none) : (chuteBeam h s).Accounts law none := by
  simp only [Machine.chuteBeam]
  split
  · next ready => exact fs.startDeposit ready
  · exact fs.countBeam
  · exact fs.countBeam
  · exact fs

/-- A head that has made its restart decision and is at rest enters FAULT at a bag on its cradle (R22). -/
theorem cradleActivated_of_rest (fs : s.Accounts law none)
    (rest : (s.head h).state = .closed ∨ (s.head h).state.isFault = true) : (cradleActivated h s).Accounts law none := by
  simp only [Machine.cradleActivated]
  split
  case h_1 =>
    split
    · exact fs
    · next decided => exact fs.enterFault (Bool.eq_false_iff.2 decided)
  case h_7 | h_8 | h_9 | h_10 => exact fs
  all_goals
    next state => simp [state, HeadState.isFault] at rest

theorem gateShut (fs : s.Accounts law none) : (gateShut h s).Accounts law none := by
  unfold Machine.gateShut
  split
  · next cleared => exact fs.endDischarge cleared.1 cleared.2
  · exact fs

theorem outputMismatch (fs : s.Accounts law none) : (outputMismatch h s).Accounts law none := by
  have faults (state : (s.head h).state ≠ .closed) : (Machine.enterFault h .outputFault s).Accounts law none :=
    fs.enterFault ((fs.head h).awake state)
  unfold Machine.outputMismatch
  split
  · exact fs
  · split
    · exact fs
    · next decided => exact fs.enterFault (Bool.eq_false_iff.2 decided)
  all_goals
    next state => exact faults (by rw [state]; nofun)

end State.Accounts

namespace State.Sound

theorem intakeShut (fs : s.Sound) : (intakeShut h s).Sound := by
  have sound := fs.head h
  simp only [Machine.intakeShut]
  split
  · next ready =>
    split
    · exact fs.closeReady ready
    · exact fs
  · next state =>
    have admits : (s.head h).state.admitting = true := by rw [state]; rfl
    have working := sound.working (by simp [state]) (by simp [state, HeadState.isFault])
    split
    · exact fs.enterExamine admits
    · exact (fs.begin h).moveHead (.of_admitting ⟨working.two, working.awake, working.night⟩ rfl
        (sound.reserving.held admits) (sound.noRecord admits))
  · exact fs

theorem cradleActivated (fs : s.Sound) : (cradleActivated h s).Sound := by
  have faults (state : (s.head h).state ≠ .closed) : (Machine.enterFault h .unexpectedCradle s).Sound :=
    fs.enterFault ((fs.head h).awake state)
  simp only [Machine.cradleActivated]
  split
  · split
    · exact fs
    · next decided => exact fs.enterFault (Bool.eq_false_iff.2 decided)
  · next state => exact faults (by rw [state]; nofun)
  · next state => exact faults (by rw [state]; nofun)
  · exact fs.updateHead
  · next state => exact fs.enterExamine (by rw [state]; rfl)
  · next state =>
    split
    · exact faults (by rw [state]; nofun)
    · exact fs
  all_goals exact fs

theorem cradleDeactivated (fs : s.Sound) : (cradleDeactivated h s).Sound := by
  simp only [Machine.cradleDeactivated]
  split
  · exact fs.updateHead
  · next state => exact fs.loseBag (by rw [state]; rfl)
  · next state => exact fs.cradleCleared state
  · next state => exact fs.enterFault ((fs.head h).awake (by rw [state]; nofun))
  · next state => exact fs.loseBag (by rw [state]; rfl)
  all_goals exact fs

theorem headEdge {role : Nat} {up : Bool} (fs : s.Sound) : (headEdge h role up s).Sound := by
  unfold Machine.headEdge
  split
  · exact fs.intakeShut
  · exact fs.chuteBeam
  · exact fs.cradleActivated
  · exact fs.cradleDeactivated
  · exact fs.gateShut
  · exact fs

end State.Sound

/-! ### The books of a state -/

/-- The heads as they were, and books that another law takes. -/
theorem State.Accounts.rebook (fs : s.Accounts law but) (heads : t.heads = s.heads)
    (reservations : t.log.reservations = s.log.reservations) (fewer : t.log.records.length ≤ s.log.records.length)
    (mode : t.mode = s.mode) (lawful : law' t.books) : t.Accounts law' but := by
  refine ⟨lawful, ?_, ?_, fun k ne => ?_⟩
  · rw [heads, reservations]
    exact fs.counted
  · have room := fs.counted_le
    show t.log.records.length + t.log.reservations ≤ logCapacity
    omega
  · have sound := fs.sound k ne
    rw [heads]
    rw [show t.books.mode = s.books.mode from mode]
    exact sound

/-- A change of one bin that keeps its figures keeps the accounts. -/
theorem State.Accounts.updateBin {n : Nat} {f : Bin → Bin} (fs : s.Accounts law but) (same : ∀ b, (f b).figures = b.figures) :
    (s.updateBin n f).Accounts law but :=
  fs.of_figures rfl rfl (by simp only [State.books, State.updateBin, figures_modify_of_same same]; rfl)

theorem State.Accounts.setLock {n : Nat} {l : LockState} (fs : s.Accounts law but) : (setLock n l s).Accounts law but :=
  fs.updateBin fun _ => rfl

theorem State.Checked.accounts {n : Nat} (a : s.Checked n t) (fs : s.Accounts law but) : t.Accounts law but :=
  fs.of_figures a.heads (by rw [a.log])
    (by simp only [State.books, State.head, State.mode, a.heads, a.log, a.lift, a.release]; rw [a.rack])

/-! ### Grants -/

/-- A bin that a fit check answers fits the record (R111, R112). -/
theorem BinTable.fits_of_fit {table : BinTable} {zone n : Nat} {r : Record} {o : Bool}
    (fit : table.fit zone r = if o = true then .overflow n else .first n) {b : Bin} (here : table.bins[n]? = some b) :
    b.fits r.allocationMass = true := by
  have lowest {kind : Bin → Bool} (found : table.lowest kind r.allocationMass = some n) : b.fits r.allocationMass = true := by
    obtain ⟨lt, holds, -⟩ := List.findIdx?_eq_some_iff_getElem.1 found
    obtain rfl : table.bins[n] = b := by rw [List.getElem?_eq_getElem lt] at here; exact Option.some.inj here
    exact (Bool.and_eq_true_iff.1 holds).2
  simp only [BinTable.fit] at fit
  cases o <;> simp only [Bool.false_eq_true, if_false, if_true] at fit
  all_goals repeat' split at fit
  all_goals simp only [reduceCtorEq, Fit.first.injEq, Fit.overflow.injEq] at fit
  all_goals
    subst fit
    next found => exact lowest found

/-- The record at the front of a staging queue is in the log (R122). -/
theorem State.front_spec {r : Record} (front : s.front h = some r) :
    r ∈ s.log.records ∧ ∃ rest, (s.head h).staging = r.seq :: rest := by
  unfold State.front at front
  split at front
  · cases front
  · next q rest staging =>
    obtain rfl : r.seq = q := by simpa using List.find?_some front
    exact ⟨List.mem_of_find?_eq_some front, rest, staging⟩

/-- A head whose front bag is let go is sound outside DAY. -/
theorem Head.Sound.popped {day : Prop} {hd : Head} (hs : hd.Sound day) :
    ({ hd with staging := hd.staging.tail } : Head).Sound day where
  reserving := by
    obtain ⟨held, only, noRecord, warming, closed, awaiting⟩ := hs.reserving
    exact ⟨held, only, noRecord, warming, closed, awaiting⟩
  staged := by
    obtain ⟨two, room⟩ := hs.staged
    have shorter : hd.staging.tail.length ≤ hd.staging.length := by simp
    exact ⟨shorter.trans two, fun state record => shorter.trans_lt (room state record)⟩
  rest isDay := by
    obtain ⟨state, staging, record⟩ := hs.rest isDay
    exact ⟨state, by rw [staging]; rfl, record⟩

/-- The state in which an allocation is charged and the front bag let go, before the head's next work (R126). -/
def State.lettingGo (s : State) (h : HeadId) (r : Record) (n : Nat) (o : Bool) : State :=
  (allocate r n o s).setHead h { s.head h with staging := (s.head h).staging.tail }

theorem lettingGo_books {r : Record} {n : Nat} {o : Bool} : (s.lettingGo h r n o).books = { s.books with
    bags := fun k => if k = h then (s.head h).staging.tail ++ (s.head h).cradleRecord.toList else (s.head k).bags
    bins := s.books.bins.modify n fun v => (v.1 + 1, v.2.1 + r.allocationMass, v.2.2) } := by
  have heads (k : HeadId) : (s.lettingGo h r n o).head k =
      if k = h then { s.head h with staging := (s.head h).staging.tail } else s.head k := by
    unfold State.lettingGo
    split
    · next same => rw [same, State.setHead_head]
    · next ne => rw [State.setHead_head_of_ne _ _ ne]; simp
  have bags : (fun k => ((s.lettingGo h r n o).head k).bags) =
      fun k => if k = h then (s.head h).staging.tail ++ (s.head h).cradleRecord.toList else (s.head k).bags := funext fun k => by
    rw [heads]
    split <;> rfl
  have starting : (fun k => ((s.lettingGo h r n o).head k).starting) = fun k => (s.head k).starting := funext fun k => by
    rw [heads]
    split
    · next same => rw [same]; rfl
    · rfl
  have rest : (s.lettingGo h r n o).log = s.log ∧ (s.lettingGo h r n o).lift = s.lift ∧
      (s.lettingGo h r n o).rack.bins = s.rack.bins.modify n (fun b =>
        { b with count := b.count + 1, mass := b.mass + r.allocationMass }) ∧ (s.lettingGo h r n o).mode = s.mode := by
    simp [State.lettingGo, State.mode]
  obtain ⟨log, lift, bins, mode⟩ := rest
  simp only [State.books, bags, starting, log, lift, bins, mode]
  rw [figures_modify (g := fun v => (v.1 + 1, v.2.1 + r.allocationMass, v.2.2)) fun _ => rfl]

theorem lettingGo_accounts {r : Record} {n : Nat} {o : Bool} (fs : s.Accounts law none) :
    (s.lettingGo h r n o).Accounts (· = (s.lettingGo h r n o).books) none := by
  have mine : (s.lettingGo h r n o).head h = { s.head h with staging := (s.head h).staging.tail } := State.setHead_head ..
  have others (k : HeadId) (ne : k ≠ h) : (s.lettingGo h r n o).head k = s.head k := by
    rw [State.lettingGo, State.setHead_head_of_ne _ _ ne]
    simp
  have log : (s.lettingGo h r n o).log = s.log := by simp [State.lettingGo]
  refine State.Accounts.finish (h := h) ((fs.begin h).change others ?_ ?_ (by rw [State.mode]; simp [State.lettingGo, State.mode])
    rfl) ?_
  · rw [log, mine]
  · rw [log]
    exact fs.counted_le
  · rw [mine]
    simpa [State.lettingGo, State.mode] using (fs.head h).popped

/-- A grant: the front bag let go with its work done, and then the record and the lift (R126). -/
theorem grant_eq (h : HeadId) (r : Record) (n : Nat) (o : Bool) (run : Nat) (s : State) :
    Machine.grant h r n o run s = updateStats (fun t => { t with transfers := countUp t.transfers })
      (let y := giveOrder (.move h n) ((leaveHold h (s.lettingGo h r n o)).updateRecord r.seq (Record.granted n o))
       { y with lift := { y.lift with
          state := .moving ⟨r.seq, h, n⟩ y.now
          lastHead := h
          runCount := run
          transferTimer := some y.lift.transferTime
          moveOutstanding := some n } }) := by
  have head : (allocate r n o s).head h = s.head h := by simp
  simp only [grant, head, State.lettingGo]
  rfl

theorem leaveHold_lettingGo {r : Record} {n : Nat} {o : Bool} (fs : s.Accounts law none) :
    (leaveHold h (s.lettingGo h r n o)).Accounts (· = (s.lettingGo h r n o).books) none :=
  (lettingGo_accounts fs).leaveHold

/-- A grant leaves no head and lets none await its restart decision. -/
theorem grant_starting {r : Record} {n run : Nat} {o : Bool} (fs : s.Accounts law none) (k : HeadId) :
    ((grant h r n o run s).head k).starting = (s.head k).starting := by
  have same : (leaveHold h (s.lettingGo h r n o)).books = (s.lettingGo h r n o).books := (leaveHold_lettingGo fs).lawful
  rw [lettingGo_books] at same
  rw [grant_eq]
  exact congrFun (congrArg Books.starting same) k

namespace State.Sound

theorem grant {r : Record} {n run : Nat} {o : Bool} (fs : s.Sound) (idle : s.lift.state = .idle)
    (front : s.front h = some r) (fit : s.fitOf r = if o = true then .overflow n else .first n) :
    (grant h r n o run s).Sound := by
  obtain ⟨mem, rest, staging⟩ := State.front_spec front
  have left := leaveHold_lettingGo (h := h) (r := r) (n := n) (o := o) fs
  have same : (Machine.leaveHold h (s.lettingGo h r n o)).books = (s.lettingGo h r n o).books := left.lawful
  rw [grant_eq]
  refine left.rebook rfl rfl (le_of_eq (List.length_map ..)) rfl ?_
  let posted := (Machine.leaveHold h (s.lettingGo h r n o)).books
  show Books.Lawful { posted with
    records := posted.records.map (changing r.seq (Record.granted n o))
    lift := .moving ⟨r.seq, h, n⟩ (Machine.leaveHold h (s.lettingGo h r n o)).now }
  simp only [posted, same, lettingGo_books]
  refine fs.lawful.granted idle (fun day => ?_) mem ?_ (fun k ne => ?_) (fun v here => ?_) o _
  · have empty := (fs.head h).emptied day
    rw [staging] at empty
    cases empty
  · simp [State.books, Head.bags, staging]
  · simp [State.books, ne]
  · rw [State.books, List.getElem?_map, Option.map_eq_some_iff] at here
    obtain ⟨b, bin, rfl⟩ := here
    have fits := BinTable.fits_of_fit fit bin
    simp only [Bin.fits, Bool.and_eq_true, decide_eq_true_eq] at fits
    exact ⟨fits.1.2, fits.2⟩

/-- An arbitration keeps a state sound (R123). -/
theorem arbitrate (fs : s.Sound) : (arbitrate s).Sound := by
  have outcome := arbitrated s
  generalize Machine.arbitrate s = t at outcome ⊢
  cases outcome with
  | checked checked => exact checked.accounts fs
  | granted n idle checked front fit =>
    exact State.Sound.grant (checked.accounts fs) (by rw [checked.lift]; exact idle) (by rw [checked.front]; exact front)
      (by rw [checked.fitOf]; exact fit)

theorem arbitrate_starting (fs : s.Sound) (k : HeadId) : ((Machine.arbitrate s).head k).starting = (s.head k).starting := by
  have outcome := arbitrated s
  generalize Machine.arbitrate s = t at outcome ⊢
  cases outcome with
  | checked checked => rw [checked.head]
  | granted n idle checked front fit => rw [grant_starting (checked.accounts fs), checked.head]

theorem arbitrateIfFilled {before : State} (fs : s.Sound) : (arbitrateIfFilled before s).Sound := by
  unfold Machine.arbitrateIfFilled
  split
  · exact fs.arbitrate
  · exact fs

/-! ### The end of a transfer -/

/-- The lift is not at work in DAY (R138). -/
theorem night_of_flight (fs : s.Sound) {f : InFlight} (fly : s.lift.state.inFlight = some f) : s.mode ≠ .day := fun day => by
  rw [show s.lift.state = .idle from fs.lawful.quiet day] at fly
  cases fly

theorem enterLiftFault {d : LiftFaultDetail} {f : InFlight} {granted : Nat} (fs : s.Sound)
    (moving : s.lift.state = .moving f granted) : (enterLiftFault d f s).Sound := by
  have faulted : State.Sound (State.updateRecord { s with lift := { s.lift with
      state := .fault d.cause f, transferTimer := none } } f.seq fun r => { r with state := .transferFault }) :=
    fs.rebook rfl rfl (le_of_eq (List.length_map ..)) rfl
      (fs.lawful.faulted moving d.cause (fs.night_of_flight (by rw [moving]; rfl)))
  exact faulted.notify.reportAlarm.updateStats

theorem moveAnswered (fs : s.Sound) : (moveAnswered s).Sound := fs

/-- The record in flight is STORED and the lift IDLE (R127, R131). -/
theorem storeInFlight {f : InFlight} {mark : StoredMark} (fs : s.Sound) (fly : s.lift.state.inFlight = some f) :
    (liftIdle (storeInFlight f mark s)).Sound := by
  have stored : State.Sound (liftIdle (s.updateRecord f.seq fun r => { r with state := .stored, storedTime := some s.now })) :=
    fs.rebook rfl rfl (le_of_eq (List.length_map ..)) rfl (fs.lawful.stored fly (some s.now))
  exact stored.of_same (by simp [Machine.storeInFlight]) (by simp [Machine.storeInFlight])
    (by simp [Machine.storeInFlight, liftIdle]) (by simp [Machine.storeInFlight]) (by simp [Machine.storeInFlight])

theorem retrieveInFlight {f : InFlight} (fs : s.Sound) (fly : s.lift.state.inFlight = some f) :
    (liftIdle (retrieveInFlight f s)).Sound := by
  obtain ⟨x, mem, same⟩ := fs.lawful.flying fly
  have found : ∃ r, s.record f.seq = some r ∧ r ∈ s.log.records ∧ r.seq = f.seq := by
    cases e : s.record f.seq with
    | none => exact absurd same (by simpa using List.find?_eq_none.1 e x mem)
    | some r => exact ⟨r, rfl, List.mem_of_find?_eq_some e, by simpa using List.find?_some e⟩
  obtain ⟨r, found, here, seq⟩ := found
  refine fs.rebook rfl rfl (le_of_eq (List.length_map ..)) rfl ?_
  have lawful := fs.lawful.withdrawn fly here seq
  have books : (liftIdle (Machine.retrieveInFlight f s)).books = { s.books with
      records := s.log.records.map (changing f.seq fun r => { r with state := .withdrawn })
      lift := .idle
      bins := s.books.bins.modify f.bin fun v => (v.1 - 1, v.2.1 - r.allocationMass, v.2.2) } := by
    simp only [State.books, Machine.retrieveInFlight, liftIdle, retrieve, State.updateBin, found]
    rw [← figures_modify (f := fun b : Bin => { b with count := b.count - 1, mass := b.mass - r.allocationMass })
      (g := fun v => (v.1 - 1, v.2.1 - r.allocationMass, v.2.2)) fun _ => rfl]
    rfl
  rw [books]
  exact lawful

theorem moveReport {rep : LateReport} (fs : s.Sound) : (moveReport rep s).Sound := by
  unfold Machine.moveReport
  split
  · exact fs
  · split
    · exact fs
    · next moving =>
      split
      · split
        · exact (fs.storeInFlight (by rw [moving]; rfl)).arbitrate
        · exact fs.moveAnswered.enterLiftFault moving
      · exact fs.moveAnswered.enterLiftFault moving
    · exact fs.moveAnswered.notify

end State.Sound

end Sys2Proof.Machine
end

section
/-! Release control and the bin table keep a state sound: openings, modes, reservations, unlocks, the emptying of a bin, and
the drain evaluation (R5, R85, R90, R107, R117, R138 to R157). -/

namespace Sys2Proof.Machine

variable {law law' : Books → Prop} {s t u : State} {h : HeadId} {but : Option HeadId} {b : Books}

/-! ### Opening heads -/

theorem openHead_release (h : HeadId) (s : State) : (openHead h s).2.release = s.release := by
  unfold openHead
  split
  · dsimp only
    split
    · simp
    · simp
    all_goals
      split
      · next taken =>
        obtain ⟨-, -, -, -, -, -, release, -⟩ := takeReservation_frame _ taken
        simp [release]
      · simp
  · simp

namespace State.Sound

theorem openHead (fs : s.Sound) (awake : (s.head h).starting = false) (night : s.mode ≠ .day) : (openHead h s).2.Sound := by
  have opened : (Machine.updateHead h (fun hd => { hd with closePending := none }) s).Sound := fs.updateHead
  unfold Machine.openHead
  split
  · next closed =>
    have sound := fs.head h
    have vacant := sound.vacant (by rw [closed]; rfl) (by rw [closed]; rfl) (sound.reserving.closed closed awake)
    have warmed (u : State) (fu : u.Sound) (head : u.head h = (Machine.updateHead h (fun hd => { hd with closePending := none })
        s).head h) (mode : u.mode = s.mode) : (Machine.moveHead h (fun hd => { hd with state := .warming }) u).Sound := by
      refine (fu.begin h).moveHead ?_
      rw [head, updateHead_head, mode]
      exact .of_warming ⟨vacant.unreserved, vacant.noRecord, vacant.two, vacant.rest⟩ ⟨vacant.two, awake, night⟩ rfl
    dsimp only
    split
    · exact warmed _ opened.askWarm (by simp) (by simp)
    · exact warmed _ opened.askWarm (by simp) (by simp)
    all_goals
      split
      · next taken =>
        refine (opened.askWarm.begin h).readied ?_ ?_ taken <;>
          simp only [askWarm_frame, updateHead_head, updateHead_frame]
        · exact ⟨vacant.unreserved, vacant.noRecord, vacant.two, vacant.rest⟩
        · exact ⟨vacant.two, awake, night⟩
      · exact opened
  · exact opened

theorem decideOpenings {auto full : Bool} {l : List HeadId} (fs : s.Sound) (night : s.mode ≠ .day) :
    (decideOpenings auto l full s).2.2.Sound := by
  induction l generalizing full s with
  | nil => exact fs
  | cons k rest ih =>
    unfold Machine.decideOpenings
    split
    · split
      · exact ih fs.notify (by simpa using night)
      · exact ih fs night
    · next passes =>
      have awake : (s.head k).starting = false := by
        unfold openRefusal at passes
        repeat' split at passes
        all_goals simp_all
      refine ih (fs.openHead awake night) ?_
      rw [State.mode, openHead_release]
      exact night

theorem openHeads {auto : Bool} {l : List HeadId} (fs : s.Sound) (night : s.mode ≠ .day) : (openHeads auto l s).2.Sound := by
  have decided := fs.decideOpenings (auto := auto) (full := false) (l := l) night
  unfold Machine.openHeads
  dsimp only
  split
  · exact decided.logFullSignal
  · exact decided

/-! ### Modes -/

/-- The mode changes to one that the lift and the heads agree with (R138). -/
theorem changeMode {m : Mode} {source : ModeSource} (fs : s.Sound)
    (rest : m.name = .day → s.lift.state = .idle ∧ ∀ k, ((s.head k).state = .closed ∨ (s.head k).state.isFault = true) ∧
      (s.head k).staging = [] ∧ ((s.head k).cradleRecord = none ∨ (s.head k).starting = true)) :
    (changeMode m source s).Sound := by
  have changed : State.Sound { s with release := { s.release with mode := m } } := by
    refine ⟨⟨fs.lawful.once, fs.lawful.apart, fs.lawful.judged, fs.lawful.distinct, fs.lawful.next, fs.lawful.lift,
      fs.lawful.bins, fs.lawful.flight, fun day => ?_⟩, fs.counted, fs.room, fun k _ => ?_⟩
    · obtain ⟨idle, -⟩ := rest day
      exact idle
    · have sound := fs.head k
      refine ⟨sound.reserving, sound.staged, fun day => ?_⟩
      obtain ⟨-, heads⟩ := rest day
      exact heads k
  exact changed.notify

/-- The drain condition makes DAY safe to enter (R142). -/
theorem evaluateDrain (fs : s.Sound) : (evaluateDrain s).Sound := by
  unfold Machine.evaluateDrain
  split
  · split
    · next drained =>
      refine fs.changeMode fun _ => ?_
      simp only [drainCondition, Bool.and_eq_true, List.all_eq_true, beq_iff_eq, List.isEmpty_iff] at drained
      obtain ⟨heads, idle⟩ := drained
      refine ⟨idle, fun k => ?_⟩
      obtain ⟨drains, empty⟩ := heads k (mem_allHeads k)
      simp only [headDrained, Bool.or_eq_true, beq_iff_eq, Bool.and_eq_true, Option.isNone_iff_eq_none] at drains
      refine ⟨drains.imp_right fun ⟨⟨fault, _⟩, _⟩ => fault, empty, ?_⟩
      rcases drains with closed | ⟨-, clear⟩
      · cases waits : (s.head k).starting with
        | true => exact .inr rfl
        | false => exact .inl ((fs.head k).reserving.closed closed waits)
      · exact .inl clear
    · exact fs
  · exact fs
  · exact fs

theorem settleDrain {before : State} (fs : s.Sound) : (settleDrain before s).Sound := by
  unfold Machine.settleDrain
  split
  · exact fs.evaluateDrain
  · exact fs

theorem settled {f : State → State} (fs : (f s).Sound) : (settled f s).Sound := by
  have filled : (Machine.arbitrateIfFilled s (f s)).Sound := State.Sound.arbitrateIfFilled fs
  exact filled.settleDrain

/-- Heads that work in turn, each with a property that its work and the arbitration after it keep. -/
theorem settledInTurn {l : List (State → State)} {p : State → Prop} (fs : s.Sound) (start : p s)
    (keeps : ∀ f ∈ l, ∀ u : State, u.Sound → p u → (f u).Sound ∧ p (Machine.arbitrateIfFilled u (f u))) :
    (settledInTurn l s).Sound := by
  have all : (l.foldl (fun s f => withArbitration f s) s).Sound ∧ p (l.foldl (fun s f => withArbitration f s) s) :=
    List.foldlRecOn (motive := fun u => u.Sound ∧ p u) l _ ⟨fs, start⟩ fun u held f mem =>
      have next := keeps f mem u held.1 held.2
      ⟨State.Sound.arbitrateIfFilled next.1, next.2⟩
  exact State.Sound.settleDrain all.1

end State.Sound

/-! ### Reservations and unlocks -/

namespace State.Accounts

theorem endReservation {v : Reservation} {reason : EndReason} (fs : s.Accounts law but) :
    (endReservation v reason s).Accounts law but := by
  have ended : State.Accounts law but { s with release :=
      { s.release with reservations := s.release.reservations.filter fun x => x.bin != v.bin } } := fs
  exact ended.setLock.notify

theorem activateWindow (fs : s.Accounts law but) : (activateWindow s).Accounts law but := by
  unfold Machine.activateWindow
  split <;> exact fs

theorem failUnlock {v : UnlockRecord} {cause : UnlockFailCause} (fs : s.Accounts law but) :
    (failUnlock v cause s).Accounts law but := by
  have dropped : (dropUnlock v.bin (unlockAnswered v.bin s)).Accounts law but := fs
  exact dropped.setLock.notify

theorem openLong {v : UnlockRecord} {since : Nat} (fs : s.Accounts law but) : (openLong v since s).Accounts law but := by
  have marked : (updateUnlock v.bin (fun x => { x with openLong := true, timer := none }) s).Accounts law but := fs
  exact marked.notify.reportAlarm

theorem binIsOpen {n : Nat} (fs : s.Accounts law but) : (binIsOpen n s).Accounts law but := by
  have answered : (unlockAnswered n s).Accounts law but := fs
  exact answered.setLock

end State.Accounts

namespace State.Sound

theorem cancelReservations (fs : s.Sound) : (cancelReservations s).Sound := by
  unfold Machine.cancelReservations
  split
  · exact fs
  · exact State.Sound.arbitrate (fs.foldl fun _ _ ft => ft.endReservation)

theorem setNight {source : ModeSource} {out : List (HeadId × Option Refuse)} (fs : s.Sound)
    (ok : setNight source s = .ok (out, t)) : t.Sound := by
  unfold Machine.setNight at ok
  repeat' split at ok
  · cases ok
    exact fs
  · cases ok
  · cases ok
    exact State.Sound.changeMode fs.activateWindow nofun
  · cases ok
  · cases ok
    have entered : (Machine.changeMode .night source (Machine.activateWindow (Machine.cancelReservations s))).Sound :=
      State.Sound.changeMode fs.cancelReservations.activateWindow nofun
    refine State.Sound.openHeads entered.endServiceState ?_
    simp [Machine.changeMode, State.mode, Mode.name]

theorem setDay {source : ModeSource} (fs : s.Sound) : (setDay source s).Sound := by
  unfold Machine.setDay
  split
  · have pending : (Machine.changeMode (.dayPending source) source s).Sound := fs.changeMode nofun
    exact State.Sound.evaluateDrain pending.closeAll
  · exact fs
  · exact fs

theorem minuteBoundary {now : Nat} (fs : s.Sound) : (minuteBoundary now s).Sound := by
  have swept : (sweepAdvices now s).Sound := State.Accounts.foldl (s := { s with advices := _ }) fs fun _ _ ft => ft.notify
  unfold Machine.minuteBoundary evaluateSchedule
  repeat' split
  · exact swept
  · next ok => exact swept.setNight ok
  · exact swept.notify
  · exact swept.setDay
  · exact swept

theorem unlockFails {n : Nat} {cause : UnlockFailCause} (fs : s.Sound) : (unlockFails n cause s).Sound := by
  unfold Machine.unlockFails
  split
  · exact State.Sound.arbitrate fs.failUnlock
  · exact fs

end State.Sound

end Sys2Proof.Machine
end

section
/-! The emptying and the setting of a bin, the purge and the late match keep a state sound (R56, R85, R90, R99, R107, R117). -/

namespace Sys2Proof.Machine

variable {law law' : Books → Prop} {s t u : State} {h : HeadId} {but : Option HeadId} {b : Books}

theorem countedAmong_eq_nil {records : List Record} {n : Nat} (none : ∀ r ∈ records, r.counts = true → r.bin ≠ some n) :
    countedAmong records n = [] :=
  List.filter_eq_nil_iff.2 fun r mem => by
    simp only [Bool.and_eq_true, beq_iff_eq, not_and]
    exact none r mem

/-- A bin that counts nothing (R115). -/
theorem tallies_empty {records : List Record} {n limit : Nat} (none : countedAmong records n = []) :
    tallies records n (0, 0, limit) := by
  simp [tallies, none]

namespace Books.Lawful

/-- With the lift IDLE the records of a bin are RELEASED and the bin is empty (R90, R117). -/
theorem released (lawful : b.Lawful) (idle : b.lift = .idle) (n now : Nat) (pair : Nat × Nat) :
    ({ b with
      records := b.records.map (Record.releasedFrom n now pair)
      bins := b.bins.modify n fun v => (0, 0, v.2.2) } : Books).Lawful := by
  have agrees := lawful.lift
  rw [idle] at agrees
  have cases (r : Record) : Record.releasedFrom n now pair r = r ∨
      (r.state = .stored ∧ r.bin = some n ∧ (Record.releasedFrom n now pair r).state = .released ∧
        (Record.releasedFrom n now pair r).bin = some n) := by
    unfold Record.releasedFrom
    split
    · next here => exact .inr ⟨here.2, here.1, rfl, here.1⟩
    · exact .inl rfl
  refine lawful.rewrite (lift := b.lift) (fun r => ?_) (fun r _ => ?_) ?_ (fun m v new => ?_) (fun f fly => ?_) lawful.quiet
  · unfold Record.releasedFrom
    split <;> rfl
  · rcases cases r with same | ⟨stored, -, released, -⟩
    · rw [same]
    · simp [stored, released]
  · rw [idle]
    intro x mem
    obtain ⟨r, here, rfl⟩ := List.mem_map.1 mem
    rcases cases r with same | ⟨-, -, released, -⟩
    · rw [same]
      exact agrees r here
    · simp [Record.lifted, released]
  · rw [List.getElem?_modify] at new
    by_cases mine : n = m
    · subst mine
      obtain ⟨w, -, rfl⟩ := Option.map_eq_some_iff.1 new
      rw [if_pos rfl]
      refine tallies_empty (countedAmong_eq_nil fun x mem counts bin => ?_)
      obtain ⟨r, here, rfl⟩ := List.mem_map.1 mem
      rcases cases r with same | ⟨-, -, released, -⟩
      · rw [same] at counts bin
        have still := agrees r here
        have stored : r.state = .stored := by
          cases state : r.state <;> simp_all [Record.counts, Record.lifted]
        have moved := congrArg Record.state same
        simp [Record.releasedFrom, bin, stored] at moved
      · simp [Record.counts, released] at counts
    · have old : b.bins[m]? = some v := by simpa [mine] using new
      refine tallies_map (fun r _ => ?_) (lawful.bins m v old)
      rcases cases r with same | ⟨-, bin, -, bin'⟩
      · rw [same]
        exact ⟨rfl, rfl⟩
      · refine ⟨by simp [bin, bin', beq_eq_false_iff_ne.2 mine], ?_⟩
        unfold Record.releasedFrom
        split <;> rfl
  · rw [idle] at fly
    cases fly

/-- The RELEASED and WITHDRAWN records leave the log (R99). -/
theorem purged (lawful : b.Lawful) : ({ b with records := b.records.filter fun r => !r.final } : Books).Lawful := by
  have kept : (b.records.filter fun r => !r.final).Sublist b.records := List.filter_sublist
  have stays {r : Record} (mem : r ∈ b.records) (lives : r.final = false) : r ∈ b.records.filter fun r => !r.final :=
    List.mem_filter.2 ⟨mem, by rw [lives]; rfl⟩
  have counted (n : Nat) : countedAmong (b.records.filter fun r => !r.final) n = countedAmong b.records n := by
    rw [countedAmong, List.filter_filter]
    refine List.filter_congr fun r _ => ?_
    cases state : r.state <;> simp [Record.counts, Record.final, state]
  refine ⟨lawful.once, lawful.apart, fun q => (lawful.judged q).trans ⟨?_, ?_⟩, (kept.map _).nodup lawful.distinct,
    fun mem => lawful.next ((kept.map _).subset mem), ?_, fun n v here => ?_,
    fun f fly r mem same => lawful.flight f fly r (kept.subset mem) same, lawful.quiet⟩
  · rintro ⟨r, mem, same, judged⟩
    exact ⟨r, stays mem (by simp [Record.final, judged]), same, judged⟩
  · rintro ⟨r, mem, same, judged⟩
    exact ⟨r, kept.subset mem, same, judged⟩
  · have agrees := lawful.lift
    show Lift.agrees b.lift _
    cases lift : b.lift <;> rw [lift] at agrees
    case idle => exact fun r mem => agrees r (kept.subset mem)
    all_goals
      obtain ⟨⟨r, mem, same⟩, all⟩ := agrees
      have state := (all r mem).1.2 same
      exact ⟨⟨r, stays mem (by simp [Record.final, state]), same⟩, fun x here => all x (kept.subset here)⟩
  · unfold tallies
    rw [counted]
    exact lawful.bins n v here

/-- An empty bin takes another limit (R107). -/
theorem configured (lawful : b.Lawful) {n limit : Nat} (empty : ∀ v, b.bins[n]? = some v → v.1 = 0) :
    ({ b with bins := b.bins.modify n fun v => (v.1, v.2.1, limit) } : Books).Lawful := by
  refine { lawful with bins := fun m v new => ?_ }
  rw [List.getElem?_modify] at new
  by_cases mine : n = m
  · subst mine
    obtain ⟨w, old, rfl⟩ := Option.map_eq_some_iff.1 new
    rw [if_pos rfl]
    obtain ⟨count, mass, -⟩ := lawful.bins n w old
    have zero := empty w old
    have none : countedAmong b.records n = [] := List.eq_nil_of_length_eq_zero (count.symm.trans zero)
    rw [none] at mass
    rw [zero, mass]
    exact tallies_empty none
  · exact lawful.bins m v (by simpa [mine] using new)

/-- A record takes another verdict (R80). -/
theorem reviewed (lawful : b.Lawful) {q : Nat} {f : Record → Record} (seq : ∀ r, (f r).seq = r.seq)
    (state : ∀ r, (f r).state = r.state) (bin : ∀ r, (f r).bin = r.bin) (mass : ∀ r, (f r).allocationMass = r.allocationMass) :
    ({ b with records := b.records.map (changing q f) } : Books).Lawful := by
  have kept (r : Record) : (changing q f r).state = r.state ∧ (changing q f r).bin = r.bin ∧
      (changing q f r).allocationMass = r.allocationMass ∧ (changing q f r).seq = r.seq := by
    unfold changing
    split
    · exact ⟨state r, bin r, mass r, seq r⟩
    · exact ⟨rfl, rfl, rfl, rfl⟩
  refine lawful.rewrite (lift := b.lift) (bins := b.bins) (changing_seq seq) (fun r _ => by rw [(kept r).1]) ?_
    (fun n v here => tallies_map (fun r _ => ?_) (lawful.bins n v here)) (fun g fly r mem same => ?_) lawful.quiet
  · have agrees := lawful.lift
    cases lift : b.lift <;> rw [lift] at agrees
    case idle =>
      intro x mem
      obtain ⟨r, here, rfl⟩ := List.mem_map.1 mem
      rw [Record.lifted, (kept r).1]
      exact agrees r here
    all_goals
      obtain ⟨⟨r, mem, same⟩, all⟩ := agrees
      refine ⟨⟨_, List.mem_map_of_mem mem, (changing_seq seq r).trans same⟩, fun x here => ?_⟩
      obtain ⟨y, old, rfl⟩ := List.mem_map.1 here
      rw [(kept y).1, changing_seq seq]
      exact all y old
  · obtain ⟨sameState, sameBin, sameMass, -⟩ := kept r
    exact ⟨by rw [Record.counts, sameState, sameBin, Record.counts], sameMass⟩
  · rw [(kept r).2.1]
    exact lawful.flight g fly r mem same

end Books.Lawful

namespace State.Sound

/-- A bin is shut in DAY: its records are RELEASED where its floor was empty (R157, R158). -/
theorem binIsShut {v : UnlockRecord} {floorEmpty : Bool} (fs : s.Sound) (day : s.mode = .day) :
    (binIsShut v floorEmpty s).Sound := by
  have dropped : (dropUnlock v.bin s).Sound := fs
  have locked : (Machine.setLock v.bin .locked (dropUnlock v.bin s)).Sound := dropped.setLock
  have idle : s.lift.state = .idle := fs.lawful.quiet day
  simp only [Machine.binIsShut]
  refine State.Sound.arbitrate ?_
  split
  · let z := Machine.setLock v.bin .locked (dropUnlock v.bin s)
    have emptied : State.Sound (emptyBin v.bin { z with log := { z.log with
        records := z.log.records.map (Record.releasedFrom v.bin z.now (v.requesting, v.confirming)) } }) := by
      refine State.Accounts.rebook locked rfl rfl (le_of_eq (List.length_map ..)) rfl ?_
      have released := locked.lawful.released (by simpa [State.books] using idle) v.bin z.now
        (v.requesting, v.confirming)
      have books : (emptyBin v.bin { z with log := { z.log with
          records := z.log.records.map (Record.releasedFrom v.bin z.now (v.requesting, v.confirming)) } }).books =
          { z.books with
            records := z.log.records.map (Record.releasedFrom v.bin z.now (v.requesting, v.confirming))
            bins := z.books.bins.modify v.bin fun x => (0, 0, x.2.2) } := by
        simp only [State.books, emptyBin, State.updateBin]
        rw [← figures_modify (f := fun x : Bin => { x with count := 0, mass := 0 }) (g := fun x => (0, 0, x.2.2)) fun _ => rfl]
        rfl
      rw [books]
      exact released
    exact emptied.notify
  · exact locked.notify

theorem resolveLift {f : InFlight} {o : ResolveOutcome} (fs : s.Sound) (fly : s.lift.state.inFlight = some f) :
    (resolveLift f o s).1.Sound := by
  cases o
  · exact (fs.storeInFlight fly).arbitrate
  · exact (fs.retrieveInFlight fly).arbitrate

theorem lateMatch {a : Advice} {r : Record} (fs : s.Sound) : (lateMatch a r s).1.Sound := by
  have matched {v : Verdict} {i e w : Nat} {advices : AdviceTable} : State.Sound { s.updateRecord r.seq (fun r =>
      r.lateMatched v i e w) with advices := advices } :=
    fs.rebook rfl rfl (le_of_eq (List.length_map ..)) rfl
      (fs.lawful.reviewed (fun _ => rfl) (fun _ => rfl) (fun _ => rfl) fun _ => rfl)
  unfold Machine.lateMatch
  dsimp only [accept]
  split
  · exact matched.arbitrate
  · exact matched

theorem purge (fs : s.Sound) : (purge s).1.Sound := by
  have purged {advices : AdviceTable} : State.Sound { s with
      log := { s.log with records := s.log.records.filter fun r => !r.final }, advices := advices } :=
    fs.rebook rfl rfl (List.length_filter_le ..) rfl fs.lawful.purged
  unfold Machine.purge
  dsimp only [accept]
  split
  · exact purged
  · exact purged.lowWaterRise

/-- A bin that counts nothing is set up anew (R107). -/
theorem configureBin {n zone limit : Nat} {cls : Option BinClass} (fs : s.Sound) (empty : ∀ b, s.bin n = some b → b.count = 0) :
    (s.updateBin n fun b => { b with cls := cls.getD b.cls, zone := zone, limit := limit }).Sound := by
  refine fs.rebook rfl rfl le_rfl rfl ?_
  have configured := fs.lawful.configured (n := n) (limit := limit) fun v here => by
    rw [State.books, List.getElem?_map, Option.map_eq_some_iff] at here
    obtain ⟨b, bin, rfl⟩ := here
    exact empty b bin
  have books : (s.updateBin n fun b => { b with cls := cls.getD b.cls, zone := zone, limit := limit }).books =
      { s.books with bins := s.books.bins.modify n fun v => (v.1, v.2.1, limit) } := by
    simp only [State.books, State.updateBin]
    rw [← figures_modify (f := fun b : Bin => { b with cls := cls.getD b.cls, zone := zone, limit := limit })
      (g := fun v => (v.1, v.2.1, limit)) fun _ => rfl]
    rfl
  rw [books]
  exact configured

end State.Sound

end Sys2Proof.Machine
end

section
/-! The lines and the supply restart keep a state sound; in DAY no bag is in hand when a head makes its restart decision (R25,
R102, R138, R161 to R165). -/

namespace Sys2Proof.Machine

variable {law : Books → Prop} {s t u : State} {h : HeadId}

/-! ### No bag in hand in DAY -/

/-- In DAY no head has a bag in hand (R138). -/
def State.Bare (s : State) : Prop := s.mode = .day → ∀ k, (s.head k).bags = []

theorem Head.bags_eq_nil {hd : Head} : hd.bags = [] ↔ hd.staging = [] ∧ hd.cradleRecord = none := by
  cases record : hd.cradleRecord <;> simp [Head.bags, record]

theorem State.DayLaw.bare (rest : s.DayLaw) : s.Bare := fun day k => by
  obtain ⟨-, heads⟩ := rest day
  obtain ⟨-, record, staging⟩ := heads k
  exact Head.bags_eq_nil.2 ⟨staging, record⟩

theorem State.Bare.of_bags (bare : s.Bare) (mode : t.mode = s.mode) (bags : s.mode = .day → t.books.bags = s.books.bags) :
    t.Bare := fun day k => by
  have same := bags (mode.symm.trans day)
  rw [show (t.head k).bags = (s.head k).bags from congrFun same k]
  exact bare (mode.symm.trans day) k

theorem State.Bare.of_same (bare : s.Bare) (heads : t.heads = s.heads) (release : t.release = s.release) : t.Bare :=
  bare.of_bags (by rw [State.mode, release]; rfl) fun _ => by simp only [State.books, State.head, heads]

/-- Where every head has decided, a sound state has no bag in hand in DAY. -/
theorem State.Sound.bare_of_decided (fs : s.Sound) (decided : ∀ k, (s.head k).starting = false) : s.Bare := fun day k => by
  obtain ⟨-, staging, record⟩ := (fs.head k).rest day
  refine Head.bags_eq_nil.2 ⟨staging, record.resolve_right ?_⟩
  rw [decided k]
  exact Bool.false_ne_true

/-- With no bag in hand an arbitration finds none (R122). -/
theorem State.Bare.arbitrate (bare : s.Bare) : (arbitrate s).Bare := fun day => by
  have before : s.mode = .day := by simpa using day
  rw [arbitrate_of_empty s fun k => (Head.bags_eq_nil.1 (bare before k)).1]
  exact bare before

theorem State.Bare.arbitrateIfFilled (bare : t.Bare) : (arbitrateIfFilled s t).Bare := by
  unfold Machine.arbitrateIfFilled
  split
  · exact bare.arbitrate
  · exact bare

/-! ### First levels -/

namespace State.Accounts

theorem tamperActivated (fs : s.Accounts law none) : (tamperActivated s).Accounts law none := fs.reportAlarm.closeAll

theorem channelSeesCradle {role : Nat} {active : Bool} (fs : s.Accounts law none) :
    (channelSeesCradle h role active s).Accounts law none := by
  unfold Machine.channelSeesCradle
  split <;> exact fs

/-- A head that awaits its decision keeps the first level of its CRADLE_SENSE line (R164). -/
theorem keepFirst {first : Option Bool} {active : Bool} (fs : s.Accounts law none)
    (waits : (s.head h).decision = .awaited first) :
    (Machine.updateHead h (fun hd => { hd with decision := .awaited (some active) }) s).Accounts law none :=
  fs.updateHead (decision := by simp [Head.starting, waits])

/-- In DAY a first level leaves the bags and the books as they are (R138, R164). -/
theorem headFirstLevel_of_day {role : Nat} {active : Bool} (fs : s.Accounts law none) (day : s.mode = .day) :
    (headFirstLevel h role active s).Accounts law none := by
  unfold Machine.headFirstLevel
  split
  · split
    · exact fs.cradleActivated_of_rest ((fs.head h).rest day).1
    · exact fs
  · next waits =>
    split
    · exact fs.keepFirst waits
    · exact fs

theorem signalFirstLevel_of_day {n : Nat} {active : Bool} (fs : s.Accounts law none) (day : s.mode = .day) :
    (signalFirstLevel n active s).Accounts law none := by
  unfold Machine.signalFirstLevel
  split
  · next k _ =>
    refine fs.channelSeesCradle.headFirstLevel_of_day ?_
    unfold Machine.channelSeesCradle
    split <;> exact day
  · split
    · exact fs.tamperActivated
    · exact fs

end State.Accounts

theorem signalFirstLevel_release (n : Nat) (active : Bool) (s : State) : (signalFirstLevel n active s).release = s.release := by
  unfold signalFirstLevel headFirstLevel channelSeesCradle tamperActivated
  repeat' split
  all_goals simp

namespace State.Sound

theorem headFirstLevel {role : Nat} {active : Bool} (fs : s.Sound) : (headFirstLevel h role active s).Sound := by
  unfold Machine.headFirstLevel
  split
  · split
    · exact fs.cradleActivated
    · exact fs
  · next waits =>
    split
    · exact fs.keepFirst waits
    · exact fs

theorem signalFirstLevel {n : Nat} {active : Bool} (fs : s.Sound) : (signalFirstLevel n active s).Sound := by
  unfold Machine.signalFirstLevel
  repeat' split
  · exact State.Sound.headFirstLevel fs.channelSeesCradle
  · exact fs.tamperActivated
  · exact fs

theorem signalFirstLevel_bare {n : Nat} {active : Bool} (fs : s.Sound) (bare : s.Bare) :
    (Machine.signalFirstLevel n active s).Bare := by
  refine bare.of_bags (by rw [State.mode, signalFirstLevel_release]; rfl) fun day => ?_
  have kept : s.Accounts (fun b => b.bags = s.books.bags) none := ⟨rfl, fs.counted, fs.room, fs.sound⟩
  exact (kept.signalFirstLevel_of_day (n := n) (active := active) day).lawful

end State.Sound

/-! ### The restart decision (R25) -/

namespace State.Accounts

/-- A head makes its decision, and is not yet where it leads. -/
theorem decided (fs : s.Accounts law none) (indifferent : ∀ b w, law b → law { b with starting := w }) :
    (Machine.updateHead h (fun hd => { hd with decision := .made }) s).Accounts law (some h) := by
  let t := Machine.updateHead h (fun hd => { hd with decision := .made }) s
  have mine : t.head h = { s.head h with decision := .made } := updateHead_head ..
  have others (k : HeadId) (ne : k ≠ h) : t.head k = s.head k := updateHead_head_of_ne _ _ ne
  have rest : t.log = s.log ∧ t.lift = s.lift ∧ t.rack = s.rack ∧ t.mode = s.mode := by simp [t]
  obtain ⟨log, lift, rack, mode⟩ := rest
  have books : t.books = { s.books with starting := fun k => (t.head k).starting } := by
    simp only [State.books, log, lift, rack, mode, heads_show_congr Head.bags others (by rw [mine]; rfl)]
  refine (fs.begin h).change others (by rw [log, mine]) (by rw [log]; exact fs.counted_le) mode ?_
  rw [books]
  exact indifferent _ _ fs.lawful

/-- A vacant head enters CLOSED without a notice (R25). -/
theorem restClosed (fs : s.Accounts law (some h)) (vacant : (s.head h).Vacant (s.mode = .day)) :
    (Machine.endUnwantedWarmUp h (Machine.moveHead h (fun hd => { hd with state := .closed, closePending := none }) s)).Accounts
      law none :=
  (fs.moveHead (.of_closed ⟨vacant.unreserved, vacant.noRecord, vacant.two, vacant.rest⟩ rfl)).endUnwantedWarmUp

/-- A vacant head that has decided enters FAULT (R25). -/
theorem faultVacant {c : HeadFaultCause} (fs : s.Accounts law (some h)) (vacant : (s.head h).Vacant (s.mode = .day))
    (awake : (s.head h).starting = false) : (Machine.enterFault h c s).Accounts law none :=
  fs.enterFault_begun awake (fun _ => vacant.noRecord) vacant.two fun day => ⟨vacant.rest day, vacant.noRecord⟩

/-- In DAY the restart decision of a head with no cradle record leaves the books as they are (R25). -/
theorem restartCase_of_day {cradle : Bool} (fs : s.Accounts law (some h)) (vacant : (s.head h).Vacant (s.mode = .day))
    (awake : (s.head h).starting = false) (day : s.mode = .day) : (restartCase h cradle s).Accounts law none := by
  unfold Machine.restartCase
  rw [if_neg (by simp [vacant.noRecord])]
  split
  · exact fs.restClosed vacant
  · exact fs.faultVacant vacant awake

end State.Accounts

theorem restartCase_release (h : HeadId) (cradle : Bool) (s : State) : (restartCase h cradle s).release = s.release := by
  unfold restartCase
  split
  · simp
  · split
    · simp
    · split
      · simp
      · split
        · next taken =>
          obtain ⟨-, -, -, -, -, -, release, -⟩ := takeReservation_frame _ taken
          simp [release]
        · simp

namespace State.Sound

/-- The restart decision of a head that has no reservation, and in DAY no bag (R25). -/
theorem restartCase {cradle : Bool} (fs : s.Accounts Books.Lawful (some h)) (free : (s.head h).reservation = false)
    (awake : (s.head h).starting = false) (two : (s.head h).staging.length ≤ 2)
    (bare : s.mode = .day → (s.head h).bags = []) : (restartCase h cradle s).Sound := by
  have vacant (clear : (s.head h).cradleRecord = none) : (s.head h).Vacant (s.mode = .day) :=
    ⟨free, clear, two, fun day => (Head.bags_eq_nil.1 (bare day)).1⟩
  unfold Machine.restartCase
  split
  · next record =>
    refine (fs.updateHead_begun (f := fun hd => { hd with closePending := some .restart }) rfl rfl).enterHold ?_ ?_ <;>
      rw [updateHead_head]
    · simp only [updateHead_frame]
      refine ⟨two, awake, fun day => ?_⟩
      rw [(Head.bags_eq_nil.1 (bare day)).2] at record
      cases record
    · exact free
  · next record =>
    have clear : (s.head h).cradleRecord = none := Option.not_isSome_iff_eq_none.1 record
    split
    · exact fs.restClosed (vacant clear)
    · split
      · exact fs.faultVacant (vacant clear) awake
      · next night =>
        split
        · next t taken =>
          obtain ⟨-, mine, -⟩ := takeReservation_spec s taken
          obtain ⟨-, -, -, -, -, -, release, -⟩ := takeReservation_frame s taken
          have mode : t.mode = s.mode := by rw [State.mode, release]; rfl
          refine enterRecover_begun ((fs.takeReservation free taken).updateHead_begun
            (f := fun hd => { hd with closePending := some .restart }) rfl rfl) ?_ ?_ ?_ <;>
            rw [updateHead_head, mine]
          · simp only [updateHead_frame, mode]
            exact ⟨two, awake, night⟩
          · exact clear
        · exact fs.faultVacant (vacant clear) awake

theorem restartEnd (fs : s.Sound) : (restartEnd s).Sound :=
  State.Sound.evaluateDrain (State.Sound.arbitrate fs.judgeLowWater)

theorem restartEnd_starting (fs : s.Sound) (k : HeadId) : ((Machine.restartEnd s).head k).starting = (s.head k).starting := by
  have judged : (Machine.judgeLowWater s).Sound := fs.judgeLowWater
  have same : ((Machine.restartEnd s).head k) = (Machine.arbitrate (Machine.judgeLowWater s)).head k := by
    simp [Machine.restartEnd]
  rw [same, State.Sound.arbitrate_starting judged k]
  simp [Machine.judgeLowWater]

/-- A head's restart decision, with the end of the restart actions after the last one (R25). -/
theorem decideIfReady (fs : s.Sound) (bare : s.Bare) : (decideIfReady h s).Sound ∧ (decideIfReady h s).Bare := by
  unfold Machine.decideIfReady
  split
  · exact ⟨fs, bare⟩
  · next first waits =>
    split
    · have sound := fs.head h
      have starting : (s.head h).starting = true := by simp [Head.starting, waits]
      have closed := sound.reserving.awaiting starting
      have free := sound.unreserved (by rw [closed]; rfl) (by rw [closed]; rfl)
      let v := Machine.updateHead h (fun hd => { hd with decision := .made }) s
      have mine : v.head h = { s.head h with decision := .made } := updateHead_head ..
      have mode : v.mode = s.mode := by simp [v]
      let r := Machine.restartCase h (first.getD false) v
      have kept : r.mode = s.mode := by rw [State.mode, restartCase_release, ← State.mode, mode]
      have work : r.Sound := by
        refine State.Sound.restartCase (State.Accounts.decided fs fun b w lawful => { lawful with }) ?_ ?_ ?_ ?_ <;> rw [mine]
        · exact free
        · rfl
        · exact sound.staged.two
        · rw [mode]
          exact fun day => bare day h
      have rest : r.Bare := by
        refine bare.of_bags kept fun day => ?_
        have begun : s.Accounts (fun b => b.bags = s.books.bags) none := ⟨rfl, fs.counted, fs.room, fs.sound⟩
        refine ((begun.decided (h := h) fun _ _ same => same).restartCase_of_day ?_ ?_ (mode.trans day)).lawful <;> rw [mine]
        · obtain ⟨empty, clear⟩ := Head.bags_eq_nil.1 (bare day h)
          exact ⟨free, clear, sound.staged.two, fun _ => empty⟩
        · rfl
      show State.Sound (if HeadId.all.any (fun k => (r.head k).starting) then r else Machine.restartEnd r) ∧
        State.Bare (if HeadId.all.any (fun k => (r.head k).starting) then r else Machine.restartEnd r)
      split
      · exact ⟨work, rest⟩
      · next decided =>
        refine ⟨work.restartEnd, work.restartEnd.bare_of_decided fun k => ?_⟩
        rw [work.restartEnd_starting]
        exact Bool.eq_false_iff.2 fun is => decided (List.any_eq_true.2 ⟨k, mem_allHeads k, is⟩)
    · exact ⟨fs, bare⟩

/-! ### Lines -/

theorem establish {n : Nat} (fs : s.Sound) (bare : s.Bare) : (establish n s).Sound := by
  have taken {v : InputLine} : (s.setInput n v).Sound := fs
  have rest {v : InputLine} : (s.setInput n v).Bare := bare
  simp only [Machine.establish]
  split
  · exact (taken.signalFirstLevel.decideIfReady (taken.signalFirstLevel_bare rest)).1
  · exact taken.signalFirstLevel

theorem signalEdge {n : Nat} {up : Bool} (fs : s.Sound) : (signalEdge n up s).Sound := by
  unfold Machine.signalEdge
  repeat' split
  · exact State.Sound.headEdge fs.channelSeesCradle
  · exact fs.tamperActivated
  · exact fs

theorem recordEdge {n : Nat} {up : Bool} (fs : s.Sound) : (recordEdge n up s).Sound := by
  have recorded {v : InputLine} : (s.setInput n v).Sound := fs
  simp only [Machine.recordEdge]
  repeat' split
  · exact recorded.notify
  · exact fs
  · exact fs

theorem takeEdge {n : Nat} (fs : s.Sound) : (takeEdge n s).Sound := by
  have taken {v : InputLine} : (s.setInput n v).Sound := fs
  exact taken.signalEdge.recordEdge

theorem rawChanged {n : Nat} (fs : s.Sound) (bare : s.Bare) : (rawChanged n s).Sound := by
  simp only [Machine.rawChanged]
  repeat' split
  on_goal 1 => exact fs.establish bare
  on_goal 3 => exact fs.takeEdge
  all_goals exact fs

theorem debounceExpired {n : Nat} (fs : s.Sound) (bare : s.Bare) : (debounceExpired n s).Sound := by
  simp only [Machine.debounceExpired]
  repeat' split
  on_goal 2 => exact fs.establish bare
  on_goal 3 => exact fs.takeEdge
  all_goals exact fs

end State.Sound

/-! ### The supply restart -/

namespace State.Sound

/-- The heads as a supply restart finds them keep their bags, and hold no reservation (R25, R102). -/
theorem restartHeads (fs : s.Sound) : (restartHeads s).Sound := by
  have head (k : HeadId) : (Machine.restartHeads s).heads.get k = (s.head k).replaced := PerHead.get_map ..
  have books : (Machine.restartHeads s).books = { s.books with starting := fun _ => true } := by
    simp only [State.books, State.head, head]
    rfl
  refine ⟨?_, ?_, ?_, fun k _ => ?_⟩
  · rw [books]
    exact { fs.lawful with }
  · refine (List.countP_eq_zero.2 fun k _ => ?_).symm
    rw [head]
    exact Bool.false_ne_true
  · have room := fs.counted_le
    show s.log.records.length + 0 ≤ logCapacity
    omega
  · have sound := fs.head k
    rw [head]
    exact ⟨⟨nofun, nofun, nofun, nofun, fun _ => nofun, fun _ => rfl⟩, ⟨sound.staged.two, nofun⟩,
      fun day => ⟨.inl rfl, sound.emptied day, .inr rfl⟩⟩

theorem restartLift (fs : s.Sound) : (restartLift s).Sound := by
  have calm : State.Sound { s with lift := { s.lift with transferTimer := none, unlockList := [], orders := [] } } := fs
  simp only [Machine.restartLift]
  split
  · exact calm
  · next moving => exact calm.enterLiftFault moving
  · exact calm.reportAlarm

end State.Sound

/-- A sound state with no bag in hand in DAY. -/
structure State.Orderly (s : State) : Prop where
  sound : s.Sound
  bare  : s.Bare

namespace State.Orderly

theorem foldl {α : Type} {f : State → α → State} {l : List α} (fs : s.Orderly)
    (keeps : ∀ u a, u.Orderly → (f u a).Orderly) : (l.foldl f s).Orderly :=
  List.foldlRecOn l f fs fun _ ft a _ => keeps _ a ft

/-- Work that leaves the heads and the mode. -/
theorem of_heads (fs : s.Orderly) (sound : t.Sound) (heads : t.heads = s.heads) (mode : t.mode = s.mode) : t.Orderly :=
  ⟨sound, fs.bare.of_bags mode fun _ => by simp only [State.books, State.head, heads]⟩

theorem arbitrate (fs : s.Orderly) : (arbitrate s).Orderly := ⟨fs.sound.arbitrate, fs.bare.arbitrate⟩

theorem drawn (fs : s.Orderly) : s.drawn.Orderly := fs.of_heads fs.sound rfl rfl

theorem restartHeads (fs : s.Orderly) : (restartHeads s).Orderly :=
  ⟨fs.sound.restartHeads, fs.bare.of_bags rfl fun _ => by
    simp only [State.books, Machine.restartHeads, State.head, PerHead.get_map]
    rfl⟩

theorem restartLift (fs : s.Orderly) : (restartLift s).Orderly := by
  refine fs.of_heads fs.sound.restartLift ?_ ?_ <;> simp only [Machine.restartLift] <;> split <;> simp [State.mode]

theorem restartUnlock {v : UnlockRecord} (fs : s.Orderly) : (restartUnlock s v).Orderly := by
  unfold Machine.restartUnlock
  repeat' split
  · exact fs.of_heads fs.sound.failUnlock (by simp) (by simp [Machine.failUnlock, dropUnlock, State.mode])
  · exact fs.of_heads (State.Accounts.reportAlarm (s := updateUnlock _ _ s) fs.sound) (by simp) (by simp [updateUnlock, State.mode])
  · exact fs.of_heads fs.sound.openLong (by simp) (by simp [Machine.openLong, updateUnlock, State.mode])
  · exact fs.of_heads fs.sound rfl rfl

theorem restartRelease (fs : s.Orderly) : (restartRelease s).Orderly := by
  have relocked : (s.release.reservations.foldl (fun s v => setLock v.bin .locked s) s).Orderly :=
    fs.foldl fun _ _ ft => ft.of_heads ft.sound.setLock (by simp) (by simp)
  have cleared {u : State} (fu : u.Orderly) : State.Orderly { u with release := { u.release with reservations := [] } } :=
    fu.of_heads fu.sound rfl rfl
  have unlocked {u : State} {l : List UnlockRecord} (fu : u.Orderly) : (l.foldl Machine.restartUnlock u).Orderly :=
    fu.foldl fun _ _ ft => ft.restartUnlock
  simp only [Machine.restartRelease]
  split
  · exact arbitrate (unlocked (cleared relocked))
  · exact unlocked (cleared relocked)

theorem establishAtOnce {n : Nat} (fs : s.Orderly) : (establishAtOnce s n).Orderly := by
  simp only [Machine.establishAtOnce]
  split
  · have taken {v : InputLine} : (s.setInput n v).Orderly := fs.of_heads fs.sound rfl rfl
    exact ⟨taken.sound.signalFirstLevel, taken.sound.signalFirstLevel_bare taken.bare⟩
  · exact fs

/-- The heads that decide at a supply restart do so one after another (R25, R137). -/
theorem decideInTurn {l : List HeadId} (fs : s.Orderly) : (settledInTurn (l.map decideIfReady) s).Sound := by
  refine State.Sound.settledInTurn (p := State.Bare) fs.sound fs.bare fun f mem u fu bare => ?_
  obtain ⟨k, -, rfl⟩ := List.mem_map.1 mem
  obtain ⟨sound, rest⟩ := fu.decideIfReady (h := k) bare
  exact ⟨sound, rest.arbitrateIfFilled⟩

theorem restartLines (fs : s.Orderly) : (restartLines s).Sound := by
  have lines {u : State} (fu : u.Orderly) : ((List.range 16).foldl Machine.establishAtOnce u).Orderly :=
    fu.foldl fun _ _ ft => ft.establishAtOnce
  have fresh : State.Orderly { s with inputs := s.inputs.map InputLine.restarted } := fs.of_heads fs.sound rfl rfl
  simp only [Machine.restartLines]
  exact (lines fresh).drawn.decideInTurn

theorem supplyRestart {cause : RestartCause} (fs : s.Orderly) : (supplyRestart cause s).Sound := by
  have links : (restartLink cause s).Orderly := fs.of_heads
    (State.Accounts.notify (s := { s with link := _ }) fs.sound) (by simp [restartLink]) (by simp [restartLink, State.mode])
  have blocks : (restartAlarm (restartService (restartLink cause s))).Orderly := links.of_heads links.sound rfl rfl
  have outputs : (restartOutputs (restartAlarm (restartService (restartLink cause s)))).Orderly := by
    refine blocks.of_heads ?_ (by simp [restartOutputs]) (by simp [restartOutputs, State.mode])
    exact State.Accounts.handOutput (State.Accounts.handOutput (s := { restartAlarm _ with outputs := _ }) blocks.sound)
  exact outputs.restartHeads.restartLift.restartRelease.restartLines

end State.Orderly

/-- A cold start leaves a sound state. -/
theorem State.cold_sound (levels : BitVec 16) (free : Nat) (pending : List Instr) : (State.cold levels free pending).Sound :=
  State.sound_of_laws (State.cold_logLaw ..) CustodyLog.cold_distinct (State.cold_custodyLaw ..) (State.cold_rackLaw ..)
    (State.cold_dayLaw levels free pending)

end Sys2Proof.Machine
end

section
/-! The requests keep a state sound. -/

namespace Sys2Proof.Machine

variable {law : Books → Prop} {s t : State} {h : HeadId}

namespace State.Sound

theorem guarded {only : Bool} {r : Req} {own : State → State × Reply} (fs : s.Sound) (taken : (own s).1.Sound) :
    (guarded only r own s).1.Sound := by
  unfold Machine.guarded
  split
  · exact fs
  · split
    · exact fs
    · exact taken

theorem settledReply {own : State → State × Reply} (taken : (own s).1.Sound) : (settledReply own s).1.Sound := by
  have filled : (Machine.arbitrateIfFilled s (own s).1).Sound := State.Sound.arbitrateIfFilled taken
  exact filled.settleDrain

/-! ### Heads -/

theorem takeHeadOpen {r : Req} {l : List Nat} (fs : s.Sound) : (takeHeadOpen r l s).1.Sound := by
  refine fs.guarded (settledReply ?_)
  split
  · exact fs
  · split
    · exact fs
    · next night =>
      split
      · exact fs
      · refine fs.openHeads fun day => night ?_
        rw [day]
        decide

theorem takeHeadClose {r : Req} {l : List Nat} (fs : s.Sound) : (takeHeadClose r l s).1.Sound := by
  refine fs.guarded (settledReply ?_)
  split
  · exact fs
  · exact fs.foldl fun _ _ ft => ft.receiveClose

/-- A head keeps what the laws ask of it where only its settings change (R3). -/
theorem setHead {v : Head} (fs : s.Sound) (state : v.state = (s.head h).state)
    (reservation : v.reservation = (s.head h).reservation) (record : v.cradleRecord = (s.head h).cradleRecord)
    (staging : v.staging = (s.head h).staging) (decision : v.starting = (s.head h).starting) : (s.setHead h v).Sound := by
  refine State.Accounts.finish (h := h) ((fs.begin h).work_of_same (fun k ne => State.setHead_head_of_ne _ _ ne) ?_ ?_ ?_
    (by simp) (by simp) (by simp) (by simp)) ?_ <;> rw [State.setHead_head]
  · rw [Head.bags, staging, record]
    rfl
  · exact decision
  · exact reservation
  · exact (fs.head h).congr state reservation record staging decision

theorem takeHeadSet {r : Req} {n : Nat} {v : HeadSettings} (fs : s.Sound) : (takeHeadSet r n v s).1.Sound := by
  refine fs.guarded ?_
  split
  · exact fs
  · split
    · exact fs.setHead rfl rfl rfl rfl rfl
    · exact fs

/-- A head in FAULT goes on by the first case that matches (R24). -/
theorem clearFault (fs : s.Sound) (fault : (s.head h).state.isFault = true) (ok : clearFault h s = .ok t) : t.Sound := by
  have sound := fs.head h
  have awake := sound.awake fun closed => by rw [closed] at fault; cases fault
  have pend {u : State} (fu : u.Accounts Books.Lawful (some h)) : (Machine.updateHead h (fun hd => { hd with
      closePending := some (hd.closePending.getD .requested) }) u).Accounts Books.Lawful (some h) :=
    fu.updateHead_begun rfl rfl
  simp only [Machine.clearFault] at ok
  split at ok
  · next record =>
    cases ok
    have free : (s.head h).reservation = false := Bool.eq_false_iff.2 fun held => by
      rw [sound.reserving.noRecord held] at record
      cases record
    refine (pend (fs.begin h)).enterHold ?_ ?_ <;> simp only [updateHead_head, updateHead_frame]
    · refine ⟨sound.staged.two, awake, fun day => ?_⟩
      obtain ⟨-, -, clear | starting⟩ := sound.rest day
      · rw [clear] at record
        cases record
      · exact Bool.noConfusion (awake.symm.trans starting)
    · exact free
  · next record =>
    have clear : (s.head h).cradleRecord = none := Option.not_isSome_iff_eq_none.1 record
    split at ok
    · split at ok
      · cases ok
      · next night =>
        split at ok
        · next held =>
          cases ok
          refine enterRecover_begun (pend (fs.begin h)) ?_ ?_ ?_ <;> simp only [updateHead_head, updateHead_frame]
          · exact ⟨sound.staged.two, awake, night⟩
          · exact held
          · exact clear
        · next free =>
          split at ok
          · next taken =>
            cases ok
            obtain ⟨-, mine, -⟩ := takeReservation_spec s taken
            obtain ⟨-, -, -, -, -, -, release, -⟩ := takeReservation_frame s taken
            have held := (fs.begin h).takeReservation (Bool.eq_false_iff.2 free) taken
            refine State.Accounts.signalIfFull (enterRecover_begun (pend held) ?_ ?_ ?_) <;>
              simp only [updateHead_head, updateHead_frame, mine, State.mode, release]
            · exact ⟨sound.staged.two, awake, night⟩
            · exact clear
          · cases ok
    · cases ok
      refine (fs.begin h).giveBack.closeHead ?_
      simp only [giveBack_head, giveBack_frame]
      exact ⟨rfl, clear, sound.staged.two, sound.emptied⟩

theorem takeHeadClearFault {r : Req} {n : Nat} (fs : s.Sound) : (takeHeadClearFault r n s).1.Sound := by
  refine fs.guarded (settledReply ?_)
  split
  · exact fs
  · split
    · next fault =>
      split
      · next ok => exact fs.clearFault fault ok
      · exact fs
    · exact fs

/-! ### Advices, bins, lift and release control -/

theorem takeAdvise {r : Req} {a : Advice} (fs : s.Sound) : (takeAdvise r a s).1.Sound := by
  refine fs.guarded (settledReply ?_)
  unfold checked
  split
  · exact fs
  · unfold enterAdvice
    split
    · exact fs.lateMatch
    · exact fs

theorem takeBinSet {r : Req} {bin zone limit : Nat} {cls : Option BinClass} (fs : s.Sound) :
    (takeBinSet r bin cls zone limit s).1.Sound := by
  refine fs.guarded (settledReply ?_)
  unfold checked
  split
  · exact fs
  · next passes =>
    refine (fs.configureBin fun b here => ?_).arbitrate
    unfold binSetRefusal at passes
    rw [here] at passes
    repeat' split at passes
    all_goals simp_all

theorem takeZoneMapSet {r : Req} {zones : List Nat} (fs : s.Sound) : (takeZoneMapSet r zones s).1.Sound := by
  refine fs.guarded (settledReply ?_)
  split
  · exact fs
  · split
    · exact fs
    · exact State.Sound.arbitrate (s := { s with rack := { s.rack with zoneMap := zones } }) fs

theorem takeLiftResolve {r : Req} {o : Option ResolveOutcome} (fs : s.Sound) : (takeLiftResolve r o s).1.Sound := by
  refine fs.guarded (settledReply ?_)
  split
  · exact fs
  · split
    · next fault => exact fs.resolveLift (by rw [fault]; rfl)
    · exact fs
    · exact fs

theorem takeModeSetNight {r : Req} (fs : s.Sound) : (takeModeSetNight r s).1.Sound := by
  refine fs.guarded (settledReply ?_)
  split
  · next ok => exact fs.setNight ok
  · exact fs

theorem takeModeSetDay {r : Req} (fs : s.Sound) : (takeModeSetDay r s).1.Sound := fs.guarded (settledReply fs.setDay)

/-- A reservation is ended, and the room made is signalled (R119, R151). -/
theorem endReservation_arbitrate {v : Reservation} {reason : EndReason} (fs : s.Sound) :
    (Machine.arbitrate (Machine.endReservation v reason s)).Sound := by
  have ended : (Machine.endReservation v reason s).Sound := fs.endReservation
  exact ended.arbitrate

theorem takeOfficerSet {r : Req} {slot n : Nat} {role : Option Role} {on : Bool} (fs : s.Sound) :
    (takeOfficerSet r slot n role on s).1.Sound := by
  have written {new : Option Officer} : (writeOfficer slot new s).Sound := by
    simp only [Machine.writeOfficer]
    split
    · exact endReservation_arbitrate (s := { s with release := _ }) fs
    · exact fs
  refine fs.guarded (settledReply ?_)
  split
  · exact fs
  · split
    · exact fs
    · split
      · exact fs
      · exact written

theorem takeReleaseRequest {r : Req} {bin officer : Nat} (fs : s.Sound) : (takeReleaseRequest r bin officer s).1.Sound := by
  refine fs.guarded ?_
  unfold checked
  split
  · exact fs
  · exact State.Accounts.setLock (s := { s with release := _ }) fs

theorem takeReleaseConfirm {r : Req} {bin officer : Nat} (fs : s.Sound) : (takeReleaseConfirm r bin officer s).1.Sound := by
  have confirmed {v : Reservation} : (confirm v officer s).Sound :=
    State.Accounts.setLock (s := { s with release := _ }) fs
  refine fs.guarded (settledReply ?_)
  split
  · exact fs
  · repeat' split
    on_goal 2 => exact fs.endReservation_arbitrate
    on_goal 2 => exact fs.endReservation_arbitrate
    on_goal 5 => exact confirmed
    all_goals exact fs

theorem takeReleaseCancel {r : Req} {bin officer : Nat} (fs : s.Sound) : (takeReleaseCancel r bin officer s).1.Sound := by
  refine fs.guarded (settledReply ?_)
  repeat' split
  · exact fs
  · exact fs
  · exact fs.endReservation_arbitrate

/-! ### Lines, outputs, clock and alarm -/

theorem takeLineSet {r : Req} {n debounce : Nat} {p : Polarity} (fs : s.Orderly) : (takeLineSet r n p debounce s).1.Sound := by
  have set : (setLine n p debounce s).Sound := by
    have changed {v : InputLine} : (s.setInput n v).Orderly := fs.of_heads fs.sound rfl rfl
    simp only [Machine.setLine]
    split
    · exact fs.sound
    · exact changed.sound.rawChanged changed.bare
  refine fs.sound.guarded (settledReply ?_)
  repeat' split
  · exact fs.sound
  · exact fs.sound
  · exact set

theorem takeOutputSet {r : Req} {n : Nat} {v : Bool} (fs : s.Sound) : (takeOutputSet r n v s).1.Sound := by
  refine fs.guarded ?_
  split
  · exact fs.handOutput
  · exact fs

theorem takeClockSet {r : Req} {v : BitVec 32} (fs : s.Sound) : (takeClockSet r v s).1.Sound :=
  fs.guarded (settledReply (minuteBoundary (s := { s with clock := _ }) fs))

theorem takeAlarmAck {r : Req} (fs : s.Sound) : (takeAlarmAck r s).1.Sound :=
  fs.guarded (State.Accounts.alarmLevel (s := { s with alarm := _ }) fs)

theorem setAlarm {m : AlarmMode} {w : Nat} {p : Polarity} {e : AlarmFlags} (fs : s.Sound) : (setAlarm m w p e s).Sound := by
  simp only [Machine.setAlarm]
  split
  · exact State.Accounts.handOutput (s := { s with alarm := _ }) fs
  · exact State.Accounts.alarmLevel (s := { s with alarm := _ }) fs

theorem takeAlarmSet {r : Req} {v : AlarmRequest} (fs : s.Sound) : (takeAlarmSet r v s).1.Sound := by
  refine fs.guarded ?_
  repeat' split
  · exact fs
  · exact fs.setAlarm
  · exact fs

/-! ### Service -/

theorem enterService {k : ServiceKind} (fs : s.Sound) : (enterService k s).Sound := by
  have stopped : (Machine.stopStep s).Sound := fs.stopStep
  cases k <;> exact stopped

theorem takeServiceEnter {r : Req} {k : Option ServiceKind} (fs : s.Sound) : (takeServiceEnter r k s).1.Sound := by
  refine fs.guarded ?_
  repeat' split
  on_goal 4 => exact fs.enterService
  all_goals exact fs

theorem takePatternSet {r : Req} {l : List (Option Bool)} (fs : s.Sound) : (takePatternSet r l s).1.Sound := by
  refine fs.guarded ?_
  split
  · exact fs
  · next p _ =>
    show (storePattern p s).Sound
    unfold storePattern
    dsimp only
    split <;> exact fs

theorem startStep {k : CalKind} (fs : s.Sound) : (startStep h k s).Sound := by
  have begun {step : Option CalStep} : State.Sound { s with service := { s.service with step := step } } := fs
  unfold Machine.startStep
  split
  · exact begun.startWeighing
  · exact State.Accounts.refreshIdle begun.askWarm

theorem takeStep {n : Nat} {ok empty : Bool} {k : CalKind} (fs : s.Sound) : (takeStep n ok k empty s).1.Sound := by
  have stopped : (Machine.stopStep s).Sound := fs.stopStep
  unfold Machine.takeStep
  repeat' split
  · exact fs
  · exact fs
  · unfold checked
    split
    · exact fs
    · exact stopped.startStep

end State.Sound

end Sys2Proof.Machine
end

section
/-! Every bag is accounted for: every command keeps a sound state sound (R14, R85, R91 to R93, R115, R120, R138). -/

namespace Sys2Proof.Machine

variable {law : Books → Prop} {s t : State} {h : HeadId}

namespace State.Sound

/-- A request taken keeps a state sound, where in DAY no bag is in hand. -/
theorem takeRequest (c : Instr) (orderly : s.Orderly) : (takeRequest c s).1.Sound := by
  have fs := orderly.sound
  cases c
  case headOpen => exact fs.takeHeadOpen
  case headClose => exact fs.takeHeadClose
  case headSet => exact fs.takeHeadSet
  case headClearFault => exact fs.takeHeadClearFault
  case advise => exact fs.takeAdvise
  case binSet => exact fs.takeBinSet
  case zoneMapSet => exact fs.takeZoneMapSet
  case liftResolve => exact fs.takeLiftResolve
  case modeSetNight => exact fs.takeModeSetNight
  case modeSetDay => exact fs.takeModeSetDay
  case officerSet => exact fs.takeOfficerSet
  case releaseConfirm => exact fs.takeReleaseConfirm
  case releaseCancel => exact fs.takeReleaseCancel
  case lineStatus => exact fs.guarded fs
  case lineSet => exact takeLineSet orderly
  case outputSet => exact fs.takeOutputSet
  case clockSet => exact fs.takeClockSet
  case alarmAck => exact fs.takeAlarmAck
  case alarmSet => exact fs.takeAlarmSet
  case serviceEnter => exact fs.takeServiceEnter
  case serviceExit => exact fs.guarded fs.endServiceState
  case patternSet => exact fs.takePatternSet
  case snapshot => exact fs.guarded fs
  case calZero => exact fs.guarded fs.takeStep
  case calSpan => exact fs.guarded fs.takeStep
  case calVerify => exact fs.guarded fs.takeStep
  case status => exact fs.guarded fs.setPort
  case unlistedRequestKind => exact fs
  case identify => exact fs.guarded fs
  case weightRead =>
    refine fs.guarded ?_
    split
    · exact fs
    · dsimp only
      split <;> exact fs
  case settingsRead =>
    refine fs.guarded ?_
    split <;> exact fs
  case linkSet =>
    refine fs.guarded ?_
    repeat' split
    all_goals exact fs
  case weighSet =>
    refine fs.guarded ?_
    repeat' split
    all_goals exact fs
  case scanSet =>
    refine fs.guarded ?_
    split <;> exact fs
  case withdraw =>
    refine fs.guarded ?_
    repeat' split
    all_goals exact fs
  case adviceQuery =>
    refine fs.guarded ?_
    split <;> exact fs
  case denomSet =>
    refine fs.guarded ?_
    split <;> exact fs
  case bagTypeSet =>
    refine fs.guarded ?_
    split <;> exact fs
  case toleranceSet =>
    refine fs.guarded ?_
    split <;> exact fs
  case logRead =>
    refine fs.guarded ?_
    split <;> exact fs
  case logPurge =>
    refine fs.guarded ?_
    split
    · exact fs.purge
    · exact fs
  case logSet =>
    refine fs.guarded ?_
    split
    · exact State.Accounts.judgeLowWater (s := { s with log := _ }) fs
    · exact fs
  case binRead =>
    refine fs.guarded ?_
    split <;> exact fs
  case liftSet =>
    refine fs.guarded ?_
    repeat' split
    all_goals exact fs
  case scheduleSet =>
    refine fs.guarded ?_
    split <;> exact fs
  case setReleaseWindow =>
    refine fs.guarded ?_
    split <;> exact fs
  case releaseSet =>
    refine fs.guarded ?_
    split <;> exact fs
  case releaseRequest => exact fs.takeReleaseRequest
  case lineAck =>
    refine fs.guarded ?_
    split <;> exact fs
  case lineReportSet =>
    refine fs.guarded ?_
    repeat' split
    all_goals exact fs
  case coldInitialise =>
    refine fs.guarded ?_
    unfold checked
    split <;> exact fs
  case auxRead => exact fs.guarded fs
  case logInfo => exact fs.guarded fs
  case liftRead => exact fs.guarded fs
  case releaseRead => exact fs.guarded fs
  case clockRead => exact fs.guarded fs
  case statsRead => exact fs.guarded fs
  case statsClear => exact fs.guarded fs
  case restart => exact fs.guarded fs
  all_goals exact fs

end State.Sound

/-! ### Commands -/

namespace State.Orderly

theorem setPort {p : PortId} {v : Port} (fs : s.Orderly) : (s.setPort p v).Orderly :=
  fs.of_heads fs.sound.setPort (by simp) (by simp)

theorem frameSeen {p : PortId} (fs : s.Orderly) : (frameSeen p s).Orderly :=
  fs.of_heads (fs.sound.of_same (by simp) (by simp) (by simp) (by simp) (by simp)) (by simp) (by simp [State.mode])

theorem arrive {r : Req} {c : Instr} {take : State → State × Reply} (fs : s.Orderly)
    (taken : ∀ u : State, u.Orderly → (take u).1.Sound) : (arrive r c take s).Sound := by
  simp only [Machine.arrive]
  repeat' split
  · exact fs.frameSeen.setPort.sound
  · exact (taken _ fs.frameSeen.setPort).setPort
  · exact fs.frameSeen.setPort.sound

theorem receiveByte {p : PortId} {byte : Byte} (fs : s.Orderly) : (receiveByte p byte s).Sound := by
  have received {v : Receiver} : (withReceiver p v s).Orderly := fs.setPort
  have discarded : (discardFrame p s).Sound := State.Accounts.updateStats received.sound
  unfold Machine.receiveByte
  split
  · split
    · exact received.sound
    · exact fs.sound
  · split
    · exact fs.sound
    · split
      · exact discarded
      · split
        · simp only [closeFrame]
          repeat' split
          · unfold handOn
            dsimp only
            split
            · exact received.arrive fun u fu => State.Sound.takeRequest _ fu
            · exact received.frameSeen.sound
          · exact discarded
          · exact discarded
        · exact received.sound

theorem afterReply {p : PortId} {c : Option Instr} {rep : Option Reply} (fs : s.Orderly) : (afterReply p c rep s).Sound := by
  unfold Machine.afterReply
  split
  · exact fs.supplyRestart
  · exact State.cold_sound ..
  · unfold takeNext
    split
    · exact State.Accounts.setPort (State.Sound.takeRequest _ fs)
    · exact fs.sound

theorem frameGone {p : PortId} (fs : s.Orderly) : (frameGone p s).Sound := by
  simp only [Machine.frameGone]
  split
  · exact fs.sound
  · exact fs.setPort.sound
  · exact fs.setPort.afterReply

end State.Orderly

namespace State.Sound

theorem judgeReference {mv : Int} (fs : s.Sound) : (judgeReference h mv s).Sound := by
  have marked {f : Channel → Channel} : (Machine.updateChannel h f s).Sound := fs
  unfold Machine.judgeReference
  repeat' split
  · exact fs
  · exact marked.finishWeighing.receiveClose.notify.reportAlarm
  · exact fs

theorem judgeTemperature {temp : Int} (fs : s.Sound) : (judgeTemperature temp s).Sound := by
  simp only [Machine.judgeTemperature]
  repeat' split
  · exact fs
  · exact fs
  · have hot : State.Sound { s with scanner := { s.scanner with tempHigh := true } } := fs
    exact hot.closeAll.notify.reportAlarm
  · exact fs

theorem auxConversion {v : Int} (fs : s.Sound) : (auxConversion v s).Sound := by
  unfold Machine.auxConversion
  split
  · split
    · refine settledInTurn (s := { s with scanner := _ }) (p := fun _ => True) fs trivial fun f mem u fu _ => ⟨?_, trivial⟩
      simp only [List.mem_cons, List.not_mem_nil, or_false] at mem
      obtain rfl | rfl | rfl | rfl := mem
      · exact fu.judgeReference
      · exact fu.judgeReference
      · exact fu.judgeReference
      · exact fu.judgeTemperature
    · exact fs
  · exact fs
  · exact fs

theorem tagReported {n : Nat} (fs : s.Sound) : (tagReported h n s).Sound := by
  unfold Machine.tagReported
  split
  · exact fs.setHead rfl rfl rfl rfl rfl
  · exact fs

theorem windowExpired (fs : s.Sound) : (windowExpired h s).Sound := by
  have closed : (Machine.updateHead h (fun hd => { hd with windowTimer := none, windowDone := true }) s).Sound := fs.updateHead
  simp only [Machine.windowExpired]
  repeat' split
  · next running _ _ _ => exact closed.judge (by rw [updateHead_head]; exact running.1)
  · exact closed
  · exact fs

theorem checkExpired {n : Nat} {level : Bool} (fs : s.Sound) : (checkExpired n level s).Sound := by
  have checked {o : OutputLine} : (s.setOutput n o).Sound := fs
  simp only [Machine.checkExpired]
  split
  · exact fs
  · split
    · exact checked
    · have told {u : State} (fu : u.Sound) : State.Sound (match latchOwner n with
          | some h => Machine.outputMismatch h u
          | none => u) := by
        split
        · exact fu.outputMismatch
        · exact fu
      simp only [checkMismatch]
      refine told ?_
      split
      · exact fs
      · exact State.Accounts.notify (s := State.setOutput _ _ _) fs

/-- A head in a state other than CLOSED enters FAULT at the expiry of one of its timers (R8, R9, R16). -/
theorem timedOut {c : HeadFaultCause} {state : HeadState} (fs : s.Sound) (here : (s.head h).state = state)
    (busy : state ≠ .closed) : (Machine.enterFault h c s).Sound :=
  fs.enterFault ((fs.head h).awake (here ▸ busy))

theorem of_done {u : State} (fu : u.Sound) (next : done u = .next t) : t.Sound := by
  obtain rfl := Host.Outcome.next.inj next
  exact fu

end State.Sound

/-- A bin stands open in DAY alone (R148). -/
def State.OpenInDay (s : State) : Prop := ∀ n since, s.openSince n = some since → s.mode = .day

theorem State.ReleaseLaw.openInDay (law : s.ReleaseLaw) : s.OpenInDay := fun n since is => by
  by_contra night
  have none := (law.dayOnly night).2
  unfold State.openSince at is
  split at is
  · next b here =>
    have mem : b ∈ s.rack.bins := List.mem_of_getElem? here
    have shut := List.countP_eq_zero.1 none b mem
    split at is
    · next lock => simp [lock, LockState.isOpen] at shut
    all_goals cases is
  · cases is

namespace State.Sound

/-- An event keeps a state sound. -/
theorem event {c : Instr} (orderly : s.Orderly) (opens : s.OpenInDay) (event : requestOf c = none)
    (next : exec c s = .next t) : t.Sound := by
  have fs := orderly.sound
  cases c <;> simp only [requestOf, reduceCtorEq] at event
  case coldStart => exact of_done (State.cold_sound ..) next
  case supplyRestart =>
    refine of_done (State.Orderly.supplyRestart ?_) next
    exact orderly.of_heads fs rfl rfl
  case rawLevelChange =>
    refine of_done (settled ?_) next
    unfold rawLevelChange
    split
    · exact fs
    · exact rawChanged (s := s.setInput _ _) fs orderly.bare
  case debounceTimerExpiry => exact of_done (settled (fs.debounceExpired orderly.bare)) next
  case tagReport => exact of_done fs.tagReported next
  case intakeTimerExpiry =>
    refine of_done (settled ?_) next
    unfold intakeExpired
    split
    · next running => exact fs.timedOut running.1 nofun
    · exact fs
  case descentTimerExpiry =>
    refine of_done (settled ?_) next
    unfold descentExpired
    split
    · next running => exact fs.timedOut running.1 nofun
    · exact fs
  case windowTimerExpiry => exact of_done (settled fs.windowExpired) next
  case gateTimerExpiry =>
    refine of_done (settled ?_) next
    unfold gateExpired
    split
    · next running => exact fs.timedOut running.1 nofun
    · exact fs
  case conversionComplete => exact of_done (settled fs.addConversion) next
  case settleTimerExpiry =>
    refine of_done (settled ?_) next
    unfold settleTimerExpired
    split
    · exact fs.settleExpired
    · exact fs
  case zeroIntervalExpiry =>
    refine of_done ?_ next
    unfold zeroIntervalExpired
    split
    · exact fs.evaluateZero.updateChannel
    · exact fs
  case auxConversionComplete => exact of_done fs.auxConversion next
  case delivered =>
    refine of_done ?_ next
    split
    · exact fs
    · exact settled fs.moveReport
  case moveFault => exact of_done (settled fs.moveReport) next
  case binOpened =>
    refine of_done ?_ next
    split
    · exact fs.binIsOpen
    · exact fs
  case unlockFault =>
    refine of_done ?_ next
    split
    · exact settled fs.unlockFails
    · exact fs
  case binShut =>
    refine of_done ?_ next
    split
    · next since _ stands _ => exact settled (fs.binIsShut (opens _ since stands))
    · exact fs
    · exact fs
  case transferTimerExpiry =>
    refine of_done ?_ next
    unfold transferExpired
    split
    · next moving =>
      split
      · exact fs.enterLiftFault moving
      · exact fs
    · exact fs
    · exact fs
  case confirmTimerExpiry =>
    refine of_done (settled ?_) next
    unfold confirmExpired
    split
    · exact fs.endReservation_arbitrate
    · exact fs
  case unlockTimerExpiry =>
    refine of_done (settled ?_) next
    unfold unlockExpired
    split
    · exact fs.unlockFails
    · exact fs
  case openLongTimerExpiry =>
    refine of_done ?_ next
    unfold openLongExpired
    repeat' split
    · exact fs.openLong
    all_goals exact fs
  case checkTimerExpiry => exact of_done (settled fs.checkExpired) next
  case pulseTimerExpiry =>
    refine of_done ?_ next
    unfold pulseExpired
    split
    · exact State.Accounts.handOutput (s := { s with alarm := _ }) fs
    · exact fs
  case clockSecond =>
    refine of_done (settled ?_) next
    simp only [clockTick]
    repeat' split
    · exact fs
    · exact minuteBoundary (s := { s with clock := _ }) fs
    all_goals exact fs
  case byteReceived => exact of_done orderly.receiveByte next
  case interByteGap =>
    refine of_done ?_ next
    unfold gap
    split
    · exact fs
    · exact fs.setPort.updateStats
  case watchTimerExpiry =>
    refine of_done (settled ?_) next
    have lost : State.Sound { s with link := { s.link with lost := true, timer := none } } := fs
    simp only [watchExpired]
    repeat' split
    · exact lost.reportAlarm.closeAll
    · exact lost.reportAlarm
    · exact fs
  case frameSent => exact of_done orderly.frameGone next
  all_goals
    refine of_done ?_ next
    exact fs

/-- A command keeps a state sound. -/
theorem exec {c : Instr} (orderly : s.Orderly) (opens : s.OpenInDay) (next : exec c s = .next t) : t.Sound := by
  cases request : requestOf c with
  | none => exact event orderly opens request next
  | some r =>
    rw [exec_request s request] at next
    exact of_done (orderly.arrive fun u fu => takeRequest c fu) next

end State.Sound

/-- Settles O56: soundness is kept by every command, and gives back the laws. -/
theorem everyBagIsAccountedFor : Obligations.EveryBagIsAccountedFor := by
  intro s t log distinct custody rack rest release next
  have orderly : s.Orderly := ⟨State.sound_of_laws log distinct custody rack rest, rest.bare⟩
  have sound : t.Sound := by
    unfold step at next
    split at next
    · cases next
      exact orderly.sound
    · next pending _ =>
      have waiting : State.Orderly { s with pending := pending } := orderly.of_heads orderly.sound rfl rfl
      exact State.Sound.exec waiting release.openInDay next
  exact sound.laws

end Sys2Proof.Machine
end

section
/-! The timers of a cradle channel, its readings, and the rounding of average codes and masses (R30, R32 to R37). -/

namespace Sys2Proof.Machine

variable {s : State} {h : HeadId}

/-! ### The timers -/

section
variable {c : Channel}

theorem Channel.warmUpExpired_of_running (phase : c.state = .warming .running) (running : c.warmUpTimer.isSome = true) :
    c.warmUpExpired = { c with state := .warming .done, warmUpTimer := none } := if_pos ⟨phase, running⟩

theorem Channel.settleDelayExpired_of_running {w : WeighRecord} (weighing : c.state = .weighing w)
    (running : c.delayTimer.isSome = true) :
    c.settleDelayExpired = { c with state := .weighing { w with delayRun := true }, delayTimer := none } := by
  simp [Channel.settleDelayExpired, weighing, running]

theorem Channel.idleExpired_of_running (running : c.idleTimer.isSome = true) : c.idleExpired = c.powerDown := if_pos running

/-- A PACE trigger outside the acquisition time starts a conversion (R33). -/
theorem Channel.paceExpired_of_free (cradle : Bool) (running : c.paceTimer.isSome = true) (free : c.acquireTimer = none) :
    c.paceExpired cradle = c.startConversion cradle := by
  rw [Channel.paceExpired, if_pos running, Channel.trigger, if_neg (by simp [free])]
  rfl

/-- A PACE trigger within the acquisition time waits (R33). -/
theorem Channel.paceExpired_of_acquiring (cradle : Bool) (running : c.paceTimer.isSome = true)
    (acquiring : c.acquireTimer.isSome = true) : c.paceExpired cradle = { c with paceTimer := none, waiting := true } := by
  rw [Channel.paceExpired, if_pos running, Channel.trigger, if_pos acquiring]

theorem Channel.acquisitionElapsed_of_waiting (cradle : Bool) (acquiring : c.acquireTimer.isSome = true)
    (waiting : c.waiting = true) : c.acquisitionElapsed cradle = c.startConversion cradle := by
  rw [Channel.acquisitionElapsed, if_neg (by simpa [Option.isSome_iff_ne_none] using acquiring), if_pos waiting]
  rfl

theorem Channel.acquisitionElapsed_of_idle (cradle : Bool) (acquiring : c.acquireTimer.isSome = true)
    (waiting : c.waiting = false) : c.acquisitionElapsed cradle = { c with acquireTimer := none } := by
  rw [Channel.acquisitionElapsed, if_neg (by simpa [Option.isSome_iff_ne_none] using acquiring), if_neg (by simp [waiting])]
end

/-- An event that changes one channel and nothing else. -/
theorem done_updateChannel {f : Channel → Channel} {d : Channel} (becomes : f (s.channel h) = d) :
    done (updateChannel h f s) = .next (pump (s.setChannel h d)) := by
  rw [done, updateChannel, becomes]

/-- Settles O14: each expiry changes its own channel, by the case its timers and its state give. -/
theorem channelTimersAct : Obligations.ChannelTimersAct := by
  intro s h c started
  refine ⟨fun phase running => ?_, fun w weighing running => ?_, fun running => ?_, fun running free => ?_,
    fun running acquiring => ?_, fun acquiring waiting => ?_, fun acquiring waiting => ?_⟩
  · exact done_updateChannel (Channel.warmUpExpired_of_running phase running)
  · exact done_updateChannel (Channel.settleDelayExpired_of_running weighing running)
  · exact done_updateChannel (Channel.idleExpired_of_running running)
  · exact done_updateChannel (Channel.paceExpired_of_free _ running free)
  · exact done_updateChannel (Channel.paceExpired_of_acquiring _ running acquiring)
  · exact done_updateChannel (Channel.acquisitionElapsed_of_waiting _ acquiring waiting)
  · exact done_updateChannel (Channel.acquisitionElapsed_of_idle _ acquiring waiting)

/-! ### Conversions and readings -/

/-- The channel with the code of its conversion joined to the partial reading (R34). -/
def Channel.converted (c : Channel) (code : Int) (clear : Bool) : Channel :=
  { c with conversion := none, gathered := c.gathered.add code clear }

/-- The channel with a completed reading its latest, and the partial reading empty (R34). -/
def Channel.completed (c : Channel) (r : Reading) : Channel := { c with latest := some r, gathered := .empty }

section
variable {v : Conversion} {code : Int} (conversion : (s.channel h).conversion = some v) (kept : v.dropped = false)
include conversion kept

/-- A code that does not fill the partial reading joins it (R34). -/
theorem addConversion_of_part (part : (s.channel h).gathered.count + 1 < 2 ^ (s.channel h).exponent) :
    addConversion h code s = s.setChannel h ((s.channel h).converted code v.clear) := by
  simp only [addConversion, conversion, kept, Bool.false_eq_true, if_false, updateChannel, State.setChannel_channel]
  exact if_neg (Nat.not_le.mpr part)

/-- A code that fills the partial reading completes a reading (R34). -/
theorem addConversion_of_whole (whole : 2 ^ (s.channel h).exponent ≤ (s.channel h).gathered.count + 1) :
    addConversion h code s = completeReading h (s.setChannel h ((s.channel h).converted code v.clear)) := by
  simp only [addConversion, conversion, kept, Bool.false_eq_true, if_false, updateChannel, State.setChannel_channel]
  exact if_pos whole
end

/-- In IDLE a completed reading becomes the latest one, and that is all (R34). -/
theorem completeReading_of_idle (idle : (s.channel h).state = .idle) :
    let c := s.channel h
    completeReading h s = s.setChannel h (c.completed (makeReading (averageCode c.settings.exponent c.gathered.sum) c.zero
      c.span c.gathered.saturated c.gathered.clear false)) := by
  simp only [completeReading, idle, Channel.exponent, updateChannel, Channel.completed]
  rfl

/-- A conversion that changes the channel alone is followed by nothing else. -/
theorem exec_conversionComplete_of_channel {code : ConverterCode} {d : Channel}
    (becomes : addConversion h code.toInt s = s.setChannel h d) :
    exec (.conversionComplete h code) s = .next (pump (s.setChannel h d)) := by
  have alone : settled (addConversion h code.toInt) s = s.setChannel h d := by
    rw [settled_of_same _ _ (by simp [becomes]) (by simp [becomes]) (by simp [becomes]), becomes]
  exact congrArg done alone

theorem isSaturated_eq (code : Int) : isSaturated code = decide (code = -131072 ∨ code = 131071) := by
  simp only [isSaturated, beq_eq_decide, Bool.decide_or]

/-- Settles O15: the code joins the partial reading, and the last one completes it. -/
theorem codesBecomeReadings : Obligations.CodesBecomeReadings := by
  intro s h code v c limit g conversion kept
  have gathers : c.converted code.toInt v.clear = { c with conversion := none, gathered := g } := by
    simp only [Channel.converted, PartialReading.add, isSaturated_eq]
    rfl
  refine ⟨fun part => ?_, fun idle whole => ?_⟩
  · rw [← gathers]
    exact exec_conversionComplete_of_channel (addConversion_of_part conversion kept part)
  · intro average unclamped
    refine exec_conversionComplete_of_channel ?_
    rw [addConversion_of_whole conversion kept whole, gathers,
      completeReading_of_idle (by rw [State.setChannel_channel]; exact idle), State.setChannel_channel,
      State.setChannel_setChannel]
    rfl

/-! ### Rounding -/

/-- The floor of a quotient by a power of two (R34). -/
theorem averageCode_bounds {k : Nat} (pos : 1 ≤ k) (sum : Int) :
    averageCode k sum * 2 ^ k ≤ sum + 2 ^ (k - 1) ∧ sum + 2 ^ (k - 1) < (averageCode k sum + 1) * 2 ^ k := by
  rw [averageCode, if_neg (by omega)]
  exact ⟨Int.ediv_mul_le _ (by positivity), Int.lt_ediv_add_one_mul_self _ (by positivity)⟩

theorem roundAway_natCast (n : Nat) {den : Nat} (pos : 0 < den) : roundAway n den = ((2 * n + den) / (2 * den) : Nat) := by
  rcases Nat.eq_zero_or_pos n with rfl | some
  · simp [roundAway, Nat.div_eq_of_lt (show den < 2 * den by omega)]
  · simp [roundAway, Int.sign_eq_one_of_pos (Int.natCast_pos.mpr some)]

theorem roundAway_neg (num : Int) (den : Nat) : roundAway (-num) den = -roundAway num den := by simp [roundAway]

/-- A magnitude is rounded to the nearest multiple, and up at a tie: half the denominator is added, and the floor taken. -/
theorem roundHalfUp_bounds (n : Nat) {den : Nat} (pos : 0 < den) :
    let m := (2 * n + den) / (2 * den) * den
    2 * m ≤ 2 * n + den ∧ 2 * n < 2 * m + den := by
  intro m
  have below : (2 * n + den) / (2 * den) * (2 * den) ≤ 2 * n + den := Nat.div_mul_le_self ..
  have above : 2 * n + den < ((2 * n + den) / (2 * den) + 1) * (2 * den) :=
    (Nat.div_lt_iff_lt_mul (by omega)).mp (Nat.lt_succ_self _)
  have twice : (2 * n + den) / (2 * den) * (2 * den) = 2 * m := by simp only [m]; ring
  rw [Nat.add_mul, twice] at above
  omega

/-- The nearest multiple, with a tie going away from zero (R35). -/
theorem roundAway_nearest (num : Int) {den : Nat} (pos : 0 < den) :
    let q := roundAway num den
    2 * (q * den - num).natAbs ≤ den ∧ (2 * (q * den - num).natAbs = den → num.natAbs ≤ (q * den).natAbs) := by
  obtain ⟨n, sign⟩ := Int.eq_nat_or_neg num
  obtain ⟨below, above⟩ := roundHalfUp_bounds n pos
  have magnitude : roundAway n den * den = ((2 * n + den) / (2 * den) * den : Nat) := by
    rw [roundAway_natCast n pos, Nat.cast_mul]
  generalize (2 * n + den) / (2 * den) * den = m at *
  rcases sign with rfl | rfl
  · simp only [magnitude]
    omega
  · simp only [roundAway_neg, Int.neg_mul, magnitude]
    omega

/-- Settles O16: a floor for the average code, and half up on the magnitude for the mass. -/
theorem roundingIsToTheNearest : Obligations.RoundingIsToTheNearest :=
  ⟨fun _ sum pos => averageCode_bounds pos sum, fun _ => if_pos rfl, fun num _ pos => roundAway_nearest num pos⟩

end Sys2Proof.Machine
end

section
/-! The end of an examination's weighing while the tag window is open, the tracking of the zero, and the scanner's inputs (R37
to R40, R42, R45, R46). -/

namespace Sys2Proof.Machine

variable {s t u : State} {h : HeadId}

/-! ### The end of a weighing -/

/-- The examination's weighing on channel `h` has ended with the outcome `w`, which the head holds; `latest` is the reading it
left, and nothing of the other heads and channels has changed (R38 to R40). -/
structure State.Weighed (h : HeadId) (w : WeighOutcome) (latest : Option Reading) (s t : State) : Prop where
  head    : t.head h = { s.head h with weighing := some w }
  idle    : (t.channel h).state = .idle
  latest  : (t.channel h).latest = latest
  stopped : (t.channel h).settleTimer = none
  zero    : (t.channel h).zero = (s.channel h).zero
  log     : t.log = s.log
  others  : ∀ k, k ≠ h → t.head k = s.head k ∧ t.channel k = s.channel k

namespace State.Weighed

variable {w : WeighOutcome} {latest : Option Reading}

/-- What the channel did before its weighing ended. -/
theorem of_setChannel {d : Channel} (zero : d.zero = (s.channel h).zero)
    (weighed : (s.setChannel h d).Weighed h w ((s.setChannel h d).channel h).latest t) : s.Weighed h w d.latest t where
  head := weighed.head
  idle := weighed.idle
  latest := by rw [weighed.latest, State.setChannel_channel]
  stopped := weighed.stopped
  zero := by rw [weighed.zero, State.setChannel_channel, zero]
  log := weighed.log
  others k ne := by
    obtain ⟨head, channel⟩ := weighed.others k ne
    exact ⟨head, channel.trans (State.setChannel_channel_of_ne _ _ ne)⟩

/-- The end of a weighing with its tag window open fills no staging queue, so that nothing follows it. -/
theorem settled {f : State → State} (weighed : s.Weighed h w latest (f s)) :
    ∃ t, done (Machine.settled f s) = .next t ∧ s.Weighed h w latest t := by
  obtain ⟨t, stepped, settles⟩ := done_settled f (s := s) (.inl fun k => by
    rcases eq_or_ne k h with rfl | ne
    · rw [weighed.head]
    · rw [(weighed.others k ne).1])
  refine ⟨t, stepped, ?_, ?_, ?_, ?_, ?_, ?_, fun k ne => ?_⟩
  · rw [settles.head, weighed.head]
  · rw [settles.channel, weighed.idle]
  · rw [settles.channel, weighed.latest]
  · rw [settles.channel, weighed.stopped]
  · rw [settles.channel, weighed.zero]
  · rw [settles.log, weighed.log]
  · rw [settles.head, settles.channel]
    exact weighed.others k ne

end State.Weighed

/-- The return to IDLE stops the settle timer and keeps the latest reading and the zero code (R40). -/
theorem abandonWeighing_channel {x : WeighRecord} (weighing : (s.channel h).state = .weighing x) :
    let d := (abandonWeighing h s).channel h
    d.state = .idle ∧ d.latest = (s.channel h).latest ∧ d.settleTimer = none ∧ d.zero = (s.channel h).zero := by
  simp [abandonWeighing, Channel.returnToIdle, weighing]

/-- The weighing record with the reading `r` counted after `p` (R37). -/
def WeighRecord.counted (x : WeighRecord) (p r : Reading) : WeighRecord :=
  { x with anyReading := true, previous := some r, stable := x.compare p r }

/-- A reading that brings the stable count to the settle count ends the weighing (R37, R38). -/
theorem countReading_of_settling {x : WeighRecord} {p r : Reading} (run : x.delayRun = true)
    (previous : x.previous = some p) (settles : x.count ≤ x.compare p r) :
    countReading h x r s = finishWeighing h (.settled r.mass (r.flag == .negative)) r.average
      (s.setChannel h { s.channel h with state := .weighing (x.counted p r) }) := by
  cases x
  subst run previous
  exact if_pos settles

theorem Channel.exponent_of_weighing {c : Channel} {x : WeighRecord} (weighing : c.state = .weighing x) :
    c.exponent = x.exponent := by simp [Channel.exponent, weighing]

/-- In WEIGHING a completed reading becomes the latest one, and is counted (R34, R37). -/
theorem completeReading_of_weighing {x : WeighRecord} (weighing : (s.channel h).state = .weighing x) :
    let c := s.channel h
    let r := makeReading (averageCode x.exponent c.gathered.sum) c.zero c.span c.gathered.saturated c.gathered.clear false
    completeReading h s = countReading h x r (s.setChannel h (c.completed r)) := by
  rw [← Channel.exponent_of_weighing weighing]
  unfold completeReading
  dsimp only
  split
  · next warming => exact absurd (weighing.symm.trans warming) nofun
  · next y state =>
    obtain rfl := ChannelState.weighing.inj (weighing.symm.trans state)
    rfl
  all_goals next other => exact absurd (weighing.symm.trans other) nofun

section
variable {x : WeighRecord} (examine : (s.head h).state = .examine) (open' : (s.head h).windowDone = false)
  (weighing : (s.channel h).state = .weighing x) (mine : x.requester = .head)
include examine open' weighing mine

/-- With the tag window open the head holds the outcome, and is not judged yet (R12). -/
theorem finishWeighing_weighed (w : WeighOutcome) (average : Int) :
    s.Weighed h w (s.channel h).latest (finishWeighing h w average s) := by
  have same : (abandonWeighing h s).head h = s.head h := by simp
  have holds : finishWeighing h w average s =
      updateHead h (fun hd => { hd with weighing := some w }) (abandonWeighing h s) := by
    simp only [finishWeighing, weighing, mine, headOutcome, same, examine, if_true, updateHead_head, open',
      Bool.false_eq_true, if_false]
  obtain ⟨idle, latest, stopped, zero⟩ := abandonWeighing_channel weighing
  rw [holds]
  refine ⟨by rw [updateHead_head, same], ?_, ?_, ?_, ?_, by simp, fun k ne => ⟨?_, ?_⟩⟩
  · rwa [updateHead_channel]
  · rwa [updateHead_channel]
  · rwa [updateHead_channel]
  · rwa [updateHead_channel]
  · rw [updateHead_head_of_ne _ _ ne]
    simp
  · rw [updateHead_channel, abandonWeighing_channel_of_ne s ne]

omit weighing in
/-- The reading that brings the stable count to the settle count settles the weighing (R37, R38). -/
theorem countReading_weighed {p r : Reading} (run : x.delayRun = true) (previous : x.previous = some p)
    (settles : x.count ≤ x.compare p r) :
    s.Weighed h (.settled r.mass (r.flag == .negative)) (s.channel h).latest (countReading h x r s) := by
  let d : Channel := { s.channel h with state := .weighing (x.counted p r) }
  rw [countReading_of_settling run previous settles]
  exact .of_setChannel (d := d) rfl (finishWeighing_weighed (s := s.setChannel h d) (x := x.counted p r) examine open'
    (by rw [State.setChannel_channel]) mine ..)

/-- The conversion that completes such a reading (R34). -/
theorem addConversion_weighed {v : Conversion} {p : Reading} {code : Int}
    (conversion : (s.channel h).conversion = some v) (kept : v.dropped = false)
    (whole : 2 ^ x.exponent ≤ (s.channel h).gathered.count + 1) (run : x.delayRun = true) (previous : x.previous = some p) :
    let g := (s.channel h).gathered
    let r := makeReading (averageCode x.exponent (g.sum + code)) (s.channel h).zero (s.channel h).span
      (g.saturated || isSaturated code) (g.clear && v.clear) false
    x.count ≤ x.compare p r →
    s.Weighed h (.settled r.mass (r.flag == .negative)) (some r) (addConversion h code s) := by
  intro g r settles
  let d := (s.channel h).converted code v.clear
  have counts : addConversion h code s = countReading h x r (s.setChannel h (d.completed r)) := by
    rw [addConversion_of_whole conversion kept (by rwa [Channel.exponent_of_weighing weighing]),
      completeReading_of_weighing (by rw [State.setChannel_channel]; exact weighing), State.setChannel_channel,
      State.setChannel_setChannel]
    rfl
  rw [counts]
  exact .of_setChannel (d := d.completed r) rfl (countReading_weighed (s := s.setChannel h (d.completed r)) examine open' mine
    run previous settles)

theorem settleExpired_weighed :
    let high := x.anyReading && ((s.channel h).latest.map Reading.overrange).getD false
    s.Weighed h (.unsettled (if high then .overrange else .timeout)) (s.channel h).latest (settleExpired h s) := by
  intro high
  have finishes : settleExpired h s = finishWeighing h (.unsettled (if high then .overrange else .timeout)) 0 s := by
    rw [settleExpired, weighing]
  rw [finishes]
  exact finishWeighing_weighed examine open' weighing mine ..
end

/-- Settles O18: both ends hand their outcome to the head, whose tag window is open. -/
theorem weighingEndsWithItsOutcome : Obligations.WeighingEndsWithItsOutcome := by
  intro s h w c sized examine open' weighing mine
  refine ⟨fun code v p => ?_, fun running => ?_⟩
  · intro g r conversion kept whole run previous count calm low calm' low' near near'
    have ends := addConversion_weighed examine open' weighing mine conversion kept whole run previous
      (count.trans (WeighRecord.compare_of_near calm low calm' low' near near').ge)
    obtain ⟨t, stepped, weighed⟩ := ends.settled (f := addConversion h code.toInt)
    exact ⟨t, stepped, by rw [weighed.head, beq_eq_decide], weighed.idle, weighed.latest, weighed.stopped, weighed.zero,
      weighed.log, weighed.others⟩
  · have expires : settleTimerExpired h s = settleExpired h s := if_pos running
    have ends := settleExpired_weighed examine open' weighing mine
    rw [← expires] at ends
    obtain ⟨t, stepped, weighed⟩ := ends.settled (f := settleTimerExpired h)
    refine ⟨t, stepped, ?_, weighed.idle, weighed.latest, weighed.stopped, weighed.zero, weighed.log, weighed.others⟩
    exact weighed.head.trans (congrArg (fun cause => { s.head h with weighing := some (.unsettled cause) })
      (if_congr (iff_of_eq (overrange_latest ..)) rfl rfl))

/-! ### The zero -/

/-- Where the cradle is occupied, the reference at fault or no clear reading the latest, the zero is not evaluated (R42). -/
theorem evaluateZero_of_unfit (unfit : s.cradle h = true ∨ (s.channel h).refFault = true ∨
    ∀ r, (s.channel h).latest = some r → r.clear = false) : evaluateZero h s = s := by
  unfold evaluateZero
  dsimp only
  split
  · rfl
  · next r latest =>
    refine if_pos ?_
    rcases unfit with occupied | fault | never
    · simp [occupied]
    · simp [fault]
    · simp [never r latest]

section
variable {r : Reading} (cradle : s.cradle h = false) (sound : (s.channel h).refFault = false)
  (latest : (s.channel h).latest = some r) (clear : r.clear = true)
include cradle sound latest clear

/-- A calm reading inside the zero window becomes the zero; any other fails the evaluation (R42). -/
theorem evaluateZero_of_fit : evaluateZero h s =
    if r.saturated = false ∧ r.unclamped.natAbs ≤ (s.channel h).settings.zeroWindow then
      s.setChannel h { s.channel h with zero := r.average, zeroDrift := false }
    else zeroFailed h (if r.saturated then none else some r.unclamped) s := by
  unfold evaluateZero
  dsimp only
  split
  · next none => exact absurd (latest.symm.trans none) nofun
  · next q some =>
    obtain rfl := Option.some.inj (latest.symm.trans some)
    exact if_neg (by simp [cradle, sound, clear])

theorem evaluateZero_of_inside (calm : r.saturated = false)
    (inside : r.unclamped.natAbs ≤ (s.channel h).settings.zeroWindow) :
    evaluateZero h s = s.setChannel h { s.channel h with zero := r.average, zeroDrift := false } := by
  rw [evaluateZero_of_fit cradle sound latest clear, if_pos ⟨calm, inside⟩]

theorem evaluateZero_of_outside (outside : r.saturated = true ∨ (s.channel h).settings.zeroWindow < r.unclamped.natAbs) :
    evaluateZero h s = zeroFailed h (if r.saturated then none else some r.unclamped) s := by
  rw [evaluateZero_of_fit cradle sound latest clear, if_neg]
  rintro ⟨calm, inside⟩
  rcases outside with saturated | beyond
  · exact absurd (saturated.symm.trans calm) nofun
  · omega
end

/-- A change of a channel and a notice do not meet. -/
theorem updateChannel_notify (f : Channel → Channel) (n : Notice) (s : State) :
    updateChannel h f (notify n s) = notify n (updateChannel h f s) := by
  unfold notify
  cases n.port <;> rfl

/-- In IDLE the expiry evaluates the zero and restarts its timer (R42). -/
theorem exec_zeroIntervalExpiry (idle : (s.channel h).state = .idle) (running : (s.channel h).zeroTimer.isSome = true) :
    exec (.zeroIntervalExpiry h) s = .next (pump
      (updateChannel h (fun c => { c with zeroTimer := some c.settings.zeroInterval }) (evaluateZero h s))) :=
  congrArg done (if_pos ⟨idle, running⟩)

/-- Settles O19: the zero is not evaluated, taken, or found outside the window, and the timer restarted. -/
theorem zeroIsTracked : Obligations.ZeroIsTracked := by
  intro s h c timed idle running
  rw [exec_zeroIntervalExpiry idle running]
  refine ⟨fun unfit => ?_, fun r cradle sound latest clear => ⟨fun calm inside => ?_, fun outside => ⟨fun drift => ?_,
    fun steady => ?_⟩⟩⟩
  · rw [evaluateZero_of_unfit unfit]
    rfl
  · rw [evaluateZero_of_inside cradle sound latest clear calm inside, updateChannel, State.setChannel_channel,
      State.setChannel_setChannel]
  · rw [evaluateZero_of_outside cradle sound latest clear outside, zeroFailed, if_pos drift]
    rfl
  · rw [evaluateZero_of_outside cradle sound latest clear outside, zeroFailed, if_neg (by rw [steady]; decide),
      updateChannel_notify]
    simp only [updateChannel, State.setChannel_channel, State.setChannel_setChannel]
    rfl

/-! ### The scanner -/

theorem auxValue_of_reference {n : Nat} {v : Int} (reference : n < 3) (low : 0 ≤ v) (high : v ≤ 6000) :
    auxValue n v = v := by
  rw [auxValue, if_pos reference, clampInt]
  omega

/-- A reference's conversion is kept, and the next input begins to settle (R45). -/
theorem auxConversion_of_reference {values : List Int} {settle : Nat} {v : Int}
    (scanning : s.scanner.state = .scanning values settle true) (reference : values.length < 3) (low : 0 ≤ v)
    (high : v ≤ 6000) : auxConversion v s =
      { s with scanner := { s.scanner with state := .scanning (values ++ [v]) settle false } } := by
  simp only [auxConversion, scanning, auxValue_of_reference reference low high]
  split
  · next a b c d four =>
    have length := congrArg List.length four
    simp at length
    omega
  · rfl

/-- Settles O20: each event of the scanner, by the scan state it finds. -/
theorem scannerConvertsInOrder : Obligations.ScannerConvertsInOrder := by
  intro s c
  refine ⟨fun idle => ?_, fun busy => ?_, fun values settle settling => ?_,
    fun values settle v converting reference low high => ?_⟩
  · refine congrArg (fun scanner => done { s with scanner := scanner }) ?_
    simp only [Scanner.periodExpired]
    split
    · rfl
    · next scanning => exact absurd (idle.symm.trans scanning) nofun
  · refine congrArg (fun scanner => done { s with scanner := scanner }) ?_
    simp only [Scanner.periodExpired]
    split
    · next idle => exact absurd idle busy
    · rfl
  · refine congrArg (fun scanner => done { s with scanner := scanner }) ?_
    have state : s.scanner.state = .scanning values settle false := settling
    simp only [Scanner.settleElapsed, state]
    rfl
  · exact congrArg done (auxConversion_of_reference converting reference low high)

end Sys2Proof.Machine
end

section
/-! The requests that only read (R44, R50, R59, R97, R98, R108, R135, R173, R191, R203). -/

namespace Sys2Proof.Machine

variable {s : State} {r : Req} {c : Instr}

/-- A request that only reads leaves the state that holds it as it is, and its reply shows that state (R198). -/
theorem exec_reports {own : State → State × Reply} {rep : Reply} (request : requestOf c = some r)
    (rule : takeRequest c = guarded false r own) (takes : s.takes r) (shows : own (s.holding r c) = (s.holding r c, rep)) :
    exec c s = .next ((s.holding r c).replied r rep) :=
  exec_answered request rule takes nofun shows

/-! ### Plain reads -/

theorem ScanState.isScanning_eq (x : ScanState) : x.isScanning = decide (x ≠ .idle) := by cases x <;> rfl

/-- AUX_READ reads no port (R50). -/
theorem auxReport_holding : auxReport (s.holding r c) = .aux (decide (s.scanner.state ≠ .idle)) s.scanner.readings
    ⟨(s.channel .a).refFault, (s.channel .b).refFault, (s.channel .c).refFault⟩ s.scanner.tempHigh := by
  simp only [auxReport, State.holding_frame, ScanState.isScanning_eq]
  rfl

/-- Every record is in one of the six states (R85, R98). -/
theorem CustodyLog.inState_sum (l : CustodyLog) : l.inState .judged + l.inState .inTransfer + l.inState .stored +
    l.inState .transferFault + l.inState .withdrawn + l.inState .released = l.records.length := by
  simp only [CustodyLog.inState]
  induction l.records with
  | nil => rfl
  | cons x rest ih =>
    simp only [List.countP_cons, List.length_cons, ← ih]
    cases x.state <;> simp <;> omega

/-- Settles O36: each rule builds its reply from the blocks it reads, which the arrival of the request left as they were. -/
theorem plainReadsShowTheState : Obligations.PlainReadsShowTheState := by
  intro s r takes
  refine ⟨?_, ?_, ?_, ?_, ?_, s.log.report, ?_, rfl, rfl, rfl, rfl, rfl, rfl, rfl, rfl, ⟨?_, ?_, ?_, ?_, ?_, ?_⟩,
    s.log.inState_sum⟩
  · exact exec_reports rfl rfl takes rfl
  · exact exec_reports rfl rfl takes (by rw [report, auxReport_holding])
  · refine exec_reports rfl rfl takes ?_
    simp only [report, State.holding_frame]
    rfl
  · exact exec_reports rfl rfl takes (by simp only [report, State.holding_frame])
  · exact exec_reports rfl rfl takes (by simp only [report, liftReport, State.holding_frame])
  · exact exec_reports rfl rfl takes (by simp only [report, State.holding_frame])
  all_goals simp only [CustodyLog.report, CustodyLog.inState, beq_eq_decide]

/-! ### Reads of one item -/

theorem AdviceTable.query_byIndex {a : AdviceTable} {i : Nat} {e : AdviceEntry} (le : i ≤ 399)
    (found : a.entries.find? (fun e => e.index == i) = some e) : a.query (.byIndex i) = .ok e := by
  simp only [AdviceTable.query, AdviceTable.entry, found, if_neg (Nat.not_lt.mpr le)]

theorem tagOk_iff (tag : Nat) : tagOk tag = true ↔ 1 ≤ tag ∧ tag ≤ 999999999 := inRange_iff ..

/-- A PENDING entry is found by its tag, whether or not a lodged one has it too (R59). -/
theorem AdviceTable.query_byTag {a : AdviceTable} {tag : Nat} {e : AdviceEntry} (ok : tagOk tag = true)
    (found : a.pendingOf tag = some e) : a.query (.byTag tag) = .ok e := by
  simp only [AdviceTable.query, ok, Bool.true_eq_false, if_false, found]

/-- From the first record of a number on (R97). -/
theorem CustodyLog.since_of_held {l : CustodyLog} {before after : List Record} {x : Record}
    (records : l.records = before ++ x :: after) (first : ∀ y ∈ before, y.seq ≠ x.seq) : l.since x.seq = x :: after := by
  rw [CustodyLog.since, if_pos (by simp [records]), records, List.dropWhile_append_of_pos (by simpa using first)]
  simp

/-- All records, where the log does not hold the number (R97). -/
theorem CustodyLog.since_of_absent {l : CustodyLog} {n : Nat} (absent : ∀ y ∈ l.records, y.seq ≠ n) :
    l.since n = l.records := if_neg (by simpa using absent)

theorem continuationOf_eq (l : List Record) : continuationOf l = (l.head?.map (·.seq)).getD 0 := by cases l <;> rfl

/-- The entries of BIN_READ are the bins of the table in their order (R108). -/
theorem BinTable.entriesFrom_map (t : BinTable) (first n : Nat) :
    (t.entriesFrom first n).map (·.2) = (t.bins.drop first).take n := by
  have bins : (t.bins.mapIdx fun i b => (i, b)).map (·.2) = t.bins := List.ext_getElem? fun i => by simp
  rw [BinTable.entriesFrom, List.map_take, List.map_drop, bins]

/-- Each entry of BIN_READ carries the number of its bin (R108). -/
theorem BinTable.getElem?_of_mem_entriesFrom {t : BinTable} {first n : Nat} {x : Nat × Bin}
    (mem : x ∈ t.entriesFrom first n) : t.bins[x.1]? = some x.2 := by
  obtain ⟨i, lt, rfl⟩ := List.mem_mapIdx.mp (List.mem_of_mem_drop (List.mem_of_mem_take mem))
  exact List.getElem?_eq_getElem lt

section
variable (takes : s.takes r)
include takes

/-- ADVICE_QUERY shows the entry it finds (R59, R207). -/
theorem exec_adviceQuery {sel : AdviceSelector} {e : AdviceEntry} (found : s.advices.query sel = .ok e) :
    exec (.adviceQuery r sel) s = .next ((s.holding r (.adviceQuery r sel)).replied r
      (.ok (.adviceImage (adviceImage s.judge e)))) :=
  exec_reports rfl rfl takes (by simp only [State.holding_frame, found]; rfl)

/-- LOG_READ shows the records from the one named on, and the number of the record after them (R97). -/
theorem exec_logRead {n count : Nat} {l : List Record} (seq : n ≤ 16777215) (low : 1 ≤ count) (high : count ≤ 5)
    (since : s.log.since n = l) : exec (.logRead r n count) s = .next ((s.holding r (.logRead r n count)).replied r
      (.ok (.records ((l.take count).map recordImage) (((l.drop count).head?.map (·.seq)).getD 0)))) := by
  refine exec_reports rfl rfl takes ?_
  rw [if_neg (by rw [inRange_eq_false_iff]; omega)]
  simp only [State.holding_frame, since, continuationOf_eq]
  rfl

/-- SETTINGS_READ shows the group it is asked for (R203). -/
theorem exec_settingsRead {group : SettingsGroup} {head : Nat} {v : SettingsReport}
    (found : settingsOf (s.holding r (.settingsRead r (some group) head)) head group = some v) :
    exec (.settingsRead r (some group) head) s =
      .next ((s.holding r (.settingsRead r (some group) head)).replied r (.ok (.settings v))) :=
  exec_reports rfl rfl takes (by simp only [Option.bind_some, found]; rfl)
end

/-- Settles O37: each rule finds its item in blocks that the arrival of the request left as they were. -/
theorem selectedReadsShowTheItem : Obligations.SelectedReadsShowTheItem := by
  intro s r takes
  refine ⟨fun n h known idle => ⟨(s.channel h).report, ?_, ?_, rfl, rfl, rfl, rfl, ?_⟩, fun n h known off => ?_,
    fun i e le found => ?_, fun tag e low high found => ?_,
    fun before x after n count records seq first le low high => ?_, fun n count absent le low high => ?_,
    fun first n le low high => ⟨s.rack.entriesFrom first n, ?_, BinTable.entriesFrom_map .., fun _ => ?_⟩,
    fun n h known => ?_, fun n h known => ?_, fun n => ?_⟩
  · refine exec_reports rfl rfl takes ?_
    simp [known, idle, Channel.isWarming, accept]
  · simp [Channel.report, idle, ChannelState.name]
  · rw [Channel.report, Option.map_map]
    rfl
  · refine exec_reports rfl rfl takes ?_
    simp [known, off, refuse]
  · exact exec_adviceQuery takes (AdviceTable.query_byIndex le found)
  · refine exec_adviceQuery takes (AdviceTable.query_byTag ((tagOk_iff tag).mpr ⟨low, high⟩) ?_)
    simpa only [AdviceTable.pendingOf, AdviceEntry.isPending, beq_eq_decide] using found
  · subst seq
    exact exec_logRead takes le low high (CustodyLog.since_of_held records first)
  · exact exec_logRead takes le low high (CustodyLog.since_of_absent absent)
  · refine exec_reports rfl rfl takes ?_
    rw [if_neg (by rw [inRange_eq_false_iff]; omega)]
    simp only [State.holding_frame]
    rfl
  · exact BinTable.getElem?_of_mem_entriesFrom
  · exact exec_settingsRead takes (by simp [settingsOf, known])
  · exact exec_settingsRead takes (by simp [settingsOf, known])
  · exact exec_settingsRead takes (by simp [settingsOf])

end Sys2Proof.Machine
end

section
/-! The cold start (R1, R3, R27, R28, R45, R46, R53, R65 to R67, R101, R104, R120, R160, R162, R170, R173, R178, R179, R190,
R201, R204). -/

namespace Sys2Proof.Machine

variable (levels : BitVec 16) (free : Nat) (pending : List Instr)

theorem State.cold_channel (h : HeadId) : (State.cold levels free pending).channel h = .cold := by cases h <;> rfl

theorem State.cold_input {n : Nat} (lt : n < 16) :
    (State.cold levels free pending).input n = .cold (levels.getLsbD n) := by
  simp [State.input, State.cold, lt]

theorem State.cold_output {n : Nat} (lt : n < 15) : (State.cold levels free pending).output n = .cold := by
  rw [State.output, State.cold, List.getElem?_replicate, if_pos lt, Option.getD_some]

/-- RESTARTED is being sent already, and the service port has nothing to send (R199, R204). -/
theorem pump_cold : pump (State.cold levels free pending) = State.cold levels free pending := rfl

/-- Settles O2: the state of a cold start, block by block. -/
theorem coldStartTakesColdValues : Obligations.ColdStartTakesColdValues := by
  intro levels s
  refine ⟨State.cold levels s.free s.pending, congrArg Host.Outcome.next (pump_cold ..), fun h => ?_, fun h => ?_, rfl, rfl,
    rfl, rfl, rfl, rfl, rfl, rfl, rfl, rfl, by simp [State.cold], fun n lt => ?_, rfl, fun n lt => ?_, rfl, rfl⟩
  · rw [State.cold_head]
    rfl
  · rw [State.cold_channel]
    rfl
  · rw [State.cold_input _ _ _ lt]
    rfl
  · rw [State.cold_output _ _ _ lt]
    rfl

end Sys2Proof.Machine
end

section
/-! The operations of the advice table, and that each keeps the table in order (R51, R53, R55, R56, R58, R60 to R63). -/

namespace Sys2Proof.Machine

variable {t : AdviceTable} {e f : AdviceEntry} {l : List AdviceEntry} {n i tag : Nat}

/-! ### What is found -/

theorem AdviceTable.mem_of_pendingOf (found : t.pendingOf tag = some e) :
    e ∈ t.entries ∧ e.isPending = true ∧ e.tag = tag := by
  have fits := List.find?_some found
  simp only [Bool.and_eq_true, beq_iff_eq] at fits
  exact ⟨List.mem_of_find?_eq_some found, fits⟩

theorem AdviceTable.pendingOf_eq_none_iff :
    t.pendingOf tag = none ↔ ∀ e ∈ t.entries, e.isPending = true → e.tag ≠ tag := by
  simp [AdviceTable.pendingOf]

/-- A PENDING answer names a PENDING entry of the table (R60). -/
theorem AdviceTable.pending_of_lookup {expected cls : Nat} (found : t.lookup tag = .pending i expected cls) :
    ∃ e ∈ t.entries, e.isPending = true ∧ e.index = i := by
  unfold AdviceTable.lookup at found
  split at found
  · next e is =>
    obtain ⟨mem, pending, -⟩ := AdviceTable.mem_of_pendingOf is
    cases found
    exact ⟨e, mem, pending, rfl⟩
  · split at found <;> cases found

/-! ### The lowest free index -/

theorem le_lowestFree (n : Nat) (l : List AdviceEntry) : n ≤ lowestFree n l := by
  induction l generalizing n with
  | nil => exact le_rfl
  | cons x rest ih =>
    unfold lowestFree
    split
    · exact (Nat.le_succ n).trans (ih _)
    · exact le_rfl

theorem lowestFree_le (n : Nat) (l : List AdviceEntry) : lowestFree n l ≤ n + l.length := by
  induction l generalizing n with
  | nil => exact le_rfl
  | cons x rest ih =>
    unfold lowestFree
    split
    · have := ih (n + 1)
      simp only [List.length_cons]
      omega
    · exact Nat.le_add_right ..

/-- Every index below the lowest free one is occupied. -/
theorem occupied_of_lt_lowestFree (low : n ≤ i) (lt : i < lowestFree n l) : ∃ e ∈ l, e.index = i := by
  induction l generalizing n with
  | nil => exact absurd lt (Nat.not_lt.2 low)
  | cons x rest ih =>
    unfold lowestFree at lt
    split at lt
    · next here =>
      obtain rfl | above := low.eq_or_lt
      · exact ⟨x, List.mem_cons_self .., here⟩
      · obtain ⟨e, mem, index⟩ := ih above lt
        exact ⟨e, List.mem_cons_of_mem _ mem, index⟩
    · exact absurd lt (Nat.not_lt.2 low)

/-- In a list in rising order no entry from `n` on has the lowest free index. -/
theorem index_ne_lowestFree (rising : (l.map (·.index)).Pairwise (· < ·)) (above : ∀ e ∈ l, n ≤ e.index) :
    ∀ e ∈ l, e.index ≠ lowestFree n l := by
  induction l generalizing n with
  | nil => nofun
  | cons x rest ih =>
    simp only [List.map_cons, List.pairwise_cons, List.forall_mem_map] at rising
    obtain ⟨least, rising⟩ := rising
    rw [List.forall_mem_cons] at above
    unfold lowestFree
    split
    · next here =>
      subst here
      rw [List.forall_mem_cons]
      exact ⟨Nat.ne_of_lt (le_lowestFree ..), ih rising fun e mem => least e mem⟩
    · next free =>
      have lt : n < x.index := above.1.lt_of_ne' free
      rw [List.forall_mem_cons]
      exact ⟨lt.ne', fun e mem => (lt.trans (least e mem)).ne'⟩

/-! ### Entering -/

theorem insertEntry_perm (e : AdviceEntry) (l : List AdviceEntry) : (insertEntry e l).Perm (e :: l) := by
  induction l with
  | nil => exact .refl _
  | cons x rest ih =>
    unfold insertEntry
    split
    · exact .refl _
    · exact (ih.cons x).trans (.swap ..)

theorem mem_insertEntry : f ∈ insertEntry e l ↔ f = e ∨ f ∈ l := by
  rw [(insertEntry_perm e l).mem_iff, List.mem_cons]

theorem insertEntry_rising (rising : (l.map (·.index)).Pairwise (· < ·)) (free : ∀ f ∈ l, f.index ≠ e.index) :
    ((insertEntry e l).map (·.index)).Pairwise (· < ·) := by
  induction l with
  | nil => simp [insertEntry]
  | cons x rest ih =>
    rw [List.forall_mem_cons] at free
    simp only [List.map_cons, List.pairwise_cons, List.forall_mem_map] at rising
    obtain ⟨least, rest_rising⟩ := rising
    unfold insertEntry
    split
    · next before =>
      simp only [List.map_cons, List.pairwise_cons, List.forall_mem_cons, List.forall_mem_map]
      exact ⟨⟨before, fun f mem => before.trans (least f mem)⟩, least, rest_rising⟩
    · next after =>
      simp only [List.map_cons, List.pairwise_cons, List.forall_mem_map, mem_insertEntry, forall_eq_or_imp]
      exact ⟨⟨(Nat.not_lt.1 after).lt_of_ne free.1, least⟩, ih rest_rising free.2⟩

/-! ### Lodging -/

/-- An entry of the table after the one at an index was lodged to a record (R61). -/
def AdviceEntry.lodgedAt (f : AdviceEntry) (index : Nat) (v : Verdict) (seq : Nat) : AdviceEntry :=
  if f.index = index then { f with state := lodgedState v seq } else f

theorem AdviceTable.lodge_eq (t : AdviceTable) (i : Nat) (v : Verdict) (seq : Nat) :
    t.lodge i v seq = ⟨t.entries.map (·.lodgedAt i v seq), t.order ++ [i]⟩ := rfl

theorem lodgedState_ne_pending (v : Verdict) (seq : Nat) : (lodgedState v seq == .pending) = false := by
  unfold lodgedState
  split <;> rfl

@[simp] theorem AdviceEntry.lodgedAt_index (f : AdviceEntry) (i : Nat) (v : Verdict) (seq : Nat) :
    (f.lodgedAt i v seq).index = f.index := by
  unfold lodgedAt
  split <;> rfl

@[simp] theorem AdviceEntry.lodgedAt_tag (f : AdviceEntry) (i : Nat) (v : Verdict) (seq : Nat) :
    (f.lodgedAt i v seq).tag = f.tag := by
  unfold lodgedAt
  split <;> rfl

@[simp] theorem AdviceEntry.lodgedAt_isPending (f : AdviceEntry) (i : Nat) (v : Verdict) (seq : Nat) :
    (f.lodgedAt i v seq).isPending = (f.isPending && decide (f.index ≠ i)) := by
  unfold lodgedAt
  split
  · next here => simp [isPending, lodgedState_ne_pending, here]
  · next apart => simp [apart]

namespace AdviceTable.Lawful

theorem nodup (lawful : t.Lawful) : (t.entries.map (·.index)).Nodup := lawful.rising.imp ne_of_lt

theorem eq_of_index (lawful : t.Lawful) (mine : e ∈ t.entries) (yours : f ∈ t.entries) (same : e.index = f.index) :
    e = f :=
  List.inj_on_of_nodup_map lawful.nodup mine yours same

/-- The table holds at most 400 entries (R51). -/
theorem length_le (lawful : t.Lawful) : t.entries.length ≤ adviceCapacity := by
  have within : t.entries.map (·.index) ⊆ List.range adviceCapacity := fun i mem => by
    obtain ⟨e, held, rfl⟩ := List.mem_map.1 mem
    exact List.mem_range.2 (lawful.bounded e held)
  simpa using (lawful.nodup.subperm within).length_le

theorem index_ne_freeIndex (lawful : t.Lawful) : ∀ e ∈ t.entries, e.index ≠ t.freeIndex :=
  index_ne_lowestFree lawful.rising fun _ _ => Nat.zero_le _

/-- Only lodged entries stand in the lodging order (R51). -/
theorem freeIndex_not_mem_order (lawful : t.Lawful) : t.freeIndex ∉ t.order := fun mem => by
  obtain ⟨e, mem, index, -⟩ := (lawful.lodged _).1 mem
  exact lawful.index_ne_freeIndex e mem index

/-- Freeing entries keeps the order, where each lodged one leaves the lodging order with its entry (R58, R62, R63). -/
theorem filter (lawful : t.Lawful) {keep : AdviceEntry → Bool} {keepIndex : Nat → Bool}
    (together : ∀ e ∈ t.entries, e.isPending = false → keep e = keepIndex e.index) :
    (⟨t.entries.filter keep, t.order.filter keepIndex⟩ : AdviceTable).Lawful where
  rising := lawful.rising.sublist (List.filter_sublist.map _)
  bounded e mem := lawful.bounded e (List.mem_of_mem_filter mem)
  onePending e mine f yours := lawful.onePending e (List.mem_of_mem_filter mine) f (List.mem_of_mem_filter yours)
  once := lawful.once.filter _
  lodged i := by
    simp only [List.mem_filter, lawful.lodged]
    constructor
    · rintro ⟨⟨e, mem, rfl, lodged⟩, kept⟩
      exact ⟨e, ⟨mem, by rw [together e mem lodged, kept]⟩, rfl, lodged⟩
    · rintro ⟨e, ⟨mem, kept⟩, rfl, lodged⟩
      exact ⟨⟨e, mem, rfl, lodged⟩, by rw [← together e mem lodged, kept]⟩

theorem freeEntry (lawful : t.Lawful) : (t.freeEntry i).Lawful := lawful.filter fun _ _ _ => rfl

theorem freeAll (lawful : t.Lawful) (indices : List Nat) : (t.freeAll indices).Lawful := lawful.filter fun _ _ _ => rfl

/-- The sweep frees PENDING entries alone, so that the lodging order stands (R63). -/
theorem sweep (lawful : t.Lawful) (now : Nat) :
    ({ t with entries := t.entries.filter fun e => !e.expiredAt now } : AdviceTable).Lawful := by
  simpa using lawful.filter (keep := fun e => !e.expiredAt now) (keepIndex := fun _ => true)
    fun e _ lodged => by simp [AdviceEntry.expiredAt, lodged]

/-- An entry at the lowest free index keeps the order: a PENDING one whose tag no PENDING entry has, or a lodged one that
joins the tail of the lodging order (R53, R55, R56). -/
theorem insert (lawful : t.Lawful) (room : t.entries.length < adviceCapacity) (index : e.index = t.freeIndex)
    (single : e.isPending = true → t.pendingOf e.tag = none) {order : List Nat}
    (joins : order = if e.isPending then t.order else t.order ++ [e.index]) :
    (⟨insertEntry e t.entries, order⟩ : AdviceTable).Lawful := by
  have free : ∀ f ∈ t.entries, f.index ≠ e.index := fun f mem => index ▸ lawful.index_ne_freeIndex f mem
  have fresh : e.index ∉ t.order := index ▸ lawful.freeIndex_not_mem_order
  refine ⟨insertEntry_rising lawful.rising free, ?_, ?_, ?_, fun i => ?_⟩
  · simp only [mem_insertEntry, forall_eq_or_imp]
    refine ⟨?_, lawful.bounded⟩
    have := lowestFree_le 0 t.entries
    rw [index, freeIndex]
    omega
  · have alone (pending : e.isPending = true) (f : AdviceEntry) (mem : f ∈ t.entries) (other : f.isPending = true) :
        f.tag ≠ e.tag := pendingOf_eq_none_iff.1 (single pending) f mem other
    simp only [mem_insertEntry, forall_eq_or_imp, implies_true, true_and]
    exact ⟨fun f mem mine yours same => absurd same.symm (alone mine f mem yours),
      fun f mem => ⟨fun yours mine same => absurd same (alone mine f mem yours), lawful.onePending f mem⟩⟩
  · subst joins
    split
    · exact lawful.once
    · exact lawful.once.append (List.nodup_singleton _) (List.disjoint_singleton.2 fresh)
  · subst joins
    simp only [mem_insertEntry, or_and_right, exists_or, exists_eq_left]
    cases pending : e.isPending with
    | true => simp [lawful.lodged]
    | false => simp [lawful.lodged, or_comm, eq_comm (a := i)]

/-- Lodging a PENDING entry keeps the order: its index stood nowhere in the lodging order before (R61). -/
theorem lodge (lawful : t.Lawful) (mem : e ∈ t.entries) (pending : e.isPending = true) (v : Verdict) (seq : Nat) :
    (t.lodge e.index v seq).Lawful := by
  have fresh : e.index ∉ t.order := fun old => by
    obtain ⟨f, held, same, lodged⟩ := (lawful.lodged _).1 old
    rw [lawful.eq_of_index held mem same, pending] at lodged
    cases lodged
  have indices : (t.entries.map (·.lodgedAt e.index v seq)).map (·.index) = t.entries.map (·.index) := by simp
  rw [lodge_eq]
  refine ⟨indices ▸ lawful.rising, ?_, ?_, lawful.once.append (List.nodup_singleton _) (List.disjoint_singleton.2 fresh),
    fun i => ?_⟩
  · simpa using lawful.bounded
  · simp only [List.forall_mem_map, AdviceEntry.lodgedAt_isPending, AdviceEntry.lodgedAt_tag, Bool.and_eq_true]
    intro f mine g yours one other same
    rw [lawful.onePending f mine g yours one.1 other.1 same]
  · simp only [List.mem_append, List.mem_singleton, lawful.lodged, List.mem_map, exists_exists_and_eq_and,
      AdviceEntry.lodgedAt_index, AdviceEntry.lodgedAt_isPending]
    constructor
    · rintro (⟨f, held, rfl, lodged⟩ | rfl)
      · exact ⟨f, held, rfl, by simp [lodged]⟩
      · exact ⟨e, mem, rfl, by simp⟩
    · rintro ⟨f, held, rfl, lodged⟩
      by_cases here : f.index = e.index
      · exact .inr here
      · exact .inl ⟨f, held, rfl, by simpa [here] using lodged⟩

end AdviceTable.Lawful

end Sys2Proof.Machine
end

section
/-! What leaves the advice table as it is: all work but a judgement's, the sweep, the purge, ADVISE, WITHDRAW and a
cold start (R51). -/

namespace Sys2Proof.Machine

variable (s : State)

/-! ### Release control, the rack and the lift -/

theorem foldl_advices {α : Type} {f : State → α → State} (keeps : ∀ s a, (f s a).advices = s.advices) (l : List α) :
    (l.foldl f s).advices = s.advices :=
  List.foldlRecOn l f (motive := fun t => t.advices = s.advices) rfl fun _ same a _ => (keeps _ a).trans same

theorem takeReservation_advices {t : State} {h : HeadId} (taken : takeReservation h s = some t) :
    t.advices = s.advices := by
  obtain ⟨-, -, advices, -⟩ := takeReservation_frame s taken
  exact advices

@[simp] theorem judgeLowWater_advices : (judgeLowWater s).advices = s.advices := by simp [judgeLowWater]

@[simp] theorem openHead_advices (h : HeadId) : (openHead h s).2.advices = s.advices := by
  have reserved {t : State}
      (taken : takeReservation h (askWarm h (updateHead h (fun hd => { hd with closePending := none }) s)) = some t) :
      t.advices = s.advices := by simpa using takeReservation_advices _ taken
  simp only [openHead]
  split
  · split
    · simp
    · simp
    all_goals
      split
      · next taken => simpa using reserved taken
      · simp
  · simp

@[simp] theorem decideOpenings_advices (auto : Bool) (l : List HeadId) (full : Bool) :
    (decideOpenings auto l full s).2.2.advices = s.advices := by
  induction l generalizing full s with
  | nil => rfl
  | cons h rest ih =>
    unfold decideOpenings
    split
    · dsimp only
      rw [ih]
      split <;> simp
    · simp [ih]

@[simp] theorem openHeads_advices (auto : Bool) (l : List HeadId) : (openHeads auto l s).2.advices = s.advices := by
  simp only [openHeads]
  split <;> simp

@[simp] theorem activateWindow_advices : (activateWindow s).advices = s.advices := by
  unfold activateWindow
  split <;> rfl

@[simp] theorem cancelReservations_advices : (cancelReservations s).advices = s.advices := by
  unfold cancelReservations
  split
  · rfl
  · simp [foldl_advices]

theorem setNight_advices {t : State} {source : ModeSource} {out : List (HeadId × Option Refuse)}
    (ok : setNight source s = .ok (out, t)) : t.advices = s.advices := by
  unfold setNight at ok
  repeat' split at ok
  · cases ok; rfl
  · cases ok
  · cases ok; simp
  · cases ok
  · simpa using (congrArg (·.2.advices) (Except.ok.inj ok)).symm

@[simp] theorem setDay_advices (source : ModeSource) : (setDay source s).advices = s.advices := by
  unfold setDay
  split <;> simp

@[simp] theorem moveReport_advices (rep : LateReport) : (moveReport rep s).advices = s.advices := by
  unfold moveReport
  repeat' split
  all_goals simp

@[simp] theorem unlockFails_advices (bin : Nat) (cause : UnlockFailCause) :
    (unlockFails bin cause s).advices = s.advices := by
  unfold unlockFails
  split <;> simp

@[simp] theorem binIsShut_advices (u : UnlockRecord) (empty : Bool) : (binIsShut u empty s).advices = s.advices := by
  simp only [binIsShut]
  split <;> simp [releaseRecords]

@[simp] theorem resolveLift_advices (f : InFlight) (o : ResolveOutcome) : (resolveLift f o s).1.advices = s.advices := by
  cases o <;> simp [resolveLift, accept, retrieveInFlight]

@[simp] theorem writeOfficer_advices (slot : Nat) (new : Option Officer) :
    (writeOfficer slot new s).advices = s.advices := by
  simp only [writeOfficer]
  split <;> simp

@[simp] theorem reserve_advices (bin officer : Nat) : (reserve bin officer s).advices = s.advices := by simp [reserve]

@[simp] theorem confirm_advices (v : Reservation) (officer : Nat) : (confirm v officer s).advices = s.advices := by
  simp [confirm]

/-! ### Lines, outputs, alarm, service states and the link watch -/

@[simp] theorem restartWatch_advices : (restartWatch s).advices = s.advices := rfl

@[simp] theorem senseReadbacks_advices : (senseReadbacks s).advices = s.advices := rfl

@[simp] theorem acknowledge_advices (lines : List Nat) : (acknowledge lines s).advices = s.advices := rfl

@[simp] theorem acknowledgeAlarm_advices : (acknowledgeAlarm s).advices = s.advices := by simp [acknowledgeAlarm]

@[simp] theorem tamperActivated_advices : (tamperActivated s).advices = s.advices := by simp [tamperActivated]

@[simp] theorem recordEdge_advices (n : Nat) (up : Bool) : (recordEdge n up s).advices = s.advices :=
  (State.Settles.recordEdge n up s).advices

@[simp] theorem channelSeesCradle_advices (h : HeadId) (role : Nat) (up : Bool) :
    (channelSeesCradle h role up s).advices = s.advices := by
  unfold channelSeesCradle
  split <;> simp

@[simp] theorem setAlarm_advices (m : AlarmMode) (w : Nat) (p : Polarity) (e : AlarmFlags) :
    (setAlarm m w p e s).advices = s.advices := by
  simp only [setAlarm]
  split <;> simp

@[simp] theorem checkMismatch_advices (n : Nat) : (checkMismatch n s).advices = s.advices := by
  simp only [checkMismatch]
  repeat' split
  all_goals simp

@[simp] theorem checkExpired_advices (n : Nat) (level : Bool) : (checkExpired n level s).advices = s.advices := by
  simp only [checkExpired]
  repeat' split
  all_goals simp

@[simp] theorem enterService_advices (k : ServiceKind) : (enterService k s).advices = s.advices := by simp [enterService]

@[simp] theorem storePattern_advices (p : List Bool) : (storePattern p s).advices = s.advices := by
  simp only [storePattern]
  split <;> rfl

/-! ### Timers and reports -/

@[simp] theorem tagReported_advices (h : HeadId) (n : Nat) : (tagReported h n s).advices = s.advices := by
  unfold tagReported
  split <;> simp

@[simp] theorem intakeExpired_advices (h : HeadId) : (intakeExpired h s).advices = s.advices := by
  unfold intakeExpired
  split <;> simp

@[simp] theorem descentExpired_advices (h : HeadId) : (descentExpired h s).advices = s.advices := by
  unfold descentExpired
  split <;> simp

@[simp] theorem gateExpired_advices (h : HeadId) : (gateExpired h s).advices = s.advices := by
  unfold gateExpired
  split <;> simp

@[simp] theorem zeroIntervalExpired_advices (h : HeadId) : (zeroIntervalExpired h s).advices = s.advices := by
  unfold zeroIntervalExpired
  split <;> simp

@[simp] theorem binIsOpen_advices (bin : Nat) : (binIsOpen bin s).advices = s.advices := by simp [binIsOpen]

@[simp] theorem transferExpired_advices : (transferExpired s).advices = s.advices := by
  unfold transferExpired
  repeat' split
  all_goals simp

@[simp] theorem confirmExpired_advices (bin : Nat) : (confirmExpired bin s).advices = s.advices := by
  unfold confirmExpired
  split <;> simp

@[simp] theorem unlockExpired_advices (bin : Nat) : (unlockExpired bin s).advices = s.advices := by
  unfold unlockExpired
  split <;> simp

@[simp] theorem openLongExpired_advices (bin : Nat) : (openLongExpired bin s).advices = s.advices := by
  unfold openLongExpired
  repeat' split
  all_goals simp

@[simp] theorem pulseExpired_advices : (pulseExpired s).advices = s.advices := by
  unfold pulseExpired
  split <;> simp

@[simp] theorem watchExpired_advices : (watchExpired s).advices = s.advices := by
  simp only [watchExpired]
  repeat' split
  all_goals simp

@[simp] theorem discardFrame_advices (p : PortId) : (discardFrame p s).advices = s.advices := by
  simp [discardFrame, withReceiver]

@[simp] theorem gap_advices (p : PortId) : (gap p s).advices = s.advices := by
  unfold gap
  split <;> simp

/-! ### The supply restart -/

@[simp] theorem restartUnlock_advices (u : UnlockRecord) : (restartUnlock s u).advices = s.advices := by
  unfold restartUnlock
  repeat' split
  all_goals simp

@[simp] theorem restartRelease_advices : (restartRelease s).advices = s.advices := by
  have unlocked (u : State) (l : List UnlockRecord) : (l.foldl restartUnlock u).advices = u.advices :=
    foldl_advices u (by simp) l
  have relocked : (s.release.reservations.foldl (fun s v => setLock v.bin .locked s) s).advices = s.advices :=
    foldl_advices s (fun _ _ => by simp) _
  simp only [restartRelease]
  split <;> simp [unlocked, relocked]

/-! ### The ends of a step -/

@[simp] theorem arbitrateIfFilled_advices (before : State) : (arbitrateIfFilled before s).advices = s.advices := by
  unfold arbitrateIfFilled
  split <;> simp

@[simp] theorem settleDrain_advices (before : State) : (settleDrain before s).advices = s.advices :=
  (State.Settles.settleDrain before s).advices

@[simp] theorem withArbitration_advices (f : State → State) : (withArbitration f s).advices = (f s).advices := by
  simp [withArbitration]

@[simp] theorem settled_advices (f : State → State) : (settled f s).advices = (f s).advices := by simp [settled]

@[simp] theorem settledReply_advices (own : State → State × Reply) :
    (settledReply own s).1.advices = (own s).1.advices := by
  simp [settledReply]

end Sys2Proof.Machine
end

section
/-! The advice table stays in order through a judgement and all that can bring one about: weighings, readings, line events
and the supply restart (R51, R61, R70). -/

namespace Sys2Proof.Machine

variable {s t : State} {h : HeadId}

namespace AdviceTable.Lawful

theorem foldl {α : Type} {f : State → α → State} {l : List α} (lawful : s.advices.Lawful)
    (keeps : ∀ s a, s.advices.Lawful → (f s a).advices.Lawful) : (l.foldl f s).advices.Lawful :=
  List.foldlRecOn l f (motive := fun t : State => t.advices.Lawful) lawful fun _ lawful a _ => keeps _ a lawful

/-! ### Judgement and weighings -/

/-- A judgement lodges the PENDING entry that its lookup found, and no other (R61, R71). -/
@[simp] theorem judge (w : WeighOutcome) (lawful : s.advices.Lawful) : (judge h w s).advices.Lawful := by
  suffices recorded : (s.recorded h w).advices.Lawful by simpa [judge_eq] using recorded
  simp only [State.recorded, createRecord_frame, lodgedBy, State.lookupOf, lookupFor]
  cases tagOutcome (s.head h).tags with
  | tag n =>
    dsimp only
    split
    · next found =>
      obtain ⟨e, mem, pending, rfl⟩ := pending_of_lookup found
      exact lawful.lodge mem pending ..
    · exact lawful
    · exact lawful
  | noTag => exact lawful
  | conflict => exact lawful

@[simp] theorem headOutcome (w : WeighOutcome) (lawful : s.advices.Lawful) : (headOutcome h w s).advices.Lawful := by
  simp only [Machine.headOutcome]
  repeat' split
  all_goals simp [lawful]

@[simp] theorem finishWeighing (w : WeighOutcome) (average : Int) (lawful : s.advices.Lawful) :
    (finishWeighing h w average s).advices.Lawful := by
  simp only [Machine.finishWeighing]
  repeat' split
  all_goals simp [lawful]

@[simp] theorem startWeighing (q : Requester) (lawful : s.advices.Lawful) : (startWeighing h q s).advices.Lawful := by
  simp only [Machine.startWeighing]
  repeat' split
  all_goals simp [lawful]

@[simp] theorem enterExamine (lawful : s.advices.Lawful) : (enterExamine h s).advices.Lawful := by
  simp [Machine.enterExamine, lawful]

@[simp] theorem enterRecover (lawful : s.advices.Lawful) : (enterRecover h s).advices.Lawful := by
  simp only [Machine.enterRecover]
  split <;> simp [lawful]

@[simp] theorem headChannelIdle (lawful : s.advices.Lawful) : (headChannelIdle h s).advices.Lawful := by
  unfold Machine.headChannelIdle
  split
  · split
    · simp [lawful]
    · split
      · next taken => simp [takeReservation_advices _ taken, lawful]
      · simp [lawful]
  · simp [lawful]
  · exact lawful

@[simp] theorem stepChannelIdle (lawful : s.advices.Lawful) : (stepChannelIdle h s).advices.Lawful := by
  unfold Machine.stepChannelIdle
  repeat' split
  all_goals simp [lawful]

/-! ### Readings -/

@[simp] theorem countReading (w : WeighRecord) (r : Reading) (lawful : s.advices.Lawful) :
    (countReading h w r s).advices.Lawful := by
  simp only [Machine.countReading]
  repeat' split
  all_goals simp [lawful]

@[simp] theorem endWarmUp (average : Int) (saturated clear : Bool) (lawful : s.advices.Lawful) :
    (endWarmUp h average saturated clear s).advices.Lawful := by
  simp only [Machine.endWarmUp]
  repeat' split
  all_goals simp [lawful]

@[simp] theorem completeReading (lawful : s.advices.Lawful) : (completeReading h s).advices.Lawful := by
  simp only [Machine.completeReading]
  split <;> simp [lawful]

@[simp] theorem addConversion (code : Int) (lawful : s.advices.Lawful) : (addConversion h code s).advices.Lawful := by
  simp only [Machine.addConversion]
  repeat' split
  all_goals simp [lawful]

@[simp] theorem settleExpired (lawful : s.advices.Lawful) : (settleExpired h s).advices.Lawful := by
  simp only [Machine.settleExpired]
  split <;> simp [lawful]

/-! ### Line events -/

@[simp] theorem intakeShut (lawful : s.advices.Lawful) : (intakeShut h s).advices.Lawful := by
  unfold Machine.intakeShut
  repeat' split
  all_goals simp [lawful]

@[simp] theorem cradleActivated (lawful : s.advices.Lawful) : (cradleActivated h s).advices.Lawful := by
  unfold Machine.cradleActivated
  repeat' split
  all_goals simp [lawful]

@[simp] theorem cradleDeactivated (lawful : s.advices.Lawful) : (cradleDeactivated h s).advices.Lawful := by
  unfold Machine.cradleDeactivated
  split <;> simp [lawful]

@[simp] theorem headEdge (role : Nat) (up : Bool) (lawful : s.advices.Lawful) :
    (headEdge h role up s).advices.Lawful := by
  unfold Machine.headEdge
  split <;> simp [lawful]

@[simp] theorem signalEdge (n : Nat) (up : Bool) (lawful : s.advices.Lawful) : (signalEdge n up s).advices.Lawful := by
  unfold Machine.signalEdge
  repeat' split
  all_goals simp [lawful]

@[simp] theorem takeEdge (n : Nat) (lawful : s.advices.Lawful) : (takeEdge n s).advices.Lawful := by
  rw [Machine.takeEdge, recordEdge_advices]
  exact lawful.signalEdge (s := s.setInput _ _) ..

@[simp] theorem restartCase (cradle : Bool) (lawful : s.advices.Lawful) : (restartCase h cradle s).advices.Lawful := by
  unfold Machine.restartCase
  repeat' split
  · simp [lawful]
  · simp [lawful]
  · simp [lawful]
  · next taken => simp [takeReservation_advices _ taken, lawful]
  · simp [lawful]

@[simp] theorem decideIfReady (lawful : s.advices.Lawful) : (decideIfReady h s).advices.Lawful := by
  simp only [Machine.decideIfReady]
  repeat' split
  all_goals simp [lawful, restartEnd]

@[simp] theorem signalFirstLevel (n : Nat) (up : Bool) (lawful : s.advices.Lawful) :
    (signalFirstLevel n up s).advices.Lawful := by
  unfold Machine.signalFirstLevel headFirstLevel
  repeat' split
  all_goals simp [lawful]

@[simp] theorem establish (n : Nat) (lawful : s.advices.Lawful) : (establish n s).advices.Lawful := by
  have signalled := lawful.signalFirstLevel (s := s.setInput n { s.input n with
    debounced := some (s.input n).raw, timer := none }) n (s.input n).raw
  simp only [Machine.establish]
  split
  · exact signalled.decideIfReady
  · exact signalled

@[simp] theorem rawChanged (n : Nat) (lawful : s.advices.Lawful) : (rawChanged n s).advices.Lawful := by
  simp only [Machine.rawChanged]
  repeat' split
  all_goals simp [lawful]

@[simp] theorem debounceExpired (n : Nat) (lawful : s.advices.Lawful) : (debounceExpired n s).advices.Lawful := by
  simp only [Machine.debounceExpired]
  repeat' split
  all_goals simp [lawful]

/-! ### Several works in one step -/

theorem settledInTurn {works : List (State → State)} (lawful : s.advices.Lawful)
    (keep : ∀ f ∈ works, ∀ s : State, s.advices.Lawful → (f s).advices.Lawful) :
    (settledInTurn works s).advices.Lawful := by
  rw [Machine.settledInTurn, settleDrain_advices]
  exact List.foldlRecOn works _ (motive := fun t : State => t.advices.Lawful) lawful fun t lawful f mem => by
    simpa using keep f mem t lawful

theorem establishAtOnce (n : Nat) (lawful : s.advices.Lawful) : (establishAtOnce s n).advices.Lawful := by
  simp only [Machine.establishAtOnce]
  split
  · exact lawful.signalFirstLevel (s := s.setInput _ _) ..
  · exact lawful

@[simp] theorem restartLines (lawful : s.advices.Lawful) : (restartLines s).advices.Lawful := by
  have established (u : State) (lawful : u.advices.Lawful) :
      ((List.range 16).foldl Machine.establishAtOnce u).advices.Lawful :=
    lawful.foldl fun _ n lawful => lawful.establishAtOnce n
  have decided (u : State) (l : List HeadId) (lawful : u.advices.Lawful) :
      (Machine.settledInTurn (l.map Machine.decideIfReady) u).advices.Lawful :=
    lawful.settledInTurn fun f mem _ lawful => by
      obtain ⟨h, -, rfl⟩ := List.mem_map.1 mem
      exact lawful.decideIfReady
  simp only [Machine.restartLines]
  refine decided _ _ ?_
  rw [State.drawn_advices]
  exact established _ lawful

@[simp] theorem supplyRestart (cause : RestartCause) (lawful : s.advices.Lawful) :
    (supplyRestart cause s).advices.Lawful := by
  show (Machine.restartLines (restartRelease (restartLift (restartBlocks cause s)))).advices.Lawful
  obtain ⟨-, -, -, lift, -⟩ := restartLift_frame (restartBlocks cause s)
  obtain ⟨blocks, -⟩ := restartBlocks_frame cause s
  apply restartLines
  rw [restartRelease_advices, lift, blocks]
  exact lawful

@[simp] theorem judgeReference (mv : Int) (lawful : s.advices.Lawful) : (judgeReference h mv s).advices.Lawful := by
  unfold Machine.judgeReference
  repeat' split
  all_goals simp [lawful, setRefFault]

@[simp] theorem judgeTemperature (temp : Int) (lawful : s.advices.Lawful) : (judgeTemperature temp s).advices.Lawful := by
  simp only [Machine.judgeTemperature]
  repeat' split
  all_goals simp [lawful]

@[simp] theorem auxConversion (v : Int) (lawful : s.advices.Lawful) : (auxConversion v s).advices.Lawful := by
  unfold Machine.auxConversion
  split
  · split
    · refine settledInTurn (s := { s with scanner := _ }) lawful fun f mem s lawful => ?_
      simp only [List.mem_cons, List.not_mem_nil, or_false] at mem
      obtain rfl | rfl | rfl | rfl := mem <;> simp [lawful]
    · exact lawful
  · exact lawful
  · exact lawful

end AdviceTable.Lawful

end Sys2Proof.Machine
end

section
/-! Every step keeps the advice table in order (R51, R53, R61, R62). -/

namespace Sys2Proof.Machine

variable {s t : State} {h : HeadId}

theorem adviseRefusal_eq_none {a : Advice} (passes : adviseRefusal s a = none) :
    s.advices.entries.length < adviceCapacity ∧ s.advices.pendingOf a.tag = none := by
  unfold adviseRefusal at passes
  repeat' split at passes
  case isFalse full _ _ _ _ twice => exact ⟨Nat.not_le.1 full, Option.not_isSome_iff_eq_none.1 twice⟩
  all_goals cases passes

theorem entryOf_isPending (a : Advice) (i expected : Nat) (state : AdviceState) :
    (entryOf a i expected state).isPending = (state == .pending) := rfl

theorem sweepAdvices_advices (now : Nat) (s : State) : (sweepAdvices now s).advices =
    { s.advices with entries := s.advices.entries.filter fun e => !e.expiredAt now } :=
  foldl_advices _ (fun _ _ => by simp) _

namespace AdviceTable.Lawful

/-! ### Work that changes the table -/

@[simp] theorem minuteBoundary (now : Nat) (lawful : s.advices.Lawful) : (minuteBoundary now s).advices.Lawful := by
  have swept : (sweepAdvices now s).advices.Lawful := sweepAdvices_advices now s ▸ lawful.sweep now
  unfold Machine.minuteBoundary evaluateSchedule
  repeat' split
  · exact swept
  · next ok => rwa [setNight_advices _ ok]
  · simpa using swept
  · simpa using swept
  · exact swept

/-- An advice that has passed its checks enters at the lowest free index, PENDING or lodged (R55, R56). -/
theorem enterAdvice {a : Advice} (lawful : s.advices.Lawful) (passes : adviseRefusal s a = none) :
    (enterAdvice a s).1.advices.Lawful := by
  obtain ⟨room, single⟩ := adviseRefusal_eq_none passes
  unfold Machine.enterAdvice
  split
  · next r _ =>
    have entered : (⟨insertEntry (entryOf a s.advices.freeIndex (expectedMass s.judge a) (lodgedState
        (lateVerdict s.judge a (expectedMass s.judge a) r) r.seq)) s.advices.entries,
        s.advices.order ++ [s.advices.freeIndex]⟩ : AdviceTable).Lawful :=
      lawful.insert room rfl (fun _ => single) (by rw [entryOf_isPending, lodgedState_ne_pending]; rfl)
    simp only [lateMatch, accept]
    split
    · simpa using entered
    · exact entered
  · exact lawful.insert room rfl (fun _ => single) rfl

theorem purge (lawful : s.advices.Lawful) : (purge s).1.advices.Lawful := by
  simp only [Machine.purge, accept]
  split
  · exact lawful.freeAll _
  · simpa using lawful.freeAll _

theorem cold (levels : BitVec 16) (free : Nat) (pending : List Instr) :
    (State.cold levels free pending).advices.Lawful where
  rising := .nil
  bounded := nofun
  onePending := nofun
  once := .nil
  lodged i := by simp [State.cold]

/-! ### Requests -/

theorem guarded {only : Bool} {r : Req} {own : State → State × Reply} (lawful : s.advices.Lawful)
    (taken : (own s).1.advices.Lawful) : (guarded only r own s).1.advices.Lawful := by
  unfold Machine.guarded
  repeat' split
  · exact lawful
  · exact lawful
  · exact taken

/-- A request followed by the arbitration and the drain evaluation it calls for (R123, R142). -/
theorem guarded_settled {only : Bool} {r : Req} {own : State → State × Reply} (lawful : s.advices.Lawful)
    (taken : (own s).1.advices.Lawful) : (Machine.guarded only r (settledReply own) s).1.advices.Lawful :=
  lawful.guarded (by rwa [settledReply_advices])

@[simp] theorem checked {own : State → State × Reply} {refusal : Option Refuse} (lawful : s.advices.Lawful)
    (taken : (own s).1.advices.Lawful) : (checked refusal own s).1.advices.Lawful := by
  unfold Machine.checked
  split
  · exact lawful
  · exact taken

theorem takeAdvise (r : Req) (a : Advice) (lawful : s.advices.Lawful) : (takeAdvise r a s).1.advices.Lawful := by
  refine lawful.guarded_settled ?_
  unfold Machine.checked
  split
  · exact lawful
  · next passes => exact lawful.enterAdvice passes

theorem takeWithdraw (r : Req) (tag : Nat) (lawful : s.advices.Lawful) : (takeWithdraw r tag s).1.advices.Lawful := by
  refine lawful.guarded ?_
  repeat' split
  · exact lawful
  · exact lawful.freeEntry
  · exact lawful
  · exact lawful

theorem takeLogPurge (r : Req) (lawful : s.advices.Lawful) : (takeLogPurge r s).1.advices.Lawful := by
  refine lawful.guarded ?_
  split
  · exact lawful.purge
  · exact lawful

theorem clearFault (lawful : s.advices.Lawful) (ok : clearFault h s = .ok t) : t.advices.Lawful := by
  simp only [Machine.clearFault] at ok
  repeat' split at ok
  on_goal 4 => next taken => cases ok; simp [takeReservation_advices _ taken, lawful]
  all_goals cases ok
  all_goals simp [lawful]

theorem takeHeadClearFault (r : Req) (n : Nat) (lawful : s.advices.Lawful) :
    (takeHeadClearFault r n s).1.advices.Lawful := by
  refine lawful.guarded_settled ?_
  repeat' split
  · exact lawful
  · next ok => exact lawful.clearFault ok
  · exact lawful
  · exact lawful

theorem takeLineSet (r : Req) (n debounce : Nat) (p : Polarity) (lawful : s.advices.Lawful) :
    (takeLineSet r n p debounce s).1.advices.Lawful := by
  refine lawful.guarded_settled ?_
  repeat' split
  · exact lawful
  · exact lawful
  · simp only [accept, setLine]
    split
    · exact lawful
    · exact lawful.rawChanged (s := s.setInput _ _) _

theorem takeStep (n : Nat) (ok empty : Bool) (k : CalKind) (lawful : s.advices.Lawful) :
    (takeStep n ok k empty s).1.advices.Lawful := by
  unfold Machine.takeStep
  repeat' split
  · exact lawful
  · exact lawful
  · refine lawful.checked ?_
    simp only [accept, startStep]
    split <;> simp [lawful]

theorem takeModeSetNight (r : Req) (lawful : s.advices.Lawful) : (takeModeSetNight r s).1.advices.Lawful := by
  refine lawful.guarded_settled ?_
  split
  · next ok => simpa [accept, setNight_advices _ ok] using lawful
  · exact lawful

theorem takeClockSet (r : Req) (v : BitVec 32) (lawful : s.advices.Lawful) : (takeClockSet r v s).1.advices.Lawful := by
  refine lawful.guarded_settled ?_
  exact minuteBoundary (s := { s with clock := some v.toNat }) _ lawful

/-- A request taken keeps the advice table in order. -/
theorem takeRequest (c : Instr) (lawful : s.advices.Lawful) : (takeRequest c s).1.advices.Lawful := by
  cases c
  case advise => exact lawful.takeAdvise ..
  case withdraw => exact lawful.takeWithdraw ..
  case logPurge => exact lawful.takeLogPurge ..
  case clockSet => exact lawful.takeClockSet ..
  case headClearFault => exact lawful.takeHeadClearFault ..
  case lineSet => exact lawful.takeLineSet ..
  case calZero => exact lawful.guarded (lawful.takeStep ..)
  case calSpan => exact lawful.guarded (lawful.takeStep ..)
  case calVerify => exact lawful.guarded (lawful.takeStep ..)
  case modeSetNight => exact lawful.takeModeSetNight ..
  case headClose =>
    refine lawful.guarded_settled ?_
    split
    · exact lawful
    · exact lawful.foldl fun _ _ lawful => by simpa using lawful
  case headOpen | binSet | zoneMapSet | liftResolve | modeSetDay | officerSet | releaseConfirm | releaseCancel =>
    refine lawful.guarded_settled ?_
    repeat' split
    all_goals simp [accept, refuse, lawful]
  case weightRead =>
    refine lawful.guarded ?_
    split
    · exact lawful
    · dsimp only
      split <;> exact lawful
  case status | identify | settingsRead | linkSet | headSet | weighSet | scanSet | auxRead | adviceQuery | denomSet |
      bagTypeSet | toleranceSet | logRead | logInfo | logSet | binRead | liftSet | liftRead | scheduleSet |
      setReleaseWindow | releaseSet | releaseRequest | releaseRead | lineStatus | lineAck | lineReportSet | outputSet |
      clockRead | alarmAck | alarmSet | serviceEnter | serviceExit | patternSet | snapshot | statsRead | statsClear |
      restart =>
    refine lawful.guarded ?_
    repeat' split
    all_goals simp [accept, refuse, report, lawful]
  case coldInitialise => exact lawful.guarded (lawful.checked lawful)
  all_goals exact lawful

/-! ### The ports -/

theorem answer {p : PortId} {out : State × Reply} (lawful : out.1.advices.Lawful) : (answer p out).advices.Lawful := by
  simpa [Machine.answer] using lawful

theorem arrive {r : Req} {c : Instr} {take : State → State × Reply} (lawful : s.advices.Lawful)
    (taken : ∀ u : State, u.advices.Lawful → (take u).1.advices.Lawful) : (arrive r c take s).advices.Lawful := by
  simp only [Machine.arrive]
  repeat' split
  · simpa using lawful
  · exact answer (taken _ (by simpa using lawful))
  · simpa using lawful

theorem handOn (p : PortId) (kind number : Byte) (payload : List Byte) (lawful : s.advices.Lawful) :
    (handOn p kind number payload s).advices.Lawful := by
  unfold Machine.handOn
  split
  · exact lawful.arrive fun _ lawful => lawful.takeRequest _
  · simpa using lawful

theorem closeFrame (p : PortId) (bytes : List Byte) (lawful : s.advices.Lawful) :
    (closeFrame p bytes s).advices.Lawful := by
  simp only [Machine.closeFrame]
  repeat' split
  · exact handOn _ _ _ _ (by simpa [withReceiver] using lawful)
  · simpa using lawful
  · simpa using lawful

theorem receiveByte (p : PortId) (byte : Byte) (lawful : s.advices.Lawful) : (receiveByte p byte s).advices.Lawful := by
  have received {v : Receiver} : (withReceiver p v s).advices.Lawful := by simpa [withReceiver] using lawful
  unfold Machine.receiveByte
  repeat' split
  · exact received
  · exact lawful
  · exact lawful
  · simpa using lawful
  · exact lawful.closeFrame ..
  · exact received

theorem frameGone (p : PortId) (lawful : s.advices.Lawful) : (frameGone p s).advices.Lawful := by
  simp only [Machine.frameGone]
  split
  · exact lawful
  · simpa using lawful
  · have gone {v : Port} : (s.setPort p v).advices.Lawful := by simpa using lawful
    unfold afterReply
    split
    · exact gone.supplyRestart _
    · exact .cold ..
    · unfold takeNext
      split
      · exact answer (gone.takeRequest _)
      · exact gone

/-! ### Commands -/

theorem of_done {u : State} (lawful : u.advices.Lawful) (next : done u = .next t) : t.advices.Lawful := by
  obtain rfl := Host.Outcome.next.inj next
  exact lawful

theorem of_settled {f : State → State} (lawful : (f s).advices.Lawful) (next : done (settled f s) = .next t) :
    t.advices.Lawful :=
  of_done (by rwa [settled_advices]) next

/-- An event keeps the advice table in order. -/
theorem event {c : Instr} (lawful : s.advices.Lawful) (event : requestOf c = none) (next : exec c s = .next t) :
    t.advices.Lawful := by
  cases c <;> simp only [requestOf, reduceCtorEq] at event
  case coldStart => exact of_done (cold ..) next
  case supplyRestart =>
    refine of_done (supplyRestart _ ?_) next
    exact lawful
  case byteReceived => exact of_done (lawful.receiveByte ..) next
  case frameSent => exact of_done (lawful.frameGone ..) next
  case rawLevelChange =>
    refine of_settled ?_ next
    unfold rawLevelChange
    split
    · exact lawful
    · exact rawChanged (s := s.setInput _ _) _ lawful
  case windowTimerExpiry =>
    refine of_settled ?_ next
    simp only [windowExpired]
    repeat' split
    all_goals simp [lawful]
  case settleTimerExpiry =>
    refine of_settled ?_ next
    unfold settleTimerExpired
    split <;> simp [lawful]
  case clockSecond =>
    refine of_settled ?_ next
    simp only [clockTick]
    repeat' split
    all_goals simp [lawful]
  all_goals
    refine of_done ?_ next
    repeat' split
    all_goals simp [lawful]

/-- A command keeps the advice table in order. -/
theorem exec {c : Instr} (lawful : s.advices.Lawful) (next : exec c s = .next t) : t.advices.Lawful := by
  cases request : requestOf c with
  | none => exact lawful.event request next
  | some r =>
    rw [exec_request s request] at next
    exact of_done (lawful.arrive fun _ lawful => lawful.takeRequest c) next

end AdviceTable.Lawful

/-- Settles O59: the order of the table is kept by every command. -/
theorem adviceTableIsKept : Obligations.AdviceTableIsKept := by
  intro s t lawful next
  unfold step at next
  split at next
  · cases next
    exact lawful
  · next rest _ => exact AdviceTable.Lawful.exec (s := { s with pending := rest }) lawful next

end Sys2Proof.Machine
end

section
/-! Tables, schedule, release settings and a line's report settings stored as given (R65 to R67,
R143, R146, R148, R168). -/

namespace Sys2Proof.Machine

/-- Settles O40: each rule stores what it was given, its values being in range. -/
theorem tablesAndTimesAreStored : Obligations.TablesAndTimesAreStored := by
  intro s r takes
  refine ⟨fun code kind mass enabled le low high => ?_, fun bagType tare le high => ?_,
    fun cls floor perMille le high small => ?_, fun night day enabled n d apart => ?_, fun opens closes o c apart => ?_,
    fun confirm unlock limit c1 c2 u1 u2 l1 l2 => ?_, fun n edges flag le => ?_⟩
  · refine exec_answered (serviceOnly := false) rfl rfl takes nofun ?_
    exact if_neg (by rw [inRange_eq_false_iff]; omega)
  · exact exec_answered (serviceOnly := false) rfl rfl takes nofun (if_neg (by omega))
  · exact exec_answered (serviceOnly := false) rfl rfl takes nofun (if_neg (by omega))
  · refine exec_answered (serviceOnly := false) rfl rfl takes nofun ?_
    exact if_neg (by rw [minuteOk_eq_false_iff, minuteOk_eq_false_iff]; omega)
  · refine exec_answered (serviceOnly := false) rfl rfl takes nofun ?_
    exact if_neg (by rw [minuteOk_eq_false_iff, minuteOk_eq_false_iff]; omega)
  · refine exec_answered (serviceOnly := false) rfl rfl takes nofun ?_
    exact if_pos (by simp only [Bool.and_eq_true, inRange_iff]; omega)
  · exact exec_answered (serviceOnly := false) rfl rfl takes nofun (if_neg (by omega))

end Sys2Proof.Machine
end

section
/-! The setting of the log's low-water threshold and the purge (R62, R95, R96, R99). -/

namespace Sys2Proof.Machine

variable {s : State} {r : Req}

theorem Record.final_eq : Record.final = fun x => decide (x.state = .released) || decide (x.state = .withdrawn) :=
  funext fun _ => by simp only [Record.final, beq_eq_decide]

/-- Whether some record that a purge removes names an advice index (R62, R99). -/
def CustodyLog.spends (l : CustodyLog) (i : Nat) : Bool := l.records.any fun x => x.final && decide (x.advice = some i)

theorem CustodyLog.mem_spent {l : CustodyLog} {i : Nat} :
    i ∈ (l.records.filter Record.final).filterMap (·.advice) ↔ l.spends i = true := by
  simp only [spends, List.mem_filterMap, List.mem_filter, List.any_eq_true, Bool.and_eq_true, decide_eq_true_eq, and_assoc]

/-- The entries that the removed records name are freed (R62). -/
theorem AdviceTable.freeAll_spent (t : AdviceTable) (l : CustodyLog) :
    t.freeAll ((l.records.filter Record.final).filterMap (·.advice)) =
      ⟨t.entries.filter fun e => !l.spends e.index, t.order.filter fun i => !l.spends i⟩ := by
  simp only [freeAll, CustodyLog.mem_spent, Bool.not_eq_true, Bool.decide_eq_false]

theorem AdviceTable.namedBy_spent (t : AdviceTable) (l : CustodyLog) :
    t.namedBy ((l.records.filter Record.final).filterMap (·.advice)) = t.entries.countP fun e => l.spends e.index := by
  simp only [namedBy, CustodyLog.mem_spent, Bool.decide_eq_true]

theorem lowWaterRise_eq (s : State) : lowWaterRise s =
    { s with log := { s.log with lowFlag := s.log.lowFlag && decide (s.logFree ≤ s.log.lowWater) } } := by
  rw [← lowWaterRise_log_eq]
  unfold lowWaterRise
  split <;> rfl

theorem exec_logSet (takes : s.takes r) {n : Nat} (low : 8 ≤ n) (high : n ≤ 256) : exec (.logSet r n) s =
    .next ((judgeLowWater { s.holding r (.logSet r n) with
      log := { s.log with lowWater := n } }).replied r (.ok .done)) := by
  refine exec_answered (serviceOnly := false) rfl rfl takes nofun ?_
  rw [if_pos ((inRange_iff 8 256 n).mpr ⟨low, high⟩)]
  simp only [State.holding_frame]
  rfl

/-- What a purge makes of the log and the advice table: with nothing to remove the flag stands, otherwise it is judged
against the free count, which has risen (R62, R99). -/
theorem purge_eq (s : State) : purge s =
    accept (.purged (s.log.records.countP Record.final) (s.advices.entries.countP fun e => s.log.spends e.index)) { s with
      log := { s.log with
        records := s.log.records.filter fun x => !x.final
        lowFlag := s.log.lowFlag && (s.log.records.countP Record.final == 0 ||
          decide (1024 - (s.log.records.filter fun x => !x.final).length - s.log.reservations ≤ s.log.lowWater)) }
      advices := ⟨s.advices.entries.filter fun e => !s.log.spends e.index,
        s.advices.order.filter fun i => !s.log.spends i⟩ } := by
  simp only [purge, AdviceTable.freeAll_spent, AdviceTable.namedBy_spent, List.countP_eq_length_filter (p := Record.final)]
  split
  · next none =>
    rw [List.isEmpty_iff] at none
    simp [none]
  · next some =>
    have spent : ((s.log.records.filter Record.final).length == 0) = false := by simpa using some
    rw [lowWaterRise_eq, spent, Bool.false_or]
    rfl

/-- Settles O42: LOG_SET by the flag judged both ways, LOG_PURGE by what a purge makes of the log and the table. -/
theorem logIsSetAndPurged : Obligations.LogIsSetAndPurged := by
  intro s r takes
  refine ⟨fun n low high => ⟨_, exec_logSet takes low high, ?_, ?_, ?_, ?_⟩, fun night => ?_, fun day => ?_⟩
  · rw [(State.Settles.replied ..).log, judgeLowWater_log]
    rfl
  · rw [(State.Settles.replied ..).heads]
    simp [judgeLowWater]
  · rw [(State.Settles.replied ..).advices]
    simp
  · rw [(State.Settles.replied ..).rack]
    simp [judgeLowWater]
  · exact exec_answered (serviceOnly := false) rfl rfl takes nofun (if_neg (by simpa using night))
  · refine exec_answered (serviceOnly := false) rfl rfl takes nofun ?_
    rw [if_pos (by simpa using day), purge_eq]
    simp only [State.holding_frame, CustodyLog.spends, Record.final_eq, accept]

end Sys2Proof.Machine
end

section
/-! The clock counts, sweeps the advices and runs the schedule (R63, R141, R142, R144, R173, R174). -/

namespace Sys2Proof.Machine

variable {s t : State}

/-! ### The sweep -/

theorem AdviceEntry.expiredAt_eq (e : AdviceEntry) (now : Nat) :
    e.expiredAt now = (decide (e.state = .pending) && decide (e.validUntil ≤ now)) := by
  simp only [AdviceEntry.expiredAt, AdviceEntry.isPending, beq_eq_decide]

/-- Notices raised one after another change the ports alone. -/
theorem foldl_notify_frame {α : Type} (f : α → Notice) (l : List α) (s : State) :
    let t := l.foldl (fun u a => notify (f a) u) s
    t.heads = s.heads ∧ t.rack = s.rack ∧ t.lift = s.lift ∧ t.release = s.release ∧ t.inputs = s.inputs := by
  induction l generalizing s with
  | nil => exact ⟨rfl, rfl, rfl, rfl, rfl⟩
  | cons a rest ih => simpa using ih (notify (f a) s)

/-- The sweep leaves the heads, the rack, the lift, release control and the lines as they are (R63). -/
theorem sweepAdvices_frame (now : Nat) (s : State) :
    let t := sweepAdvices now s
    t.heads = s.heads ∧ t.rack = s.rack ∧ t.lift = s.lift ∧ t.release = s.release ∧ t.inputs = s.inputs :=
  foldl_notify_frame (fun e : AdviceEntry => .adviceExpired e.tag e.index) _ _

/-! ### The schedule -/

theorem evaluateSchedule_of_idle {now : Nat} (idle : s.release.schedule.enabled = false ∨
    (minuteOfDay now ≠ s.release.schedule.nightStart ∧ minuteOfDay now ≠ s.release.schedule.dayMinute)) :
    evaluateSchedule now s = s := by
  rcases idle with off | ⟨night, day⟩
  · exact if_pos off
  · rw [evaluateSchedule, if_neg night, if_neg day, ite_self]

/-- A scheduled NIGHT is missed where a bin is open (R139, R140, R144). -/
theorem evaluateSchedule_of_binsOpen {now : Nat} (enabled : s.release.schedule.enabled = true)
    (minute : minuteOfDay now = s.release.schedule.nightStart) (mode : s.mode ≠ .night) (opened : 0 < s.rack.openBins) :
    evaluateSchedule now s = notify (.scheduleMissed .night .binsOpen) s := by
  have refused : setNight .schedule s = .error .binsOpen := by
    have refusal : nightRefusal s = some .binsOpen := if_pos opened
    unfold setNight
    split
    · next night => exact absurd (by rw [State.mode, night]; rfl) mode
    · rw [refusal]
    · rw [refusal]
  rw [evaluateSchedule, if_neg (by simp [enabled]), if_pos minute, refused]

theorem evaluateSchedule_of_dayMinute {now : Nat} (enabled : s.release.schedule.enabled = true)
    (apart : minuteOfDay now ≠ s.release.schedule.nightStart) (minute : minuteOfDay now = s.release.schedule.dayMinute) :
    evaluateSchedule now s = setDay .schedule s := by
  rw [evaluateSchedule, if_neg (by simp [enabled]), if_neg apart, if_pos minute]

theorem closeAll_of_closed (c : CloseCause) (closed : ∀ h, (s.head h).state = .closed) : closeAll c s = s := by
  simp [closeAll, HeadId.all, receiveClose, closed]

theorem evaluateDrain_eq_changeMode {source : ModeSource} (pending : s.release.mode = .dayPending source)
    (closed : ∀ h, (s.head h).state = .closed) (empty : ∀ h, (s.head h).staging = []) (idle : s.lift.state = .idle) :
    evaluateDrain s = changeMode .day source s := by
  have drained : drainCondition s = true := by simp [drainCondition, headDrained, closed, empty, idle]
  simp only [evaluateDrain, pending, drained, if_true]

/-- DAY is entered through DAY_PENDING, at once where every head is CLOSED, nothing waits in staging and the lift is IDLE
(R141, R142). -/
theorem setDay_of_drained (source : ModeSource) (night : s.mode = .night)
    (closed : ∀ h, (s.head h).state = .closed) (empty : ∀ h, (s.head h).staging = []) (idle : s.lift.state = .idle) :
    setDay source s = notify (.modeChanged .day .dayPending source) (notify (.modeChanged .dayPending .night source)
      { s with release := { s.release with mode := .day } }) := by
  have mode : s.release.mode = .night := by
    revert night
    rw [State.mode]
    cases s.release.mode <;> simp [Mode.name]
  simp only [setDay, mode]
  rw [closeAll_of_closed _ (by simpa using closed), evaluateDrain_eq_changeMode (source := source) (by simp [changeMode])
    (by simpa using closed) (by simpa using empty) (by simpa using idle)]
  simp only [changeMode, night, notify_frame]
  rfl

/-! ### The clock -/

/-- A tick that leaves heads, lines and lift as they are is followed by nothing else (R123, R142). -/
theorem exec_clockSecond (tick : clockTick s = t) (heads : t.heads = s.heads) (inputs : t.inputs = s.inputs)
    (lift : t.lift = s.lift) : exec .clockSecond s = .next (pump t) := by
  subst tick
  refine congrArg done (settled_of_same s clockTick (fun h => ?_) (fun h => ?_) (by rw [lift]))
  · rw [State.head, heads, State.head]
  · rw [State.input, inputs, State.input]

theorem clockTick_of_minute {x : Nat} (clock : s.clock = some x) (lt : x < 4294967295) (minute : (x + 1) % 60 = 0) :
    clockTick s = evaluateSchedule (x + 1) (sweepAdvices (x + 1) { s with clock := some (x + 1) }) := by
  simp only [clockTick, clock, wordMax, lt, minute, if_true]
  rfl

/-- Settles O29: the cases of a tick by the clock's value, and those of a minute boundary by the schedule. -/
theorem clockCountsAndSweeps : Obligations.ClockCountsAndSweeps := by
  intro s
  refine ⟨fun still => ?_, fun x clock lt within => ?_, fun x clock lt boundary => ?_⟩
  · refine exec_clockSecond ?_ rfl rfl rfl
    rcases still with clock | clock <;> simp [clockTick, clock, wordMax]
  · exact exec_clockSecond (by simp [clockTick, clock, wordMax, lt, within]) rfl rfl rfl
  · intro gone swept minute schedule
    have sweep : sweepAdvices (x + 1) { s with clock := some (x + 1) } = swept := by
      simp only [sweepAdvices, AdviceEntry.expiredAt_eq]
      rfl
    have tick := clockTick_of_minute clock lt boundary
    obtain ⟨heads, rack, lift, release, inputs⟩ := sweepAdvices_frame (x + 1) { s with clock := some (x + 1) }
    rw [sweep] at tick heads rack lift release inputs
    have same (h : HeadId) : swept.head h = s.head h := by rw [State.head, heads, State.head]
    have mode : swept.mode = s.mode := by rw [State.mode, release, State.mode]
    refine ⟨fun idle => ?_, fun enabled now out opened => ?_, fun enabled now apart night rest idle => ?_⟩
    · refine exec_clockSecond (tick.trans (evaluateSchedule_of_idle ?_)) heads inputs lift
      rw [release]
      exact idle
    · refine exec_clockSecond (tick.trans (evaluateSchedule_of_binsOpen ?_ ?_ ?_ ?_)) ?_ ?_ ?_
      · rw [release]; exact enabled
      · rw [release]; exact now
      · rw [mode]; exact out
      · rw [rack]; exact opened
      · rw [← heads]; simp
      · rw [← inputs]; simp
      · rw [← lift]; simp
    · have day : evaluateSchedule (x + 1) swept = setDay .schedule swept :=
        evaluateSchedule_of_dayMinute (release ▸ enabled) (release ▸ apart) (release ▸ now)
      rw [setDay_of_drained _ (mode.trans night) (fun h => by rw [same]; exact (rest h).1)
        (fun h => by rw [same]; exact (rest h).2) (by rw [lift]; exact idle), release] at day
      refine exec_clockSecond (tick.trans day) ?_ ?_ ?_
      · rw [← heads]; simp
      · rw [← inputs]; simp
      · rw [← lift]; simp

end Sys2Proof.Machine
end

section
/-! ADVISE with its checks and its late match, and WITHDRAW (R53 to R58, R68, R72, R80, R81). -/

namespace Sys2Proof.Machine

variable {s : State} {r : Req} {a : Advice} {n : Nat}

/-! ### The checks of ADVISE -/

theorem contentOk_eq_false_iff : Advice.contentOk a = false ↔
    (a.tag = 0 ∨ 999999999 < a.tag ∨ a.reference = [] ∨ 16 < a.reference.length ∨
        (∃ x ∈ a.reference, x.toNat < 0x20 ∨ 0x7E < x.toNat) ∨ 3 < a.bagType ∨ 3 < a.serviceClass ∨ a.lines = [] ∨
        8 < a.lines.length ∨ (∃ l ∈ a.lines, 15 < l.1 ∨ l.2 = 0 ∨ 9999 < l.2) ∨ ¬(a.lines.map (·.1)).Nodup) := by
  simp only [Advice.contentOk, referenceOk, distinctCodes, Bool.and_eq_false_iff, decide_eq_false_iff_not,
    List.all_eq_false, Bool.and_eq_true, decide_eq_true_eq, not_and_or, Nat.not_le, Nat.lt_one_iff,
    List.length_eq_zero_iff, or_assoc]

theorem denominationsEnabled_eq_false_iff {j : JudgeTables} : Advice.denominationsEnabled j a = false ↔
    ∃ l ∈ a.lines, ∀ d, j.denominations[l.1]? = some d → d.enabled = false := by
  simp only [Advice.denominationsEnabled, List.all_eq_false]
  refine exists_congr fun l => and_congr_right fun _ => ?_
  cases j.denominations[l.1]? <;> simp

theorem windowOk_eq_false_iff {clock : Option Nat} : Advice.windowOk clock a = false ↔ ∀ now, clock = some now →
    a.validUntil / 60 * 60 ≤ now ∨ now + 604800 < a.validUntil / 60 * 60 := by
  cases clock with
  | none => simp [Advice.windowOk]
  | some now => simp [Advice.windowOk]; omega

theorem AdviceTable.pendingOf_isSome_iff {t : AdviceTable} {tag : Nat} :
    (t.pendingOf tag).isSome = true ↔ ∃ e ∈ t.entries, e.state = .pending ∧ e.tag = tag := by
  simp [AdviceTable.pendingOf, AdviceEntry.isPending]

/-- A table in order is full at 400 entries (R51). -/
theorem AdviceTable.Lawful.full_iff {t : AdviceTable} (lawful : t.Lawful) :
    adviceCapacity ≤ t.entries.length ↔ t.entries.length = 400 :=
  ⟨fun full => lawful.length_le.antisymm full, fun full => full.ge⟩

/-! ### What ADVISE answers -/

theorem Record.lateMatchable_eq (tag : Nat) (x : Record) : x.lateMatchable tag =
    (decide (x.verdict = .unadvised) && !x.late && decide (x.tag = some tag) &&
      (decide (x.state = .judged) || decide (x.state = .inTransfer) || decide (x.state = .stored) ||
        decide (x.state = .transferFault))) := by
  simp only [Record.lateMatchable, beq_eq_decide]

/-- A request whose rule leaves heads, lines and lift as they are is followed by nothing else (R123, R142). -/
theorem settledReply_eq {own : State → State × Reply} {t : State} {rep : Reply} (answer : own s = (t, rep))
    (heads : t.heads = s.heads) (inputs : t.inputs = s.inputs) (lift : t.lift = s.lift) :
    settledReply own s = (t, rep) := by
  rw [settledReply_of_same s own, answer] <;> rw [answer]
  · exact fun h => by rw [State.head, heads, State.head]
  · exact fun h => by rw [State.input, inputs, State.input]
  · rw [lift]

theorem adviseRefusal_holding (c : Instr) : adviseRefusal (s.holding r c) a = adviseRefusal s a := by
  simp only [adviseRefusal, State.holding_frame]

theorem isFront_eq_false (behind : ∀ h, (s.head h).staging.head? ≠ some n) : s.isFront n = false := by
  simp [State.isFront, behind]

/-- Where the record is no front record, no arbitration follows the late match (R56, R80, R81, R123). -/
theorem enterAdvice_of_behind {x : Record} (found : s.log.records.find? (·.lateMatchable a.tag) = some x)
    (behind : s.isFront x.seq = false) :
    let expected := expectedMass s.judge a
    let tolerance := toleranceOf expected (s.judge.toleranceEntry a.serviceClass)
    let v := lateVerdict s.judge a expected x
    enterAdvice a s = accept (.lateMatch s.advices.freeIndex expected x.seq v)
      { s with
        log := { s.log with records := s.log.records.map fun y =>
          if y.seq = x.seq then y.lateMatched v s.advices.freeIndex expected tolerance else y }
        advices := ⟨insertEntry (entryOf a s.advices.freeIndex expected (lodgedState v x.seq)) s.advices.entries,
          s.advices.order ++ [s.advices.freeIndex]⟩ } := by
  simp only [enterAdvice, found]
  refine congrArg (accept _) (if_neg ?_)
  show ¬ s.isFront x.seq = true
  simp [behind]

section
variable (takes : s.takes r)
include takes

/-- A check that fails refuses the advice (R53). -/
theorem exec_advise_refused {code : Refuse} (refusal : adviseRefusal s a = some code) :
    exec (.advise r a) s = .next ((s.holding r (.advise r a)).replied r (.refused code)) := by
  refine exec_answered (serviceOnly := false) rfl rfl takes nofun (settledReply_eq ?_ rfl rfl rfl)
  rw [adviseRefusal_holding, refusal]
  rfl

/-- An advice that passes its checks is entered (R53). -/
theorem exec_advise_entered {t : State} {rep : Reply} (passes : adviseRefusal s a = none)
    (entered : enterAdvice a (s.holding r (.advise r a)) = (t, rep)) (heads : t.heads = (s.holding r (.advise r a)).heads)
    (inputs : t.inputs = (s.holding r (.advise r a)).inputs) (lift : t.lift = (s.holding r (.advise r a)).lift) :
    exec (.advise r a) s = .next (t.replied r rep) := by
  refine exec_answered (serviceOnly := false) rfl rfl takes nofun (settledReply_eq ?_ heads inputs lift)
  rw [adviseRefusal_holding, passes]
  exact entered
end

/-! ### WITHDRAW -/

theorem AdviceTable.lodgedHas_eq_true_iff {t : AdviceTable} {tag : Nat} (none : t.pendingOf tag = none) :
    t.lodgedHas tag = true ↔ ∃ e ∈ t.entries, e.tag = tag := by
  have apart := pendingOf_eq_none_iff.1 none
  simp only [lodgedHas, List.any_eq_true, Bool.and_eq_true, Bool.not_eq_true', beq_iff_eq]
  refine exists_congr fun e => and_congr_right fun mem => and_iff_right_of_imp fun same => ?_
  exact Bool.eq_false_iff.2 fun pending => apart e mem pending same

theorem AdviceTable.pendingOf_eq_none_of_apart {t : AdviceTable} {tag : Nat}
    (apart : ∀ e ∈ t.entries, e.tag = tag → e.state ≠ .pending) : t.pendingOf tag = none :=
  pendingOf_eq_none_iff.2 fun e mem pending same => apart e mem same (by simpa [AdviceEntry.isPending] using pending)

section
variable (takes : s.takes r) {tag : Nat} (inside : tagOk tag = true)
include takes inside

/-- A PENDING entry is freed (R58, R62). -/
theorem exec_withdraw_pending {e : AdviceEntry} (found : s.advices.pendingOf tag = some e) :
    let u := s.holding r (.withdraw r tag)
    exec (.withdraw r tag) s = .next ({ u with advices := u.advices.freeEntry e.index }.replied r
      (.ok (.freed e.index))) := by
  refine exec_answered (serviceOnly := false) rfl rfl takes nofun ?_
  rw [if_neg (by simp [inside])]
  simp only [State.holding_frame, found]
  rfl

/-- Without a PENDING entry the answer turns on a lodged one (R58). -/
theorem exec_withdraw_refused {code : Refuse} (none : s.advices.pendingOf tag = none)
    (why : (if s.advices.lodgedHas tag = true then Refuse.adviceLodged else .notFound) = code) :
    exec (.withdraw r tag) s = .next ((s.holding r (.withdraw r tag)).replied r (.refused code)) := by
  subst why
  refine exec_answered (serviceOnly := false) rfl rfl takes nofun ?_
  rw [if_neg (by simp [inside])]
  simp only [State.holding_frame, none]
  exact (apply_ite (refuse · _) ..).symm
end

/-- Settles O46: ADVISE by the first check that fails, or by the record it late-matches; WITHDRAW by the entries that
have the tag. -/
theorem advicesAreEnteredAndWithdrawn : Obligations.AdvicesAreEnteredAndWithdrawn := by
  intro s r takes
  refine ⟨fun a lawful => ?_, fun tag low high => ?_, fun tag outside => ?_⟩
  · intro expected validMinute full illFormed disabled heavy outside twice u refused entry waits
    have fits : ¬full → ¬adviceCapacity ≤ s.advices.entries.length := lawful.full_iff.not.2
    have wellFormed : ¬illFormed → ¬Advice.contentOk a = false := contentOk_eq_false_iff.not.2
    have light : ¬heavy → ¬20000000 < expectedMass s.judge a := id
    have usable : ¬disabled → ¬Advice.denominationsEnabled s.judge a = false := denominationsEnabled_eq_false_iff.not.2
    have timely : ¬outside → ¬Advice.windowOk s.clock a = false := windowOk_eq_false_iff.not.2
    have single : ¬twice → ¬(s.advices.pendingOf a.tag).isSome = true := AdviceTable.pendingOf_isSome_iff.not.2
    refine ⟨fun f => ?_, fun f i => ?_, fun f i d => ?_, fun f i d h => ?_, fun f i d h o => ?_, fun f i d h o t => ?_,
      fun f i d h o t => ?_⟩
    · exact exec_advise_refused takes (if_pos (lawful.full_iff.2 f))
    · refine exec_advise_refused takes ?_
      rw [adviseRefusal, if_neg (fits f), if_pos (contentOk_eq_false_iff.2 i)]
    · refine exec_advise_refused takes ?_
      rw [adviseRefusal, if_neg (fits f), if_neg (wellFormed i), if_pos (denominationsEnabled_eq_false_iff.2 d)]
    · refine exec_advise_refused takes ?_
      rw [adviseRefusal, if_neg (fits f), if_neg (wellFormed i), if_neg (usable d),
        if_pos (show 20000000 < expectedMass s.judge a from h)]
    · refine exec_advise_refused takes ?_
      rw [adviseRefusal, if_neg (fits f), if_neg (wellFormed i), if_neg (usable d), if_neg (light h),
        if_pos (windowOk_eq_false_iff.2 o)]
    · refine exec_advise_refused takes ?_
      rw [adviseRefusal, if_neg (fits f), if_neg (wellFormed i), if_neg (usable d), if_neg (light h), if_neg (timely o),
        if_pos (AdviceTable.pendingOf_isSome_iff.2 t)]
    · have passes : adviseRefusal s a = none := by
        rw [adviseRefusal, if_neg (fits f), if_neg (wellFormed i), if_neg (usable d), if_neg (light h), if_neg (timely o),
          if_neg (single t)]
      have waiting : (fun x : Record => x.lateMatchable a.tag) = waits := funext fun x => x.lateMatchable_eq a.tag
      refine ⟨s.advices.freeIndex, lawful.index_ne_freeIndex, fun j lt => occupied_of_lt_lowestFree (Nat.zero_le j) lt,
        fun unmatched => ?_, fun x found behind => ?_⟩
      · refine exec_advise_entered takes passes ?_ rfl rfl rfl
        simp only [enterAdvice, State.holding_frame, waiting, unmatched]
        simp only [enterPending, State.holding_frame, u]
        rfl
      · intro tolerance m verdict state
        refine exec_advise_entered takes passes ?_ rfl rfl rfl
        rw [enterAdvice_of_behind (x := x) (by rw [waiting]; simpa using found)
          (isFront_eq_false (by simpa using behind))]
        simp only [State.holding_frame, u]
        rfl
  · have inside : tagOk tag = true := (tagOk_iff tag).2 ⟨low, high⟩
    refine ⟨fun e found => ?_, fun apart => ⟨fun ⟨e, mem, same⟩ => ?_, fun unknown => ?_⟩⟩
    · refine exec_withdraw_pending takes inside ?_
      simpa only [AdviceTable.pendingOf, AdviceEntry.isPending, beq_eq_decide] using found
    · have free := AdviceTable.pendingOf_eq_none_of_apart apart
      refine exec_withdraw_refused takes inside free ?_
      rw [if_pos ((AdviceTable.lodgedHas_eq_true_iff free).2 ⟨e, mem, same⟩)]
    · have free := AdviceTable.pendingOf_eq_none_of_apart apart
      refine exec_withdraw_refused takes inside free ?_
      rw [if_neg ((AdviceTable.lodgedHas_eq_true_iff free).not.2 fun ⟨e, mem, same⟩ => unknown e mem same)]
  · exact exec_answered (serviceOnly := false) rfl rfl takes nofun (if_pos ((inRange_eq_false_iff ..).2 (by omega)))

end Sys2Proof.Machine
end

section
/-! The verdict: the order of the eight tests and the edges of the mass band (R73, R74). -/

namespace Sys2Proof.Machine

/-! ### The mass tests (R74) -/

section

variable {m e tolerance : Nat}

theorem massVerdict_of_lt_lowEdge (below : (m : Int) < e - tolerance) : massVerdict m e tolerance = .shortMass :=
  if_pos (by omega)

theorem massVerdict_of_highEdge_lt (above : (e : Int) + tolerance < m) : massVerdict m e tolerance = .overMass := by
  rw [massVerdict, if_neg (by omega), if_pos (by omega)]

theorem massVerdict_of_within (low : (e : Int) - tolerance ≤ m) (high : (m : Int) ≤ e + tolerance) :
    massVerdict m e tolerance = .accepted := by
  rw [massVerdict, if_neg (by omega), if_neg (by omega)]

end

/-! ### The tests before them (R73) -/

section

variable {beam : Nat} {tag : TagOutcome} {w : WeighOutcome} {l : Lookup} {tolerance : Nat}

theorem verdictOf_multiple (several : 2 ≤ beam) : verdictOf beam tag w l tolerance = .multiple := if_pos several

theorem verdictOf_unread (single : beam < 2) (unread : ¬∃ n, tag = .tag n) :
    verdictOf beam tag w l tolerance = .unread := by
  cases tag with
  | tag n => exact absurd ⟨n, rfl⟩ unread
  | noTag | conflict => exact if_neg (by omega)

theorem verdictOf_unsettled (single : beam < 2) (n : Nat) (unsettled : ¬∃ m neg, w = .settled m neg) :
    verdictOf beam (.tag n) w l tolerance = .unsettled := by
  cases w with
  | settled m neg => exact absurd ⟨m, neg, rfl⟩ unsettled
  | unsettled cause => exact if_neg (by omega)

theorem verdictOf_unadvised (single : beam < 2) (n m : Nat) (neg : Bool) :
    verdictOf beam (.tag n) (.settled m neg) .none tolerance = .unadvised := if_neg (by omega)

theorem verdictOf_duplicate (single : beam < 2) (n m : Nat) (neg : Bool) :
    verdictOf beam (.tag n) (.settled m neg) .lodged tolerance = .duplicate := if_neg (by omega)

/-- With one bag, its tag read, its mass settled and a PENDING advice, the mass alone decides. -/
theorem verdictOf_pending (single : beam < 2) (n m : Nat) (neg : Bool) (i e c : Nat) :
    verdictOf beam (.tag n) (.settled m neg) (.pending i e c) tolerance = massVerdict m e tolerance :=
  if_neg (by omega)

end

/-- Settles O11, test by test: the conditions of the tests before fix the arguments that the next test looks at, and the
last three compare the mass with the edges of the band. -/
theorem verdictIsTheFirstThatHolds : Obligations.VerdictIsTheFirstThatHolds := by
  intro beam tag w l tolerance read settled low high
  refine ⟨verdictOf_multiple, verdictOf_unread, ?_, ?_, ?_, ?_, ?_, ?_⟩
  · rintro single ⟨n, rfl⟩ unsettled
    exact verdictOf_unsettled single n unsettled
  · rintro single ⟨n, rfl⟩ ⟨m, neg, rfl⟩ rfl
    exact verdictOf_unadvised single n m neg
  · rintro single ⟨n, rfl⟩ ⟨m, neg, rfl⟩ rfl
    exact verdictOf_duplicate single n m neg
  · rintro single ⟨n, rfl⟩ ⟨m, neg, i, e, c, rfl, rfl, below⟩
    exact (verdictOf_pending single n m neg i e c).trans (massVerdict_of_lt_lowEdge below)
  · rintro single ⟨n, rfl⟩ ⟨m, neg, i, e, c, rfl, rfl, above⟩ -
    exact (verdictOf_pending single n m neg i e c).trans (massVerdict_of_highEdge_lt above)
  · rintro single ⟨n, rfl⟩ ⟨m, neg, rfl⟩ ⟨i, e, c, rfl⟩ notLow notHigh
    have lowEdge : (e : Int) - tolerance ≤ m := not_lt.1 fun below => notLow ⟨m, neg, i, e, c, rfl, rfl, below⟩
    have highEdge : (m : Int) ≤ e + tolerance := not_lt.1 fun above => notHigh ⟨m, neg, i, e, c, rfl, rfl, above⟩
    exact (verdictOf_pending single n m neg i e c).trans (massVerdict_of_within lowEdge highEdge)

end Sys2Proof.Machine
end

section
/-! No record is lost (R84, R85, R99, R173): a step from lawful books keeps every record, along the table of its states, and
a clock that is set. First what a step may do to a record, and what each operation of the heads and channels keeps. -/

namespace Sys2Proof.Machine

/-! ### What a step may do to a record -/

/-- What a step may make of a record: what it was created with is kept (R84), its state moves as the table of R85 allows, and
a RELEASED or WITHDRAWN record does not change. -/
structure Record.Becomes (x y : Record) : Prop where
  fixed : y.fixed = x.fixed
  state : x.state.mayBecome y.state = true
  final : x.final = true → y = x

/-- What a step has kept so far of the records and the clock of the state `s` it began in, with at most `n` records still to
be made: the records it holds at this point are `records`. The next sequence number is free (R92), and while the lift is IDLE
every bag in hand is JUDGED (R85), so that an arbitration may grant it. -/
structure Keeping (s : State) (n : Nat) (clock : Option Nat) (heads : PerHead Head) (records : List Record) (nextSeq : Nat)
    (lift : LiftState) : Prop where
  clock : s.clock.isSome = true → clock.isSome = true
  kept  : ∀ x ∈ s.log.records, (∃ y ∈ records, x.Becomes y) ∨ (x.final = true ∧ s.mode = .day)
  next  : nextSeq ∉ records.map (·.seq)
  few   : records.length + n < 16777215
  waits : lift = .idle → ∀ h, ∀ r ∈ records, r.seq ∈ (heads.get h).bags → r.state = .judged

/-- The state `u`, which a step from `s` has reached, keeps its records and its clock; `n` more records may be made. -/
def State.Keeps (s : State) (n : Nat) (u : State) : Prop :=
  Keeping s n u.clock u.heads u.log.records u.log.nextSeq u.lift.state

/-- The records that a step may find: the laws of the log and of custody, as far as they concern its records (R85, R92,
R120). -/
structure Custody (heads : PerHead Head) (records : List Record) (nextSeq : Nat) (lift : LiftState) : Prop where
  once   : (records.map (·.seq)).Nodup
  next   : nextSeq ∉ records.map (·.seq)
  few    : records.length ≤ logCapacity
  waits  : ∀ h, ∀ r ∈ records, r.seq ∈ (heads.get h).bags → r.state = .judged
  agrees : Lift.agrees lift records

/-- The records of a state are as a step may find them. -/
def State.InCustody (s : State) : Prop := Custody s.heads s.log.records s.log.nextSeq s.lift.state

variable {s u t : State} {n : Nat} {h : HeadId}

/-- JUDGED follows JUDGED alone (R85). -/
theorem RecordState.eq_judged {a : RecordState} (may : a.mayBecome .judged = true) : a = .judged := by
  cases a <;> simp [RecordState.mayBecome] at may ⊢

namespace Record.Becomes

variable {x y z : Record}

theorem refl (x : Record) : x.Becomes x := ⟨rfl, by cases x.state <;> rfl, fun _ => rfl⟩

/-- A record that is not RELEASED or WITHDRAWN may take a state that the table allows (R85). -/
theorem of_state (fixed : y.fixed = x.fixed) (state : x.state.mayBecome y.state = true) (stays : x.final = false) :
    x.Becomes y := ⟨fixed, state, fun final => Bool.noConfusion (stays.symm.trans final)⟩

theorem seq (b : x.Becomes y) : y.seq = x.seq := congrArg Prod.fst b.fixed

/-- Only a JUDGED record becomes a JUDGED one (R85). -/
theorem judged (b : x.Becomes y) (judged : y.state = .judged) : x.state = .judged := by
  have state := b.state
  rw [judged] at state
  exact RecordState.eq_judged state

/-- A record that is still JUDGED may be granted (R85, R126). -/
theorem granted (b : x.Becomes y) (judged : y.state = .judged) (bin : Nat) (o : Bool) : x.Becomes (y.granted bin o) := by
  have still := b.judged judged
  refine .of_state b.fixed ?_ (by simp [Record.final, still])
  rw [still]
  rfl

end Record.Becomes

namespace State.InCustody

/-- The laws of the log and of custody put the records in custody. -/
theorem of_laws (law : s.LogLaw) (distinct : s.log.Distinct) (custody : s.CustodyLaw) : s.InCustody where
  once := distinct.nodup
  next := distinct.next
  few := le_trans (Nat.le_add_right ..) law.room
  waits h r mem bag := by
    obtain ⟨x, mx, same, judged⟩ := (custody.judged r.seq).1 (List.mem_flatMap.2 ⟨h, mem_allHeads h, bag⟩)
    rwa [List.inj_on_of_nodup_map distinct.nodup mem mx same.symm]
  agrees := custody.lift

/-- Only the heads, the log and the lift count. -/
theorem of_same (fs : s.InCustody) (heads : t.heads = s.heads) (log : t.log = s.log) (lift : t.lift = s.lift) :
    t.InCustody := by
  unfold State.InCustody
  rw [heads, log, lift]
  exact fs

/-- A step begins with every record kept. -/
theorem begin (fs : s.InCustody) (small : n ≤ 64 := by decide) : s.Keeps n s where
  clock := id
  kept x mem := .inl ⟨x, mem, .refl x⟩
  next := fs.next
  few := by
    have few := fs.few
    simp only [logCapacity] at few
    omega
  waits _ := fs.waits

/-- A step begins by rewriting records, as the table of R85 allows; no JUDGED one is rewritten but to stay so. -/
theorem rewritten (fs : s.InCustody) {f : Record → Record} (becomes : ∀ x ∈ s.log.records, x.Becomes (f x))
    (judged : ∀ x ∈ s.log.records, x.state = .judged → (f x).state = .judged) (clock : t.clock = s.clock)
    (heads : t.heads = s.heads) (records : t.log.records = s.log.records.map f) (nextSeq : t.log.nextSeq = s.log.nextSeq)
    (small : n ≤ 64 := by decide) : s.Keeps n t := by
  have seqs : t.log.records.map (·.seq) = s.log.records.map (·.seq) := by
    rw [records, List.map_map]
    exact List.map_congr_left fun x mem => (becomes x mem).seq
  refine ⟨by rw [clock]; exact id, fun x mem => .inl ⟨f x, ?_, becomes x mem⟩, ?_, ?_, fun _ h r mem bag => ?_⟩
  · rw [records]
    exact List.mem_map_of_mem mem
  · rw [seqs, nextSeq]
    exact fs.next
  · have few := fs.few
    rw [records, List.length_map]
    simp only [logCapacity] at few
    omega
  · rw [records] at mem
    obtain ⟨x, mx, rfl⟩ := List.mem_map.1 mem
    rw [(becomes x mx).seq, heads] at bag
    exact judged x mx (fs.waits h x mx bag)

end State.InCustody

namespace State.Keeps

/-! ### The shared operations -/

/-- Heads that hold no other bags, and work on other blocks, leave the records. -/
theorem of_bags (fs : s.Keeps n u) (bags : ∀ k, (t.head k).bags ⊆ (u.head k).bags)
    (records : t.log.records = u.log.records) (nextSeq : t.log.nextSeq = u.log.nextSeq)
    (lift : t.lift = u.lift) (clock : t.clock = u.clock) : s.Keeps n t := by
  obtain ⟨clockKept, kept, next, few, waits⟩ := fs
  unfold State.Keeps
  rw [records, nextSeq, lift, clock]
  exact ⟨clockKept, kept, next, few, fun idle k r mem bag => waits idle k r mem (bags k bag)⟩

/-- Only the heads, the log, the lift and the clock count. -/
theorem of_same (fs : s.Keeps n u) (heads : t.heads = u.heads) (log : t.log = u.log) (lift : t.lift = u.lift)
    (clock : t.clock = u.clock) : s.Keeps n t :=
  fs.of_bags (fun k => by rw [State.head, heads, State.head]; exact List.Subset.refl _) (by rw [log]) (by rw [log]) lift
    clock

/-- A record that might have been made need not be. -/
theorem spare (fs : s.Keeps (n + 1) u) : s.Keeps n u := { fs with few := Nat.lt_of_succ_lt fs.few }

/-- What a step keeps that has changed neither records nor mode so far, and lost no clock. -/
theorem of_start (kept : u.Keeps n t) (records : u.log.records = s.log.records) (mode : u.mode = s.mode)
    (clock : s.clock.isSome = true → u.clock.isSome = true) : s.Keeps n t where
  clock set := kept.clock (clock set)
  kept x mem := by
    rw [← mode]
    exact kept.kept x (records ▸ mem)
  next := kept.next
  few := kept.few
  waits := kept.waits

/-- A head that changes and holds the same bags leaves the records. -/
theorem setHead {v : Head} (fs : s.Keeps n u) (bags : v.bags = (u.head h).bags := by rfl) : s.Keeps n (u.setHead h v) :=
  fs.of_bags (fun k => by
    rcases eq_or_ne k h with rfl | ne
    · rw [State.setHead_head, bags]
      exact List.Subset.refl _
    · rw [State.setHead_head_of_ne _ _ ne]
      exact List.Subset.refl _) rfl rfl rfl rfl

theorem foldl {α : Type} {f : State → α → State} {l : List α} (fs : s.Keeps n u)
    (keeps : ∀ v a, s.Keeps n v → s.Keeps n (f v a)) : s.Keeps n (l.foldl f u) :=
  List.foldlRecOn l f fs fun _ ft a _ => keeps _ a ft

/-- Work in turn, each piece of which may make one record. -/
theorem foldl_spend {α : Type} {f : State → α → State} {l : List α} (fs : s.Keeps (n + l.length) u)
    (keeps : ∀ k v a, s.Keeps (k + 1) v → s.Keeps k (f v a)) : s.Keeps n (l.foldl f u) := by
  induction l generalizing u with
  | nil => exact fs
  | cons a l ih => exact ih (keeps _ _ a fs)

theorem setPort {p : PortId} {v : Port} (fs : s.Keeps n u) : s.Keeps n (u.setPort p v) :=
  fs.of_same (by simp) (by simp) (by simp) (by simp)

theorem notify {m : Notice} (fs : s.Keeps n u) : s.Keeps n (notify m u) := fs.setPort

theorem handOutput {m : Nat} {level : Bool} (fs : s.Keeps n u) : s.Keeps n (handOutput m level u) := fs

theorem alarmLevel (fs : s.Keeps n u) : s.Keeps n (alarmLevel u) :=
  fs.of_same (by simp) (by simp) (by simp) (by simp)

theorem reportAlarm {c : AlarmCause} (fs : s.Keeps n u) : s.Keeps n (reportAlarm c u) :=
  fs.of_same (by simp) (by simp) (by simp) (by simp)

theorem updateHead {f : Head → Head} (fs : s.Keeps n u) (bags : (f (u.head h)).bags = (u.head h).bags := by rfl) :
    s.Keeps n (updateHead h f u) :=
  (fs.setHead (h := h) bags).of_same (by simp [Machine.updateHead, driveHead]) (by simp) (by simp) (by simp)

/-! ### The log and the channels -/

theorem updateStats {f : Stats → Stats} (fs : s.Keeps n u) : s.Keeps n (updateStats f u) := fs

theorem updateHeadStats {f : HeadStats → HeadStats} (fs : s.Keeps n u) : s.Keeps n (updateHeadStats h f u) := fs

theorem lowWaterFall (fs : s.Keeps n u) : s.Keeps n (lowWaterFall u) :=
  fs.of_bags (by simp) (by simp) (by simp) (by simp) (by simp)

theorem lowWaterRise (fs : s.Keeps n u) : s.Keeps n (lowWaterRise u) :=
  fs.of_bags (by simp) (by simp) (by simp) (by simp) (by simp)

theorem judgeLowWater (fs : s.Keeps n u) : s.Keeps n (judgeLowWater u) := fs.lowWaterRise.lowWaterFall

theorem takeReservation (fs : s.Keeps n u) (taken : takeReservation h u = some t) : s.Keeps n t := by
  unfold Machine.takeReservation at taken
  split at taken
  · cases taken
  · cases taken
    exact lowWaterFall (fs.setHead (v := { u.head h with reservation := true }))

theorem giveBack (fs : s.Keeps n u) : s.Keeps n (giveBack h u) := by
  unfold Machine.giveBack
  split
  · exact lowWaterRise (fs.setHead (v := { u.head h with reservation := false }))
  · exact fs

theorem updateChannel {f : Channel → Channel} (fs : s.Keeps n u) : s.Keeps n (updateChannel h f u) := fs

theorem refreshIdle (fs : s.Keeps n u) : s.Keeps n (refreshIdle h u) := fs

theorem abandonWeighing (fs : s.Keeps n u) : s.Keeps n (abandonWeighing h u) := fs

theorem stopStep (fs : s.Keeps n u) : s.Keeps n (stopStep u) := fs.of_same (by simp) (by simp) (by simp) (by simp)

theorem askWarm (fs : s.Keeps n u) : s.Keeps n (askWarm h u) := fs.of_same (by simp) (by simp) (by simp) (by simp)

theorem endUnwantedWarmUp (fs : s.Keeps n u) : s.Keeps n (endUnwantedWarmUp h u) :=
  fs.of_same (by simp) (by simp) (by simp) (by simp)

theorem zeroFailed {mass : Option Int} (fs : s.Keeps n u) : s.Keeps n (zeroFailed h mass u) :=
  fs.of_same (by simp) (by simp) (by simp) (by simp)

theorem evaluateZero (fs : s.Keeps n u) : s.Keeps n (evaluateZero h u) :=
  fs.of_same (by simp) (by simp) (by simp) (by simp)

theorem endServiceState (fs : s.Keeps n u) : s.Keeps n (endServiceState u) :=
  fs.of_same (by simp) (by simp) (by simp) (by simp)

/-! ### The heads -/

theorem moveHead {f : Head → Head} (fs : s.Keeps n u) (bags : (f (u.head h)).bags = (u.head h).bags := by rfl) :
    s.Keeps n (moveHead h f u) := by
  simp only [Machine.moveHead]
  split
  · exact (fs.updateHead bags).stopStep
  · exact fs.updateHead bags

theorem closeHead {c : ClosedCause} (fs : s.Keeps n u) : s.Keeps n (closeHead h c u) := fs.notify.moveHead.endUnwantedWarmUp

theorem closeReady {c : CloseCause} (fs : s.Keeps n u) : s.Keeps n (closeReady h c u) := fs.giveBack.closeHead

theorem receiveClose {c : CloseCause} (fs : s.Keeps n u) : s.Keeps n (receiveClose h c u) := by
  simp only [Machine.receiveClose]
  repeat' split
  · exact fs
  · exact fs.updateHead.closeReady
  · exact fs.updateHead
  · exact fs.updateHead.closeHead
  · exact fs.updateHead

theorem closeAll {c : CloseCause} (fs : s.Keeps n u) : s.Keeps n (closeAll c u) := fs.foldl fun _ _ ft => ft.receiveClose

theorem logFullSignal (fs : s.Keeps n u) : s.Keeps n (logFullSignal u) :=
  fs.foldl fun _ _ ft => by
    split
    · exact ft.receiveClose
    · exact ft

theorem signalIfFull (fs : s.Keeps n u) : s.Keeps n (signalIfFull u) := by
  unfold Machine.signalIfFull
  split
  · exact fs.logFullSignal
  · exact fs

theorem enterFault {c : HeadFaultCause} (fs : s.Keeps n u) : s.Keeps n (enterFault h c u) := by
  simp only [Machine.enterFault]
  split
  · exact fs.moveHead.abandonWeighing.notify.reportAlarm.updateHeadStats
  · exact fs.moveHead.notify.reportAlarm.updateHeadStats

theorem endDischarge (fs : s.Keeps n u) : s.Keeps n (endDischarge h u) := by
  simp only [Machine.endDischarge]
  split
  · exact fs.updateHead.closeHead
  · split
    · exact fs.updateHead.askWarm.moveHead
    · split
      · next taken => exact (fs.updateHead.takeReservation taken).moveHead.signalIfFull
      · exact fs.updateHead.closeHead

/-- The bag that leaves the cradle joins the staging queue (R16). -/
theorem cradleCleared (fs : s.Keeps n u) : s.Keeps n (cradleCleared h u) := by
  simp only [Machine.cradleCleared]
  split
  · exact fs
  · next q record =>
    have moved : s.Keeps n (Machine.updateHead h
        (fun hd => { hd with staging := hd.staging ++ [q], cradleRecord := none }) u) :=
      fs.updateHead (by simp [Head.bags, record])
    split
    · exact moved.endDischarge
    · exact moved

theorem openGate (fs : s.Keeps n u) : s.Keeps n (openGate h u) := by
  simp only [Machine.openGate]
  split
  · exact fs.moveHead
  · exact fs.moveHead.cradleCleared

theorem enterDischarge (fs : s.Keeps n u) : s.Keeps n (enterDischarge h u) := by
  unfold Machine.enterDischarge
  split
  · exact fs.openGate
  · exact fs.moveHead

theorem enterHold (fs : s.Keeps n u) : s.Keeps n (enterHold h u) := by
  simp only [Machine.enterHold]
  split
  · exact fs.moveHead.openGate
  · exact fs.moveHead

theorem leaveHold (fs : s.Keeps n u) : s.Keeps n (leaveHold h u) := by
  unfold Machine.leaveHold
  split
  · exact fs.openGate
  · exact fs

/-- A record is made under the free sequence number, JUDGED and in the head's hand, and another number is free (R86, R92). -/
theorem createRecord {make : Nat → Record} (fs : s.Keeps (n + 1) u) (judged : ∀ q, (make q).state = .judged) :
    s.Keeps n (createRecord h make u) := by
  obtain ⟨clock, kept, next, few, waits⟩ := fs
  refine ⟨clock, fun x mem => ?_, nextSeqAfter_not_mem ?_ _, ?_, fun idle k r mem bag => ?_⟩
  · exact (kept x mem).imp_left fun ⟨y, my, becomes⟩ => ⟨y, List.mem_append_left _ my, becomes⟩
  · rw [List.length_map, createRecord_records, List.length_append, List.length_singleton]
    omega
  · simp only [createRecord_records, List.length_append, List.length_singleton]
    omega
  · rw [createRecord_records] at mem
    rcases List.mem_append.1 mem with old | new
    · refine waits (by simpa using idle) k r old ?_
      change r.seq ∈ ((Machine.createRecord h make u).head k).bags at bag
      rcases eq_or_ne k h with rfl | ne
      · rw [createRecord_head] at bag
        rcases List.mem_append.1 bag with staged | cradle
        · exact List.mem_append_left _ staged
        · obtain fresh : r.seq = u.log.nextSeq := by simpa using cradle
          exact absurd (fresh ▸ List.mem_map_of_mem old) next
      · rwa [createRecord_head_of_ne _ _ ne] at bag
    · rw [List.mem_singleton.1 new]
      exact judged _

theorem judge {w : WeighOutcome} (fs : s.Keeps (n + 1) u) : s.Keeps n (Machine.judge h w u) := by
  simp only [Machine.judge]
  refine (?_ : State.Keeps s n _).notify.updateHeadStats.enterDischarge
  have made (l : Lookup) (tol : Option Nat) :=
    fs.createRecord (h := h) (make := judgedRecord h (u.head h) w l tol) fun _ => rfl
  split
  · exact (made _ _).of_same rfl rfl rfl rfl
  · exact made _ _

theorem headOutcome {w : WeighOutcome} (fs : s.Keeps (n + 1) u) : s.Keeps n (headOutcome h w u) := by
  simp only [Machine.headOutcome]
  repeat' split
  · exact fs.updateHead.judge
  · exact fs.spare.updateHead
  · exact fs.spare

/-! ### Weighings and readings -/

theorem endStep {w : WeighOutcome} {average : Int} (fs : s.Keeps n u) : s.Keeps n (endStep h w average u) := by
  simp only [Machine.endStep]
  repeat' split
  · exact fs
  · exact notify fs
  · exact fs

theorem finishWeighing {w : WeighOutcome} {average : Int} (fs : s.Keeps (n + 1) u) :
    s.Keeps n (finishWeighing h w average u) := by
  simp only [Machine.finishWeighing]
  repeat' split
  · exact headOutcome fs
  · exact endStep fs.spare
  · exact fs.spare

theorem startWeighing {q : Requester} (fs : s.Keeps (n + 1) u) : s.Keeps n (startWeighing h q u) := by
  simp only [Machine.startWeighing]
  repeat' split
  · exact finishWeighing fs
  · exact fs.spare
  · exact fs.spare

theorem enterExamine (fs : s.Keeps (n + 1) u) : s.Keeps n (enterExamine h u) := fs.moveHead.startWeighing

theorem enterRecover (fs : s.Keeps (n + 1) u) : s.Keeps n (enterRecover h u) := by
  simp only [Machine.enterRecover]
  split
  · exact fs.moveHead.enterExamine
  · exact fs.spare.moveHead.askWarm
  · exact fs.spare.moveHead.askWarm
  · exact fs.moveHead.askWarm.enterExamine

theorem headChannelIdle (fs : s.Keeps (n + 1) u) : s.Keeps n (headChannelIdle h u) := by
  simp only [Machine.headChannelIdle]
  repeat' split
  · exact fs.spare.enterFault
  · next taken => exact (fs.spare.takeReservation taken).moveHead.signalIfFull
  · exact fs.spare.closeHead
  · exact fs.enterExamine
  · exact fs.spare

theorem stepChannelIdle (fs : s.Keeps (n + 1) u) : s.Keeps n (stepChannelIdle h u) := by
  simp only [Machine.stepChannelIdle]
  repeat' split
  · exact startWeighing fs
  · exact fs.spare
  · exact fs.spare

theorem countReading {w : WeighRecord} {r : Reading} (fs : s.Keeps (n + 1) u) : s.Keeps n (countReading h w r u) := by
  simp only [Machine.countReading]
  repeat' split
  on_goal 3 => exact finishWeighing fs
  all_goals exact fs.spare

/-- The end of a warm-up may make a head's record and a calibration step's weighing complete at once. -/
theorem endWarmUp {average : Int} {saturated clear : Bool} (fs : s.Keeps (n + 2) u) :
    s.Keeps n (endWarmUp h average saturated clear u) := by
  simp only [Machine.endWarmUp]
  repeat' split
  · exact fs.updateChannel.refreshIdle.headChannelIdle.stepChannelIdle
  · exact fs.zeroFailed.updateChannel.refreshIdle.headChannelIdle.stepChannelIdle
  · exact fs.updateChannel.updateChannel.refreshIdle.headChannelIdle.stepChannelIdle

theorem completeReading (fs : s.Keeps (n + 2) u) : s.Keeps n (completeReading h u) := by
  simp only [Machine.completeReading]
  split
  · exact fs.endWarmUp
  · exact countReading fs.spare
  all_goals exact fs.spare.spare

theorem addConversion {code : Int} (fs : s.Keeps (n + 2) u) : s.Keeps n (addConversion h code u) := by
  simp only [Machine.addConversion]
  repeat' split
  on_goal 3 => exact completeReading fs
  all_goals exact fs.spare.spare

theorem settleExpired (fs : s.Keeps (n + 1) u) : s.Keeps n (settleExpired h u) := by
  simp only [Machine.settleExpired]
  split
  · exact fs.finishWeighing
  · exact fs.spare

/-! ### Line events at a head -/

theorem intakeShut (fs : s.Keeps (n + 1) u) : s.Keeps n (intakeShut h u) := by
  simp only [Machine.intakeShut]
  repeat' split
  · exact fs.spare.closeReady
  · exact fs.spare
  · exact fs.enterExamine
  · exact fs.spare.moveHead
  · exact fs.spare

theorem chuteBeam (fs : s.Keeps n u) : s.Keeps n (chuteBeam h u) := by
  simp only [Machine.chuteBeam]
  split
  · exact fs.moveHead.updateHeadStats
  · exact fs.updateHead
  · exact fs.updateHead
  · exact fs

theorem cradleActivated (fs : s.Keeps (n + 1) u) : s.Keeps n (cradleActivated h u) := by
  simp only [Machine.cradleActivated]
  split
  · split
    · exact fs.spare
    · exact fs.spare.enterFault
  · exact fs.spare.enterFault
  · exact fs.spare.enterFault
  · exact fs.spare.updateHead
  · exact fs.enterExamine
  · split
    · exact fs.spare.enterFault
    · exact fs.spare
  all_goals exact fs.spare

theorem cradleDeactivated (fs : s.Keeps n u) : s.Keeps n (cradleDeactivated h u) := by
  simp only [Machine.cradleDeactivated]
  split
  · exact fs.updateHead
  · exact fs.giveBack.enterFault
  · exact fs.cradleCleared
  · exact fs.enterFault
  · exact fs.giveBack.enterFault
  all_goals exact fs

theorem gateShut (fs : s.Keeps n u) : s.Keeps n (gateShut h u) := by
  unfold Machine.gateShut
  split
  · exact fs.endDischarge
  · exact fs

theorem headEdge {role : Nat} {up : Bool} (fs : s.Keeps (n + 1) u) : s.Keeps n (headEdge h role up u) := by
  unfold Machine.headEdge
  split
  · exact fs.intakeShut
  · exact fs.spare.chuteBeam
  · exact fs.cradleActivated
  · exact fs.spare.cradleDeactivated
  · exact fs.spare.gateShut
  · exact fs.spare

theorem outputMismatch (fs : s.Keeps n u) : s.Keeps n (outputMismatch h u) := by
  unfold Machine.outputMismatch
  split
  · exact fs
  · split
    · exact fs
    · exact fs.enterFault
  all_goals exact fs.enterFault

end State.Keeps

end Sys2Proof.Machine
end

section
/-! No record is lost: the arbitration, whose grant takes a JUDGED record to the lift (R126), and the work of the lift, of
release control and of the lines that leaves the records or begins a step with them. -/

namespace Sys2Proof.Machine

variable {s u t : State} {n : Nat} {h : HeadId}

/-! ### The work a grant lets a head go on with makes no record -/

theorem signalIfFull_records : (signalIfFull s).log.records = s.log.records := by
  unfold signalIfFull
  split
  · exact (logFullSignal_records s).1
  · rfl

theorem endDischarge_records : (endDischarge h s).log.records = s.log.records := by
  simp only [endDischarge]
  repeat' split
  on_goal 3 =>
    next taken =>
      obtain ⟨-, -, -, records, -⟩ := takeReservation_spec _ taken
      rw [signalIfFull_records]
      simp [records]
  all_goals simp

theorem cradleCleared_records : (cradleCleared h s).log.records = s.log.records := by
  simp only [cradleCleared]
  repeat' split
  · rfl
  · simp [endDischarge_records]
  · simp

theorem openGate_records : (openGate h s).log.records = s.log.records := by
  simp only [openGate]
  split
  · simp
  · simp [cradleCleared_records]

theorem leaveHold_records : (leaveHold h s).log.records = s.log.records := by
  unfold leaveHold
  split
  · exact openGate_records
  · rfl

namespace State.InCustody

/-- A record that is not RELEASED or WITHDRAWN changes at the beginning of a step, alone in its sequence number (R92). -/
theorem rewrittenOne (fs : s.InCustody) {q : Nat} {f : Record → Record}
    (becomes : ∀ x ∈ s.log.records, x.seq = q → x.Becomes (f x))
    (judged : ∀ x ∈ s.log.records, x.seq = q → x.state = .judged → (f x).state = .judged) (clock : t.clock = s.clock)
    (heads : t.heads = s.heads) (records : t.log.records = s.log.records.map (changing q f))
    (nextSeq : t.log.nextSeq = s.log.nextSeq) (small : n ≤ 64 := by decide) : s.Keeps n t := by
  refine fs.rewritten (f := changing q f) (fun x mem => ?_) (fun x mem state => ?_) clock heads records nextSeq small
  · unfold changing
    split
    · next same => exact becomes x mem same
    · exact .refl x
  · unfold changing
    split
    · next same => exact judged x mem same state
    · exact state

/-- A record in the lift changes at the beginning of a step: it was in the state `a` that the lift gives it, and takes one
that the table allows (R85, R120). -/
theorem rewrittenInFlight (fs : s.InCustody) {q : Nat} {f : Record → Record} {a : RecordState}
    (inFlight : ∀ x ∈ s.log.records, x.seq = q → x.state = a) (aloft : a = .inTransfer ∨ a = .transferFault)
    (fixed : ∀ x, (f x).fixed = x.fixed) (may : ∀ x, a.mayBecome (f x).state = true) (clock : t.clock = s.clock)
    (heads : t.heads = s.heads) (records : t.log.records = s.log.records.map (changing q f))
    (nextSeq : t.log.nextSeq = s.log.nextSeq) (small : n ≤ 64 := by decide) : s.Keeps n t := by
  refine fs.rewrittenOne (fun x mem same => ?_) (fun x mem same state => ?_) clock heads records nextSeq small
  · have state := inFlight x mem same
    refine .of_state (fixed x) (state ▸ may x) ?_
    rw [Record.final, state]
    obtain rfl | rfl := aloft <;> rfl
  · rw [inFlight x mem same] at state
    obtain rfl | rfl := aloft <;> cases state

/-- The record of a lift MOVING is IN_TRANSFER (R120). -/
theorem inTransfer (fs : s.InCustody) {f : InFlight} {granted : Nat} (moving : s.lift.state = .moving f granted) :
    ∀ x ∈ s.log.records, x.seq = f.seq → x.state = .inTransfer := by
  have agrees := fs.agrees
  rw [moving] at agrees
  exact fun x mem => (agrees.2 x mem).1.2

/-- The record of a lift in FAULT is TRANSFER_FAULT (R120). -/
theorem transferFault (fs : s.InCustody) {f : InFlight} {cause : LiftFaultCause} (fault : s.lift.state = .fault cause f) :
    ∀ x ∈ s.log.records, x.seq = f.seq → x.state = .transferFault := by
  have agrees := fs.agrees
  rw [fault] at agrees
  exact fun x mem => (agrees.2 x mem).1.2

end State.InCustody

namespace State.Keeps

/-! ### Arbitration -/

/-- A grant takes a bag in hand, whose record is JUDGED, to the lift (R126). -/
theorem grant {r : Record} {bin run : Nat} {o : Bool} (fs : s.Keeps n u) (idle : u.lift.state = .idle)
    (front : u.front h = some r) : s.Keeps n (grant h r bin o run u) := by
  obtain ⟨-, rest, staging⟩ := State.front_spec front
  have frame : (u.lettingGo h r bin o).log = u.log ∧ (u.lettingGo h r bin o).lift = u.lift ∧
      (u.lettingGo h r bin o).clock = u.clock := by simp [State.lettingGo]
  obtain ⟨log, lift, clock⟩ := frame
  have letGo : s.Keeps n (u.lettingGo h r bin o) := by
    refine fs.of_bags (fun k => ?_) (by rw [log]) (by rw [log]) lift clock
    rcases eq_or_ne k h with rfl | ne
    · rw [State.lettingGo, State.setHead_head]
      exact List.append_subset.2
        ⟨List.subset_append_of_subset_left _ (List.tail_subset _), List.subset_append_right ..⟩
    · rw [State.lettingGo, State.setHead_head_of_ne _ _ ne]
      simp
  obtain ⟨clockKept, kept, next, few, -⟩ := letGo.leaveHold (h := h)
  have judged (x : Record) (mem : x ∈ (Machine.leaveHold h (u.lettingGo h r bin o)).log.records) (same : x.seq = r.seq) :
      x.state = .judged := by
    rw [leaveHold_records, log] at mem
    refine fs.waits idle h x mem ?_
    rw [same]
    show r.seq ∈ (u.head h).staging ++ _
    rw [staging]
    exact List.mem_append_left _ (.head _)
  have seqs (l : List Record) : (l.map (changing r.seq (Record.granted bin o))).map (·.seq) = l.map (·.seq) := by
    rw [List.map_map]
    exact List.map_congr_left fun x _ => changing_seq (f := Record.granted bin o) (fun _ => rfl) x
  rw [grant_eq]
  refine ⟨clockKept, fun x mem => (kept x mem).imp_left ?_, ?_, ?_, nofun⟩
  · rintro ⟨y, my, becomes⟩
    refine ⟨changing r.seq (Record.granted bin o) y, List.mem_map_of_mem my, ?_⟩
    unfold changing
    split
    · next same => exact becomes.granted (judged y my same) bin o
    · exact becomes
  · exact (seqs _).symm ▸ next
  · exact (List.length_map (as := (Machine.leaveHold h (u.lettingGo h r bin o)).log.records)
      (changing r.seq (Record.granted bin o))).symm ▸ few

theorem arbitrate (fs : s.Keeps n u) : s.Keeps n (arbitrate u) := by
  have outcome := arbitrated u
  generalize Machine.arbitrate u = t at outcome ⊢
  cases outcome with
  | checked checked => exact fs.of_same checked.heads checked.log checked.lift checked.clock
  | @granted v h r b o run idle checked front fit =>
    have kept : s.Keeps n v := fs.of_same checked.heads checked.log checked.lift checked.clock
    exact kept.grant (by rw [checked.lift, idle]) (by rw [checked.front, front])

theorem arbitrateIfFilled {before : State} (fs : s.Keeps n u) : s.Keeps n (arbitrateIfFilled before u) := by
  unfold Machine.arbitrateIfFilled
  split
  · exact fs.arbitrate
  · exact fs

/-! ### Modes, heads and release control -/

theorem openHead (fs : s.Keeps n u) : s.Keeps n (openHead h u).2 := by
  unfold Machine.openHead
  split
  · dsimp only
    split
    · exact fs.updateHead.askWarm.moveHead
    · exact fs.updateHead.askWarm.moveHead
    all_goals
      split
      · next taken => exact (fs.updateHead.askWarm.takeReservation taken).moveHead
      · exact fs.updateHead
  · exact fs.updateHead

theorem decideOpenings {auto full : Bool} {l : List HeadId} (fs : s.Keeps n u) :
    s.Keeps n (decideOpenings auto l full u).2.2 := by
  induction l generalizing full u with
  | nil => exact fs
  | cons h rest ih =>
    unfold Machine.decideOpenings
    split
    · refine ih (?_ : State.Keeps s n _)
      split
      · exact fs.notify
      · exact fs
    · exact ih fs.openHead

theorem openHeads {auto : Bool} {l : List HeadId} (fs : s.Keeps n u) : s.Keeps n (openHeads auto l u).2 := by
  unfold Machine.openHeads
  dsimp only
  split
  · exact fs.decideOpenings.logFullSignal
  · exact fs.decideOpenings

theorem changeMode {m : Mode} {source : ModeSource} (fs : s.Keeps n u) : s.Keeps n (changeMode m source u) := notify fs

theorem evaluateDrain (fs : s.Keeps n u) : s.Keeps n (evaluateDrain u) := by
  unfold Machine.evaluateDrain
  repeat' split
  · exact fs.changeMode
  all_goals exact fs

theorem settleDrain {before : State} (fs : s.Keeps n u) : s.Keeps n (settleDrain before u) := by
  unfold Machine.settleDrain
  split
  · exact fs.evaluateDrain
  · exact fs

theorem settled {f : State → State} (fs : s.Keeps n (f u)) : s.Keeps n (settled f u) := fs.arbitrateIfFilled.settleDrain

theorem settledReply {own : State → State × Reply} (taken : s.Keeps n (own u).1) : s.Keeps n (settledReply own u).1 :=
  taken.arbitrateIfFilled.settleDrain

/-- Work in turn, each piece of which may make one record, with its arbitration (R137). -/
theorem settledInTurn {l : List (State → State)} (fs : s.Keeps (n + l.length) u)
    (keeps : ∀ f ∈ l, ∀ k v, s.Keeps (k + 1) v → s.Keeps k (f v)) : s.Keeps n (settledInTurn l u) := by
  refine settleDrain (?_ : s.Keeps n (l.foldl (fun v f => withArbitration f v) u))
  induction l generalizing u with
  | nil => exact fs
  | cons f l ih =>
    exact ih (keeps f (.head _) _ u fs).arbitrateIfFilled fun g mem => keeps g (.tail _ mem)

theorem endReservation {v : Reservation} {reason : EndReason} (fs : s.Keeps n u) :
    s.Keeps n (endReservation v reason u) := notify fs

theorem activateWindow (fs : s.Keeps n u) : s.Keeps n (activateWindow u) := by
  unfold Machine.activateWindow
  split <;> exact fs

theorem cancelReservations (fs : s.Keeps n u) : s.Keeps n (cancelReservations u) := by
  unfold Machine.cancelReservations
  split
  · exact fs
  · exact (fs.foldl fun _ _ ft => ft.endReservation).arbitrate

theorem setNight {source : ModeSource} {out : List (HeadId × Option Refuse)} (fs : s.Keeps n u)
    (ok : setNight source u = .ok (out, t)) : s.Keeps n t := by
  unfold Machine.setNight at ok
  repeat' split at ok
  · cases ok; exact fs
  · cases ok
  · cases ok; exact fs.activateWindow.changeMode
  · cases ok
  · cases ok; exact fs.cancelReservations.activateWindow.changeMode.endServiceState.openHeads

theorem setDay {source : ModeSource} (fs : s.Keeps n u) : s.Keeps n (setDay source u) := by
  unfold Machine.setDay
  split
  · exact fs.changeMode.closeAll.evaluateDrain
  all_goals exact fs

theorem minuteBoundary {now : Nat} (fs : s.Keeps n u) : s.Keeps n (minuteBoundary now u) := by
  have swept : s.Keeps n (sweepAdvices now u) :=
    foldl (u := { u with advices := _ }) fs fun _ _ ft => ft.notify
  unfold Machine.minuteBoundary evaluateSchedule
  repeat' split
  · exact swept
  · next ok => exact swept.setNight ok
  · exact swept.notify
  · exact swept.setDay
  · exact swept

theorem failUnlock {v : UnlockRecord} {cause : UnlockFailCause} (fs : s.Keeps n u) : s.Keeps n (failUnlock v cause u) :=
  notify fs

theorem openLong {v : UnlockRecord} {since : Nat} (fs : s.Keeps n u) : s.Keeps n (openLong v since u) :=
  reportAlarm (notify fs)

/-! ### The lift, at the beginning of a step -/

/-- A transfer that fails (R128): its record becomes TRANSFER_FAULT. -/
theorem enterLiftFault {d : LiftFaultDetail} {f : InFlight} {granted : Nat} (fs : s.InCustody)
    (moving : s.lift.state = .moving f granted) (small : n ≤ 64 := by decide) : s.Keeps n (enterLiftFault d f s) := by
  refine fs.rewrittenInFlight (q := f.seq) (f := fun r => { r with state := .transferFault }) (fs.inTransfer moving)
    (.inl rfl) (fun _ => rfl) (fun _ => rfl) (by simp) (by simp) ?_ ?_ small
  · simp only [Machine.enterLiftFault]
    simp [State.updateRecord, changing]
  · simp only [Machine.enterLiftFault]
    simp [State.updateRecord]

/-- A transfer that ends well, from MOVING or FAULT (R127, R131): its record is STORED. -/
theorem storeInFlight {f : InFlight} {mark : StoredMark} {a : RecordState} (fs : s.InCustody)
    (inFlight : ∀ x ∈ s.log.records, x.seq = f.seq → x.state = a) (aloft : a = .inTransfer ∨ a = .transferFault)
    (small : n ≤ 64 := by decide) : s.Keeps n (liftIdle (storeInFlight f mark s)) := by
  refine fs.rewrittenInFlight (q := f.seq) (f := fun r => { r with state := .stored, storedTime := some s.now }) inFlight
    aloft (fun _ => rfl) (fun _ => ?_) (by simp [liftIdle]) (by simp [liftIdle]) ?_ ?_ small
  · obtain rfl | rfl := aloft <;> rfl
  · simp [Machine.storeInFlight, liftIdle, State.updateRecord, changing]
  · simp [Machine.storeInFlight, liftIdle, State.updateRecord]

theorem moveReport {rep : LateReport} (fs : s.InCustody) (small : n ≤ 64 := by decide) : s.Keeps n (moveReport rep s) := by
  unfold Machine.moveReport
  split
  · exact fs.begin small
  · split
    · exact fs.begin small
    · next moving =>
      split
      · split
        · exact (storeInFlight fs (fs.inTransfer moving) (.inl rfl) small).arbitrate
        · exact (enterLiftFault (s := moveAnswered s) fs moving small).of_start rfl rfl id
      · exact (enterLiftFault (s := moveAnswered s) fs moving small).of_start rfl rfl id
    · exact notify (u := moveAnswered s) (fs.begin small)

end State.Keeps

end Sys2Proof.Machine
end

section
/-! No record is lost: the lines, the supply restart and the requests (R25, R81, R90, R99, R131, R164). -/

namespace Sys2Proof.Machine

variable {s u t : State} {n : Nat} {h : HeadId}

namespace State.Keeps

/-! ### The lines and the supply restart -/

theorem tamperActivated (fs : s.Keeps n u) : s.Keeps n (tamperActivated u) := fs.reportAlarm.closeAll

theorem restartCase {cradle : Bool} (fs : s.Keeps (n + 1) u) : s.Keeps n (restartCase h cradle u) := by
  unfold Machine.restartCase
  repeat' split
  · exact fs.spare.updateHead.enterHold
  · exact fs.spare.moveHead.endUnwantedWarmUp
  · exact fs.spare.enterFault
  · next taken => exact (fs.takeReservation taken).updateHead.enterRecover
  · exact fs.spare.enterFault

theorem restartEnd (fs : s.Keeps n u) : s.Keeps n (restartEnd u) := fs.judgeLowWater.arbitrate.evaluateDrain

theorem decideIfReady (fs : s.Keeps (n + 1) u) : s.Keeps n (decideIfReady h u) := by
  simp only [Machine.decideIfReady]
  repeat' split
  · exact fs.spare
  · exact fs.updateHead.restartCase
  · exact fs.updateHead.restartCase.restartEnd
  · exact fs.spare

theorem headFirstLevel {role : Nat} {active : Bool} (fs : s.Keeps (n + 1) u) :
    s.Keeps n (headFirstLevel h role active u) := by
  unfold Machine.headFirstLevel
  repeat' split
  · exact fs.cradleActivated
  · exact fs.spare
  · exact fs.spare.updateHead
  · exact fs.spare

theorem channelSeesCradle {role : Nat} {active : Bool} (fs : s.Keeps n u) :
    s.Keeps n (channelSeesCradle h role active u) := by
  unfold Machine.channelSeesCradle
  split <;> exact fs

theorem signalFirstLevel {m : Nat} {active : Bool} (fs : s.Keeps (n + 1) u) :
    s.Keeps n (signalFirstLevel m active u) := by
  unfold Machine.signalFirstLevel
  repeat' split
  · exact fs.channelSeesCradle.headFirstLevel
  · exact fs.spare.tamperActivated
  · exact fs.spare

theorem setInput {m : Nat} {v : InputLine} (fs : s.Keeps n u) : s.Keeps n (u.setInput m v) := fs

/-- A line established hands on its first level and may let its head decide. -/
theorem establish {m : Nat} (fs : s.Keeps (n + 2) u) : s.Keeps n (establish m u) := by
  simp only [Machine.establish]
  split
  · exact fs.setInput.signalFirstLevel.decideIfReady
  · exact fs.setInput.signalFirstLevel.spare

theorem signalEdge {m : Nat} {up : Bool} (fs : s.Keeps (n + 1) u) : s.Keeps n (signalEdge m up u) := by
  unfold Machine.signalEdge
  repeat' split
  · exact fs.channelSeesCradle.headEdge
  · exact fs.spare.tamperActivated
  · exact fs.spare

theorem recordEdge {m : Nat} {up : Bool} (fs : s.Keeps n u) : s.Keeps n (recordEdge m up u) := by
  simp only [Machine.recordEdge]
  repeat' split
  · exact fs.setInput.notify
  · exact fs
  · exact fs

theorem takeEdge {m : Nat} (fs : s.Keeps (n + 1) u) : s.Keeps n (takeEdge m u) := fs.setInput.signalEdge.recordEdge

theorem rawChanged {m : Nat} (fs : s.Keeps (n + 2) u) : s.Keeps n (rawChanged m u) := by
  simp only [Machine.rawChanged]
  repeat' split
  on_goal 1 => exact fs.establish
  on_goal 3 => exact fs.spare.takeEdge
  all_goals exact fs.spare.spare

theorem debounceExpired {m : Nat} (fs : s.Keeps (n + 2) u) : s.Keeps n (debounceExpired m u) := by
  simp only [Machine.debounceExpired]
  repeat' split
  on_goal 2 => exact fs.establish
  on_goal 3 => exact fs.spare.takeEdge
  all_goals exact fs.spare.spare

theorem restartUnlock {v : UnlockRecord} (fs : s.Keeps n u) : s.Keeps n (restartUnlock u v) := by
  unfold Machine.restartUnlock
  repeat' split
  · exact fs.failUnlock
  · exact reportAlarm fs
  · exact fs.openLong
  · exact fs

theorem restartRelease (fs : s.Keeps n u) : s.Keeps n (restartRelease u) := by
  have unlocked {w : State} {l : List UnlockRecord} (fw : s.Keeps n w) : s.Keeps n (l.foldl Machine.restartUnlock w) :=
    fw.foldl fun _ _ ft => ft.restartUnlock
  have relocked : s.Keeps n (u.release.reservations.foldl (fun w v => setLock v.bin .locked w) u) :=
    fs.foldl fun _ _ ft => ft
  simp only [Machine.restartRelease]
  split
  · refine (unlocked ?_).arbitrate
    exact relocked
  · refine unlocked ?_
    exact relocked

theorem establishAtOnce {m : Nat} (fs : s.Keeps (n + 1) u) : s.Keeps n (establishAtOnce u m) := by
  simp only [Machine.establishAtOnce]
  split
  · exact fs.setInput.signalFirstLevel
  · exact fs.spare

/-- Sixteen lines may be established at once (R164). -/
theorem establishLines (fs : s.Keeps (n + 16) u) : s.Keeps n ((List.range 16).foldl Machine.establishAtOnce u) :=
  foldl_spend (by rwa [List.length_range]) fun _ _ _ ft => ft.establishAtOnce

/-- Three heads may decide one after another (R25). -/
theorem decideInTurn {m : Nat} (fs : s.Keeps (n + 3) u) :
    s.Keeps n (Machine.settledInTurn ((headOrderOf m).map Machine.decideIfReady) u) := by
  have three : ((headOrderOf m).map Machine.decideIfReady).length = 3 := by
    rw [List.length_map]
    unfold headOrderOf
    split <;> rfl
  refine settledInTurn (by rwa [three]) fun f mem k v fv => ?_
  obtain ⟨h, -, rfl⟩ := List.mem_map.1 mem
  exact fv.decideIfReady

theorem restartLines (fs : s.Keeps (n + 3 + 16) u) : s.Keeps n (restartLines u) := by
  have lines := establishLines (u := { u with inputs := u.inputs.map InputLine.restarted }) fs
  simp only [Machine.restartLines]
  generalize (List.range 16).foldl Machine.establishAtOnce _ = w at lines ⊢
  exact decideInTurn (u := w.drawn) lines

/-- A transfer under way at a supply restart fails (R134). -/
theorem restartLift (fs : s.InCustody) (small : n ≤ 64 := by decide) : s.Keeps n (restartLift s) := by
  simp only [Machine.restartLift]
  split
  · exact fs.begin small
  · next moving =>
    exact (enterLiftFault (s := { s with lift := { s.lift with transferTimer := none, unlockList := [], orders := [] } })
      fs moving small).of_start rfl rfl id
  · exact reportAlarm (u := { s with lift := { s.lift with transferTimer := none, unlockList := [], orders := [] } })
      (fs.begin small)

end State.Keeps

/-- The blocks that come before the lift at a supply restart leave the records, the mode and the clock (R25, R102, R161). -/
theorem restartHeads_kept (cause : RestartCause) (s : State) :
    let v := restartHeads (restartOutputs (restartAlarm (restartService (restartLink cause s))))
    v.log.records = s.log.records ∧ v.mode = s.mode ∧ v.clock = s.clock := by
  simp [State.mode, restartHeads, restartOutputs, restartAlarm, restartService, restartLink]

namespace State.InCustody

/-- The heads keep their bags at a supply restart (R25). -/
theorem restartHeads (fs : s.InCustody) : (restartHeads s).InCustody := by
  obtain ⟨once, next, few, waits, agrees⟩ := fs
  refine ⟨once, next, few, fun h r mem bag => waits h r mem ?_, agrees⟩
  simp only [Machine.restartHeads, PerHead.get_map] at bag
  exact bag

theorem setPort {p : PortId} {v : Port} (fs : s.InCustody) : (s.setPort p v).InCustody :=
  fs.of_same (by simp) (by simp) (by simp)

theorem supplyRestart {cause : RestartCause} (fs : s.InCustody) : s.Keeps 0 (supplyRestart cause s) := by
  have linked : (restartLink cause s).InCustody := fs.of_same (by simp [restartLink]) (by simp [restartLink])
    (by simp [restartLink])
  have heads : (Machine.restartHeads (restartOutputs (restartAlarm (restartService (restartLink cause s))))).InCustody :=
    restartHeads linked
  obtain ⟨records, mode, clock⟩ := restartHeads_kept cause s
  exact (State.Keeps.restartLift heads).restartRelease.restartLines.of_start records mode (by rw [clock]; exact id)

end State.InCustody

namespace State.Keeps

/-! ### Requests that leave the records -/

theorem guarded {only : Bool} {r : Req} {own : State → State × Reply} (fs : s.Keeps n u) (taken : s.Keeps n (own u).1) :
    s.Keeps n (guarded only r own u).1 := by
  unfold Machine.guarded
  split
  · exact fs
  · split
    · exact fs
    · exact taken

theorem takeHeadOpen {r : Req} {l : List Nat} (fs : s.Keeps n u) : s.Keeps n (takeHeadOpen r l u).1 := by
  refine fs.guarded (settledReply ?_)
  split
  · exact fs
  · split
    · exact fs
    · split
      · exact fs
      · exact fs.openHeads

theorem takeHeadClose {r : Req} {l : List Nat} (fs : s.Keeps n u) : s.Keeps n (takeHeadClose r l u).1 := by
  refine fs.guarded (settledReply ?_)
  split
  · exact fs
  · exact fs.foldl fun _ _ ft => ft.receiveClose

theorem takeHeadSet {r : Req} {m : Nat} {v : HeadSettings} (fs : s.Keeps n u) : s.Keeps n (takeHeadSet r m v u).1 := by
  refine fs.guarded ?_
  split
  · exact fs
  · split
    · exact fs.setHead (v := { u.head _ with settings := v })
    · exact fs

theorem clearFault (fs : s.Keeps (n + 1) u) (ok : clearFault h u = .ok t) : s.Keeps n t := by
  simp only [Machine.clearFault] at ok
  repeat' split at ok
  · cases ok; exact fs.spare.updateHead.enterHold
  · cases ok
  · cases ok; exact fs.updateHead.enterRecover
  · next taken => cases ok; exact (fs.takeReservation taken).updateHead.enterRecover.signalIfFull
  · cases ok
  · cases ok; exact fs.spare.giveBack.closeHead

theorem takeHeadClearFault {r : Req} {m : Nat} (fs : s.Keeps (n + 1) u) : s.Keeps n (takeHeadClearFault r m u).1 := by
  refine fs.spare.guarded (settledReply ?_)
  split
  · exact fs.spare
  · split
    · split
      · next ok => exact fs.clearFault ok
      · exact fs.spare
    · exact fs.spare

theorem takeBinSet {r : Req} {bin zone limit : Nat} {cls : Option BinClass} (fs : s.Keeps n u) :
    s.Keeps n (takeBinSet r bin cls zone limit u).1 := by
  refine fs.guarded (settledReply ?_)
  unfold checked
  split
  · exact fs
  · exact arbitrate (u := u.updateBin _ _) fs

theorem takeZoneMapSet {r : Req} {zones : List Nat} (fs : s.Keeps n u) : s.Keeps n (takeZoneMapSet r zones u).1 := by
  refine fs.guarded (settledReply ?_)
  split
  · exact fs
  · split
    · exact fs
    · exact arbitrate (u := { u with rack := _ }) fs

theorem takeModeSetNight {r : Req} (fs : s.Keeps n u) : s.Keeps n (takeModeSetNight r u).1 := by
  refine fs.guarded (settledReply ?_)
  split
  · next ok => exact fs.setNight ok
  · exact fs

theorem takeModeSetDay {r : Req} (fs : s.Keeps n u) : s.Keeps n (takeModeSetDay r u).1 := fs.guarded (settledReply fs.setDay)

theorem writeOfficer {slot : Nat} {new : Option Officer} (fs : s.Keeps n u) : s.Keeps n (writeOfficer slot new u) := by
  simp only [Machine.writeOfficer]
  split
  · exact arbitrate (endReservation fs)
  · exact fs

theorem takeOfficerSet {r : Req} {slot m : Nat} {role : Option Role} {on : Bool} (fs : s.Keeps n u) :
    s.Keeps n (takeOfficerSet r slot m role on u).1 := by
  refine fs.guarded (settledReply ?_)
  split
  · exact fs
  · split
    · exact fs
    · split
      · exact fs
      · exact fs.writeOfficer

theorem takeReleaseConfirm {r : Req} {bin officer : Nat} (fs : s.Keeps n u) :
    s.Keeps n (takeReleaseConfirm r bin officer u).1 := by
  refine fs.guarded (settledReply ?_)
  split
  · exact fs
  · repeat' split
    on_goal 2 => exact fs.endReservation.arbitrate
    on_goal 2 => exact fs.endReservation.arbitrate
    all_goals exact fs

theorem takeReleaseCancel {r : Req} {bin officer : Nat} (fs : s.Keeps n u) :
    s.Keeps n (takeReleaseCancel r bin officer u).1 := by
  refine fs.guarded (settledReply ?_)
  repeat' split
  · exact fs
  · exact fs
  · exact fs.endReservation.arbitrate

theorem setLine {m debounce : Nat} {p : Polarity} (fs : s.Keeps (n + 2) u) : s.Keeps n (setLine m p debounce u) := by
  simp only [Machine.setLine]
  split
  · exact fs.spare.spare
  · exact fs.setInput.rawChanged

theorem takeLineSet {r : Req} {m debounce : Nat} {p : Polarity} (fs : s.Keeps (n + 2) u) :
    s.Keeps n (takeLineSet r m p debounce u).1 := by
  refine fs.spare.spare.guarded (settledReply ?_)
  repeat' split
  · exact fs.spare.spare
  · exact fs.spare.spare
  · exact fs.setLine

theorem takeOutputSet {r : Req} {m : Nat} {v : Bool} (fs : s.Keeps n u) : s.Keeps n (takeOutputSet r m v u).1 := by
  refine fs.guarded ?_
  split <;> exact fs

/-- A clock is set to a value, and stays set (R173). -/
theorem of_clock {now : Nat} (fs : s.Keeps n u) : s.Keeps n { u with clock := some now } := { fs with clock := fun _ => rfl }

theorem takeClockSet {r : Req} {v : BitVec 32} (fs : s.Keeps n u) : s.Keeps n (takeClockSet r v u).1 :=
  fs.guarded (settledReply (minuteBoundary fs.of_clock))

theorem takeAlarmAck {r : Req} (fs : s.Keeps n u) : s.Keeps n (takeAlarmAck r u).1 :=
  fs.guarded (alarmLevel (u := { u with alarm := _ }) fs)

theorem setAlarm {m : AlarmMode} {w : Nat} {p : Polarity} {e : AlarmFlags} (fs : s.Keeps n u) :
    s.Keeps n (setAlarm m w p e u) := by
  simp only [Machine.setAlarm]
  split
  · exact fs
  · exact alarmLevel (u := { u with alarm := _ }) fs

theorem takeAlarmSet {r : Req} {v : AlarmRequest} (fs : s.Keeps n u) : s.Keeps n (takeAlarmSet r v u).1 := by
  refine fs.guarded ?_
  repeat' split
  · exact fs
  · exact fs.setAlarm
  · exact fs

theorem takeServiceEnter {r : Req} {k : Option ServiceKind} (fs : s.Keeps n u) : s.Keeps n (takeServiceEnter r k u).1 := by
  refine fs.guarded ?_
  repeat' split
  on_goal 4 => exact fs.stopStep
  all_goals exact fs

theorem takePatternSet {r : Req} {l : List (Option Bool)} (fs : s.Keeps n u) : s.Keeps n (takePatternSet r l u).1 := by
  refine fs.guarded ?_
  split
  · exact fs
  · next p _ =>
    show s.Keeps n (storePattern p u)
    unfold storePattern
    dsimp only
    split <;> exact fs

theorem startStep {k : CalKind} (fs : s.Keeps (n + 1) u) : s.Keeps n (startStep h k u) := by
  unfold Machine.startStep
  split
  · exact startWeighing fs
  · exact refreshIdle (askWarm (u := { u with service := _ }) fs.spare)

theorem takeStep {m : Nat} {ok empty : Bool} {k : CalKind} (fs : s.Keeps (n + 1) u) :
    s.Keeps n (takeStep m ok k empty u).1 := by
  unfold Machine.takeStep
  repeat' split
  · exact fs.spare
  · exact fs.spare
  · unfold checked
    split
    · exact fs.spare
    · exact fs.stopStep.startStep

end State.Keeps

namespace State.InCustody

/-! ### Requests that begin with a record -/

/-- An advice late-matches a record that is not RELEASED or WITHDRAWN, and leaves its state (R56, R81). -/
theorem lateMatch {a : Advice} {r : Record} (fs : s.InCustody)
    (found : s.log.records.find? (·.lateMatchable a.tag) = some r) : s.Keeps 0 (lateMatch a r s).1 := by
  have mem := List.mem_of_find?_eq_some found
  have stays : r.final = false := by
    have matched := List.find?_some found
    simp only [Record.lateMatchable, Bool.and_eq_true] at matched
    cases e : r.state <;> simp [e, Record.final] at matched ⊢
  unfold Machine.lateMatch
  dsimp only [accept]
  generalize s.advices.freeIndex = index, lateVerdict _ _ _ _ = v, toleranceOf _ _ = tolerance
  have matched : s.Keeps 0 (s.updateRecord r.seq fun r => r.lateMatched v index (expectedMass s.judge a) tolerance) := by
    refine fs.rewrittenOne (q := r.seq) (f := fun r => r.lateMatched v index (expectedMass s.judge a) tolerance)
      (fun x mx same => ?_) (fun x _ _ state => state) rfl rfl rfl rfl
    obtain rfl := List.inj_on_of_nodup_map fs.once mx mem same
    refine .of_state rfl ?_ stays
    exact (Record.Becomes.refl x).state
  split
  · exact State.Keeps.arbitrate (u := { s.updateRecord _ _ with advices := _ }) matched
  · exact matched

theorem takeAdvise {r : Req} {a : Advice} (fs : s.InCustody) : s.Keeps 0 (takeAdvise r a s).1 := by
  refine fs.begin.guarded (State.Keeps.settledReply ?_)
  unfold checked
  split
  · exact fs.begin
  · unfold enterAdvice
    split
    · next found => exact fs.lateMatch found
    · exact fs.begin

/-- The record of a faulted lift is STORED or WITHDRAWN (R131). -/
theorem takeLiftResolve {r : Req} {o : Option ResolveOutcome} (fs : s.InCustody) : s.Keeps 0 (takeLiftResolve r o s).1 := by
  refine fs.begin.guarded (State.Keeps.settledReply ?_)
  split
  · exact fs.begin
  · split
    · next f fault =>
      unfold resolveLift
      split
      · exact (State.Keeps.storeInFlight fs (fs.transferFault fault) (.inr rfl)).arbitrate
      · refine State.Keeps.arbitrate (?_ : s.Keeps 0 (liftIdle (retrieveInFlight f s)))
        exact fs.rewrittenInFlight (q := f.seq) (f := fun r => { r with state := .withdrawn }) (fs.transferFault fault)
          (.inr rfl) (fun _ => rfl) (fun _ => rfl) rfl rfl rfl rfl
    · exact fs.begin
    · exact fs.begin

/-- A purge, which is taken in DAY alone, removes RELEASED and WITHDRAWN records (R99). -/
theorem purge (fs : s.InCustody) (day : s.mode = .day) : s.Keeps 0 (purge s).1 := by
  obtain ⟨-, next, few, waits, -⟩ := fs
  have purged : s.Keeps 0 { s with
      log := { s.log with records := s.log.records.filter fun r => !r.final }
      advices := s.advices.freeAll ((s.log.records.filter Record.final).filterMap (·.advice)) } := by
    refine ⟨id, fun x mem => ?_, fun held => next ?_, ?_, fun _ h r mem => waits h r (List.mem_of_mem_filter mem)⟩
    · cases final : x.final with
      | true => exact .inr ⟨rfl, day⟩
      | false => exact .inl ⟨x, List.mem_filter.2 ⟨mem, by rw [final]; rfl⟩, .refl x⟩
    · obtain ⟨r, mem, same⟩ := List.mem_map.1 held
      exact List.mem_map.2 ⟨r, List.mem_of_mem_filter mem, same⟩
    · have fewer := s.log.records.length_filter_le fun r => !r.final
      simp only [logCapacity] at few
      show (s.log.records.filter fun r => !r.final).length + 0 < 16777215
      omega
  unfold Machine.purge
  dsimp only [accept]
  split
  · exact purged
  · exact purged.lowWaterRise

/-- A request taken keeps the records. -/
theorem takeRequest (c : Instr) (fs : s.InCustody) : s.Keeps 0 (takeRequest c s).1 := by
  have ks : s.Keeps 0 s := fs.begin
  cases c
  case headOpen => exact ks.takeHeadOpen
  case headClose => exact ks.takeHeadClose
  case headSet => exact ks.takeHeadSet
  case headClearFault => exact fs.begin.takeHeadClearFault
  case advise => exact fs.takeAdvise
  case binSet => exact ks.takeBinSet
  case zoneMapSet => exact ks.takeZoneMapSet
  case liftResolve => exact fs.takeLiftResolve
  case modeSetNight => exact ks.takeModeSetNight
  case modeSetDay => exact ks.takeModeSetDay
  case officerSet => exact ks.takeOfficerSet
  case releaseConfirm => exact ks.takeReleaseConfirm
  case releaseCancel => exact ks.takeReleaseCancel
  case lineSet => exact fs.begin.takeLineSet
  case outputSet => exact ks.takeOutputSet
  case clockSet => exact ks.takeClockSet
  case alarmAck => exact ks.takeAlarmAck
  case alarmSet => exact ks.takeAlarmSet
  case serviceEnter => exact ks.takeServiceEnter
  case serviceExit => exact ks.guarded ks.endServiceState
  case patternSet => exact ks.takePatternSet
  case calZero => exact ks.guarded fs.begin.takeStep
  case calSpan => exact ks.guarded fs.begin.takeStep
  case calVerify => exact ks.guarded fs.begin.takeStep
  case status => exact ks.guarded ks.setPort
  case logPurge =>
    refine ks.guarded ?_
    split
    · next day => exact fs.purge day
    · exact ks
  case logSet =>
    refine ks.guarded ?_
    split
    · exact State.Keeps.judgeLowWater (u := { s with log := { s.log with lowWater := _ } }) ks
    · exact ks
  case weightRead =>
    refine ks.guarded ?_
    split
    · exact ks
    · dsimp only
      split <;> exact ks
  case settingsRead | adviceQuery | denomSet | bagTypeSet | toleranceSet | logRead | binRead | scanSet | scheduleSet |
      setReleaseWindow | releaseSet | lineAck =>
    refine ks.guarded ?_
    split <;> exact ks
  case linkSet | weighSet | withdraw | liftSet | lineReportSet =>
    refine ks.guarded ?_
    repeat' split
    all_goals exact ks
  case releaseRequest | coldInitialise =>
    refine ks.guarded ?_
    unfold checked
    split <;> exact ks
  case identify | lineStatus | snapshot | auxRead | logInfo | liftRead | releaseRead | clockRead | statsRead | statsClear |
      restart => exact ks.guarded ks
  all_goals exact ks

end State.InCustody

end Sys2Proof.Machine
end

section
/-! No record is lost: the events, and the statement over every command (R84, R85, R99, R173). -/

namespace Sys2Proof.Machine

variable {s u t : State} {n : Nat} {h : HeadId}

theorem State.Keeps.frameSeen {p : PortId} (fs : s.Keeps n u) : s.Keeps n (frameSeen p u) :=
  fs.of_same (by simp) (by simp) (by simp) (by simp)

/-- What is kept from the state with a port changed is kept from the state before. -/
theorem State.Keeps.of_setPort {p : PortId} {v : Port} (kept : (s.setPort p v).Keeps n t) : s.Keeps n t :=
  kept.of_start (by simp) (by simp) (by simp)

namespace State.InCustody

/-! ### Arrivals and replies -/

theorem frameSeen {p : PortId} (fs : s.InCustody) : (frameSeen p s).InCustody := fs.of_same (by simp) (by simp) (by simp)

theorem arrive {r : Req} {c : Instr} {take : State → State × Reply} (fs : s.InCustody)
    (taken : ∀ u : State, u.InCustody → u.Keeps 0 (take u).1) : s.Keeps 0 (arrive r c take s) := by
  have seen : s.Keeps 0 (Machine.frameSeen r.port s) := fs.begin.frameSeen
  simp only [Machine.arrive]
  repeat' split
  · exact seen.setPort
  · exact ((taken _ fs.frameSeen.setPort).of_start (by simp) (by simp [State.mode]) (by simp)).setPort
  · exact seen.setPort

theorem receiveByte {p : PortId} {byte : Byte} (fs : s.InCustody) : s.Keeps 0 (receiveByte p byte s) := by
  have received {v : Receiver} : s.Keeps 0 (withReceiver p v s) := fs.begin.setPort
  have discarded : s.Keeps 0 (discardFrame p s) := received.updateStats
  have hunting : (withReceiver p .hunting s).InCustody := fs.setPort
  unfold Machine.receiveByte
  split
  · split
    · exact received
    · exact fs.begin
  · split
    · exact fs.begin
    · split
      · exact discarded
      · split
        · simp only [closeFrame]
          repeat' split
          · unfold handOn
            dsimp only
            split
            · exact State.Keeps.of_setPort (hunting.arrive fun u fu => fu.takeRequest _)
            · exact received.frameSeen
          · exact discarded
          · exact discarded
        · exact received

/-- The last byte of a frame: the effect of RESTART, or the next request; COLD_INITIALISE's is a cold start (R192, R193). -/
theorem frameGone {p : PortId} (fs : s.InCustody)
    (warm : ∀ r, (s.port p).requests.head? ≠ some (.coldInitialise r)) : s.Keeps 0 (frameGone p s) := by
  simp only [Machine.frameGone]
  split
  · exact fs.begin
  · exact fs.begin.setPort
  · let v := { s.port p with transmitter := .free, reply := none, requests := (s.port p).requests.tail }
    have freed : (s.setPort p v).InCustody := fs.setPort
    refine State.Keeps.of_setPort (p := p) (v := v) ?_
    unfold afterReply
    split
    · exact freed.supplyRestart
    · next cold _ => exact absurd cold (warm _)
    · unfold takeNext
      split
      · exact (freed.takeRequest _).setPort
      · exact freed.begin

/-! ### The events of the lift and of the bins -/

/-- The records of a bin shut with its floor empty: STORED ones are RELEASED (R90). -/
theorem releaseRecords {v : UnlockRecord} (fs : s.InCustody) (small : n ≤ 64 := by decide) :
    s.Keeps n (releaseRecords v s) := by
  refine fs.rewritten (f := Record.releasedFrom v.bin s.now (v.requesting, v.confirming)) (fun x _ => ?_)
    (fun x _ state => ?_) (by simp [Machine.releaseRecords]) (by simp [Machine.releaseRecords])
    (by simp [Machine.releaseRecords]) (by simp [Machine.releaseRecords]) small
  · unfold Record.releasedFrom
    split
    · next found => exact .of_state rfl (by rw [found.2]; rfl) (by rw [Record.final, found.2]; rfl)
    · exact .refl x
  · rw [Record.releasedFrom, if_neg fun found => by rw [state] at found; exact absurd found.2 (by decide)]
    exact state

end State.InCustody

namespace State.Keeps

/-! ### The events -/

theorem windowExpired (fs : s.Keeps (n + 1) u) : s.Keeps n (windowExpired h u) := by
  simp only [Machine.windowExpired]
  repeat' split
  · exact fs.updateHead.judge
  · exact fs.spare.updateHead
  · exact fs.spare

theorem judgeReference {mv : Int} (fs : s.Keeps (n + 1) u) : s.Keeps n (judgeReference h mv u) := by
  unfold Machine.judgeReference
  repeat' split
  · exact fs.spare
  · exact (updateChannel fs).finishWeighing.receiveClose.notify.reportAlarm
  · exact fs.spare

theorem judgeTemperature {temp : Int} (fs : s.Keeps n u) : s.Keeps n (judgeTemperature temp u) := by
  simp only [Machine.judgeTemperature]
  repeat' split
  · exact fs
  · exact fs
  · have hot : s.Keeps n { u with scanner := { u.scanner with tempHigh := true } } := fs
    exact hot.closeAll.notify.reportAlarm
  · exact fs

/-- The end of a scan judges three references and the temperature in turn (R47, R48). -/
theorem auxConversion {v : Int} (fs : s.Keeps (n + 4) u) : s.Keeps n (auxConversion v u) := by
  unfold Machine.auxConversion
  split
  · split
    · refine settledInTurn (u := { u with scanner := _ }) fs fun f mem k w fw => ?_
      simp only [List.mem_cons, List.not_mem_nil, or_false] at mem
      obtain rfl | rfl | rfl | rfl := mem
      · exact fw.judgeReference
      · exact fw.judgeReference
      · exact fw.judgeReference
      · exact fw.spare.judgeTemperature
    · exact fs.spare.spare.spare.spare
  · exact fs.spare.spare.spare.spare
  · exact fs.spare.spare.spare.spare

theorem unlockFails {bin : Nat} {cause : UnlockFailCause} (fs : s.Keeps n u) : s.Keeps n (unlockFails bin cause u) := by
  unfold Machine.unlockFails
  split
  · exact fs.failUnlock.arbitrate
  · exact fs

theorem checkExpired {m : Nat} {level : Bool} (fs : s.Keeps n u) : s.Keeps n (checkExpired m level u) := by
  simp only [Machine.checkExpired]
  split
  · exact fs
  · split
    · exact fs
    · have told {w : State} (fw : s.Keeps n w) : s.Keeps n (match latchOwner m with
          | some h => Machine.outputMismatch h w
          | none => w) := by
        split
        · exact fw.outputMismatch
        · exact fw
      simp only [checkMismatch]
      refine told ?_
      split
      · exact fs
      · exact notify (u := State.setOutput _ _ _) fs

theorem clockTick (fs : s.Keeps n u) : s.Keeps n (clockTick u) := by
  simp only [Machine.clockTick]
  repeat' split
  · exact fs
  · exact fs.of_clock.minuteBoundary
  · exact fs.of_clock
  · exact fs

theorem of_done {v : State} (fv : s.Keeps n v) (next : done v = .next t) : s.Keeps n t := by
  obtain rfl := Host.Outcome.next.inj next
  exact fv

end State.Keeps

namespace State.InCustody

/-- An event other than a cold start keeps the records. -/
theorem event {c : Instr} (fs : s.InCustody) (event : requestOf c = none) (next : exec c s = .next t)
    (warm : ∀ levels, c ≠ .coldStart levels)
    (kept : ∀ p, c = .frameSent p → ∀ r, (s.port p).requests.head? ≠ some (.coldInitialise r)) : s.Keeps 0 t := by
  have ks : s.Keeps 0 s := fs.begin
  cases c <;> simp only [requestOf, reduceCtorEq] at event
  case coldStart levels => exact absurd rfl (warm levels)
  case supplyRestart levels outage =>
    refine State.Keeps.of_done ?_ next
    have withLevels : ({ s with clock := clockAfter outage s.clock }.withLevels levels).InCustody := fs
    exact withLevels.supplyRestart.of_start rfl rfl (by simp [State.withLevels, clockAfter])
  case rawLevelChange =>
    refine State.Keeps.of_done (State.Keeps.settled ?_) next
    unfold rawLevelChange
    split
    · exact ks
    · exact fs.begin.setInput.rawChanged
  case debounceTimerExpiry => exact .of_done (State.Keeps.settled fs.begin.debounceExpired) next
  case tagReport =>
    refine State.Keeps.of_done ?_ next
    unfold tagReported
    split
    · exact ks.setHead
    · exact ks
  case intakeTimerExpiry =>
    refine State.Keeps.of_done (State.Keeps.settled ?_) next
    unfold intakeExpired
    split
    · exact ks.enterFault
    · exact ks
  case descentTimerExpiry =>
    refine State.Keeps.of_done (State.Keeps.settled ?_) next
    unfold descentExpired
    split
    · exact ks.enterFault
    · exact ks
  case windowTimerExpiry => exact .of_done (State.Keeps.settled fs.begin.windowExpired) next
  case gateTimerExpiry =>
    refine State.Keeps.of_done (State.Keeps.settled ?_) next
    unfold gateExpired
    split
    · exact ks.enterFault
    · exact ks
  case conversionComplete => exact .of_done (State.Keeps.settled fs.begin.addConversion) next
  case settleTimerExpiry =>
    refine State.Keeps.of_done (State.Keeps.settled ?_) next
    unfold settleTimerExpired
    split
    · exact fs.begin.settleExpired
    · exact ks
  case zeroIntervalExpiry =>
    refine State.Keeps.of_done ?_ next
    unfold zeroIntervalExpired
    split
    · exact ks.evaluateZero.updateChannel
    · exact ks
  case auxConversionComplete => exact .of_done fs.begin.auxConversion next
  case delivered =>
    refine State.Keeps.of_done ?_ next
    split
    · exact ks
    · exact State.Keeps.settled (.moveReport fs)
  case moveFault => exact .of_done (State.Keeps.settled (.moveReport fs)) next
  case binOpened =>
    refine State.Keeps.of_done ?_ next
    split <;> exact ks
  case unlockFault =>
    refine State.Keeps.of_done ?_ next
    split
    · exact State.Keeps.settled ks.unlockFails
    · exact ks
  case binShut =>
    refine State.Keeps.of_done ?_ next
    split
    · refine State.Keeps.settled ?_
      simp only [binIsShut]
      refine State.Keeps.arbitrate ?_
      split
      · exact releaseRecords fs
      · exact State.Keeps.notify (u := setLock _ _ _) ks
    · exact ks
    · exact ks
  case transferTimerExpiry =>
    refine State.Keeps.of_done ?_ next
    unfold transferExpired
    repeat' split
    · next moving _ => exact .enterLiftFault fs moving
    all_goals exact ks
  case confirmTimerExpiry =>
    refine State.Keeps.of_done (State.Keeps.settled ?_) next
    unfold confirmExpired
    split
    · exact ks.endReservation.arbitrate
    · exact ks
  case unlockTimerExpiry =>
    refine State.Keeps.of_done (State.Keeps.settled ?_) next
    unfold unlockExpired
    split
    · exact ks.unlockFails
    · exact ks
  case openLongTimerExpiry =>
    refine State.Keeps.of_done ?_ next
    unfold openLongExpired
    repeat' split
    · exact ks.openLong
    all_goals exact ks
  case checkTimerExpiry => exact .of_done (State.Keeps.settled ks.checkExpired) next
  case pulseTimerExpiry =>
    refine State.Keeps.of_done ?_ next
    unfold pulseExpired
    split <;> exact ks
  case clockSecond => exact .of_done (State.Keeps.settled ks.clockTick) next
  case byteReceived => exact .of_done fs.receiveByte next
  case interByteGap =>
    refine State.Keeps.of_done ?_ next
    unfold gap
    split
    · exact ks
    · exact ks.setPort.updateStats
  case watchTimerExpiry =>
    refine State.Keeps.of_done (State.Keeps.settled ?_) next
    have lost : s.Keeps 0 { s with link := { s.link with lost := true, timer := none } } := ks
    simp only [watchExpired]
    repeat' split
    · exact lost.reportAlarm.closeAll
    · exact lost.reportAlarm
    · exact ks
  case frameSent p => exact .of_done (fs.frameGone (kept p rfl)) next
  all_goals
    refine State.Keeps.of_done ?_ next
    exact ks

/-- A command other than a cold start keeps the records. -/
theorem exec {c : Instr} (fs : s.InCustody) (next : exec c s = .next t) (warm : ∀ levels, c ≠ .coldStart levels)
    (kept : ∀ p, c = .frameSent p → ∀ r, (s.port p).requests.head? ≠ some (.coldInitialise r)) : s.Keeps 0 t := by
  cases request : requestOf c with
  | none => exact fs.event request next warm kept
  | some r =>
    rw [exec_request s request] at next
    exact .of_done (fs.arrive fun u fu => fu.takeRequest c) next

end State.InCustody

/-- Settles O57: a step from lawful books keeps the clock and every record. -/
theorem recordsAndClockAreKept : Obligations.RecordsAndClockAreKept := by
  intro s t c law distinct custody next warm kept
  have keeps := (State.InCustody.of_laws law distinct custody).exec next warm kept
  refine ⟨keeps.clock, fun x mem => (keeps.kept x mem).imp_left ?_⟩
  rintro ⟨y, my, becomes⟩
  exact ⟨y, my, becomes.fixed, becomes.state, becomes.final⟩

end Sys2Proof.Machine
end

section
/-! The lift's faults and the bins' shutting: a transfer that fails (R88, R128), an UNLOCKED bin shut (R90, R157, R158), and a
lift fault resolved (R89, R131). -/

namespace Sys2Proof.Machine

variable {s t : State}

/-! ### A transfer that fails -/

/-- With the lift busy nothing is drained (R142). -/
theorem evaluateDrain_of_busy (busy : s.lift.state ≠ .idle) : evaluateDrain s = s := by
  have no : drainCondition s = false := by simp [drainCondition, busy]
  unfold evaluateDrain
  split
  · rw [no]
    rfl
  · rfl
  · rfl

/-- Work that leaves the lift busy stands as it is: no arbitration follows it, and nothing is drained (R123, R142). -/
theorem settled_of_busy (f : State → State) (busy : (f s).lift.state ≠ .idle) : settled f s = f s := by
  rw [settled, withArbitration, arbitrateIfFilled_of_undisturbed (.inr busy)]
  unfold settleDrain
  split
  · exact evaluateDrain_of_busy busy
  · rfl

/-- What a lift fault is, but for its alarm and its notice: the lift's state, the record and the count (R128). -/
theorem enterLiftFault_kept (detail : LiftFaultDetail) (f : InFlight) (s : State) :
    (enterLiftFault detail f s).lift = { s.lift with state := .fault detail.cause f, transferTimer := none } ∧
      (enterLiftFault detail f s).log = { s.log with
        records := s.log.records.map fun r => if r.seq = f.seq then { r with state := .transferFault } else r } ∧
      (enterLiftFault detail f s).service.stats.liftFaults = countUp s.service.stats.liftFaults := by
  simp [enterLiftFault, updateStats, State.updateRecord]

/-- A lift fault is latched, and sent where its queue has room (R128, R175). -/
theorem enterLiftFault_told (detail : LiftFaultDetail) (f : InFlight) (s : State) :
    (enterLiftFault detail f s).alarm.latched.liftFault = true ∧ (s.link.branch.notices.length < 32 →
      Notice.liftFault detail f.seq f.head f.bin ∈ (enterLiftFault detail f s).link.branch.notices) := by
  refine ⟨reportAlarm_latched _ .liftFault, fun room => ?_⟩
  let v : State := State.updateRecord { s with lift := { s.lift with state := .fault detail.cause f, transferTimer := none } }
    f.seq fun r => { r with state := .transferFault }
  exact ((State.Raises.refl _).reportAlarm _).mem ((State.Raises.refl v).mem_notify rfl room)

/-- A command that ends a transfer in a fault, with what it leaves of the MOVE order (R128). -/
theorem exec_transferFault {f : InFlight} {granted : Nat} (moving : s.lift.state = .moving f granted) :
    (∀ bin, bin ≤ 59 → bin ≠ f.bin → s.lift.moveOutstanding.isSome = true →
      exec (.delivered bin) s = done (enterLiftFault (.wrongBin bin) f (moveAnswered s))) ∧
    (∀ code, s.lift.moveOutstanding.isSome = true →
      exec (.moveFault code) s = done (enterLiftFault (.drive code) f (moveAnswered s))) ∧
    (s.lift.transferTimer.isSome = true → exec .transferTimerExpiry s = done (enterLiftFault .timeout f s)) := by
  have busy (d : LiftFaultDetail) (v : State) : (enterLiftFault d f v).lift.state ≠ .idle := by
    rw [(enterLiftFault_kept d f v).1]
    nofun
  refine ⟨fun bin le ne out => ?_, fun code out => ?_, fun running => ?_⟩
  · have fails : moveReport (.delivered bin) s = enterLiftFault (.wrongBin bin) f (moveAnswered s) := by
      simp [moveReport, moving, ne, Option.isSome_iff_ne_none.1 out]
    show done (if 59 < bin then driveError s else settled (moveReport (.delivered bin)) s) = _
    rw [if_neg (by omega), settled_of_busy _ (by rw [fails]; exact busy _ _), fails]
  · have fails : moveReport (.moveFault code) s = enterLiftFault (.drive code) f (moveAnswered s) := by
      simp [moveReport, moving, Option.isSome_iff_ne_none.1 out]
    show done (settled (moveReport (.moveFault code)) s) = _
    rw [settled_of_busy _ (by rw [fails]; exact busy _ _), fails]
  · show done (transferExpired s) = _
    simp [transferExpired, moving, running]

/-- The state with another MOVE outstanding, or none (R132). -/
def State.awaiting (s : State) (outstanding : Option Nat) : State :=
  { s with lift := { s.lift with moveOutstanding := outstanding } }

/-- A MOVE that is answered is outstanding no more; one that is not stays as it is. -/
theorem moveAnswered_eq (s : State) : moveAnswered s = s.awaiting none := rfl

theorem State.awaiting_self (s : State) : s.awaiting s.lift.moveOutstanding = s := rfl

/-- Settles O23: each of the three commands is a lift fault, from the state in which the MOVE is answered or not. -/
theorem transferFaultsKeepTheRecord : Obligations.TransferFaultsKeepTheRecord := by
  intro s f granted cmd detail cause outstanding moving fails
  obtain ⟨delivered, fault, expired⟩ := exec_transferFault moving
  have ends : exec cmd s = done (enterLiftFault detail f (s.awaiting outstanding)) ∧ cause = detail.cause := by
    obtain ⟨bin, rfl, le, ne, out, rfl, rfl, rfl⟩ | ⟨code, rfl, out, rfl, rfl, rfl⟩ | ⟨rfl, running, rfl, rfl, rfl⟩ := fails
    · exact ⟨by rw [← moveAnswered_eq]; exact delivered bin le ne out, rfl⟩
    · exact ⟨by rw [← moveAnswered_eq]; exact fault code out, rfl⟩
    · exact ⟨by rw [State.awaiting_self]; exact expired running, rfl⟩
  obtain ⟨next, rfl⟩ := ends
  obtain ⟨lift, log, counted⟩ := enterLiftFault_kept detail f (s.awaiting outstanding)
  obtain ⟨latched, sent⟩ := enterLiftFault_told detail f (s.awaiting outstanding)
  refine ⟨_, next, lift, log, ?_, fun h => ?_, ?_, latched, counted, fun room => ?_⟩
  · simp [State.awaiting]
  · show (enterLiftFault detail f (s.awaiting outstanding)).head h = (s.awaiting outstanding).head h
    simp
  · simp [State.awaiting]
  · exact (State.Settles.pump _).branch (sent room)

/-! ### A bin that is shut -/

theorem openSince_of_lock {bin since : Nat} (lock : s.lock bin = some (.unlocked since)) : s.openSince bin = some since := by
  obtain ⟨b, here, unlocked⟩ := Option.map_eq_some_iff.1 lock
  simp [State.openSince, here, unlocked]

/-- The state in which the unlock record of a bin is spent and the bin LOCKED again (R157, R158). -/
def State.relocked (s : State) (bin : Nat) : State := setLock bin .locked (dropUnlock bin s)

/-- What an UNLOCKED bin's shutting does before the room it makes is looked at (R157, R158). -/
def State.shutting (s : State) (u : UnlockRecord) (floorEmpty : Bool) : State :=
  let v := s.relocked u.bin
  if floorEmpty then releaseRecords u v
  else notify (.binNotEmpty u.bin ((v.bin u.bin).map (·.count) |>.getD 0) u.requesting u.confirming) v

theorem binIsShut_eq (u : UnlockRecord) (floorEmpty : Bool) (s : State) :
    binIsShut u floorEmpty s = arbitrate (s.shutting u floorEmpty) := rfl

/-- The shutting of a bin is no work of a head, a line or the lift. -/
theorem shutting_frame (u : UnlockRecord) (floorEmpty : Bool) (s : State) :
    (s.shutting u floorEmpty).heads = s.heads ∧ (s.shutting u floorEmpty).inputs = s.inputs ∧
      (s.shutting u floorEmpty).lift = s.lift := by
  cases floorEmpty <;> exact ⟨rfl, rfl, rfl⟩

/-- With every staging queue empty nobody waits for the room of a bin that is shut (R119, R157, R158). -/
theorem exec_binShut {bin since : Nat} {u : UnlockRecord} (lock : s.lock bin = some (.unlocked since))
    (record : s.release.unlockOf bin = some u) (empty : ∀ h, (s.head h).staging = []) (floorEmpty : Bool) :
    exec (.binShut bin floorEmpty) s = done (s.shutting u floorEmpty) := by
  obtain ⟨heads, inputs, lift⟩ := shutting_frame u floorEmpty s
  have work : binIsShut u floorEmpty s = s.shutting u floorEmpty := by
    rw [binIsShut_eq]
    exact arbitrate_of_empty _ fun h => by rw [State.head, heads]; exact empty h
  have shut : exec (.binShut bin floorEmpty) s = done (settled (binIsShut u floorEmpty) s) := by
    show done (match s.openSince bin, s.release.unlockOf bin with
      | some _, some u => settled (binIsShut u floorEmpty) s
      | some _, none | none, _ => driveError s) = _
    rw [openSince_of_lock lock, record]
  rw [shut, settled_of_same, work]
  · exact fun h => by rw [work, State.head, heads, State.head]
  · exact fun h => by rw [work, State.input, inputs, State.input]
  · rw [work, lift]

/-- Settles O26: with the floor empty the shut is `releaseRecords`, and otherwise its notice alone, of the relocked bin. -/
theorem binShutReleasesItsRecords : Obligations.BinShutReleasesItsRecords := by
  intro s bin since now u lock record clock empty
  obtain rfl : u.bin = bin := by simpa using List.find?_some record
  refine ⟨?_, fun b here => ?_⟩
  · rw [exec_binShut lock record empty]
    have shown : (s.relocked u.bin).now = now := by
      rw [show (s.relocked u.bin).now = s.now from rfl, State.now, clock]
      rfl
    have count : (s.relocked u.bin).storedIn u.bin =
        s.log.records.countP fun r => decide (r.bin = some u.bin) && decide (r.state = .stored) := by
      simp only [State.storedIn, beq_eq_decide]
      rfl
    have bins : (emptyBin u.bin (s.relocked u.bin)).rack.bins =
        s.rack.bins.modify u.bin fun b => { b with lock := .locked, count := 0, mass := 0 } :=
      List.modify_modify_eq ..
    simp only [State.shutting, if_true, releaseRecords, shown, count, ← bins]
    rfl
  · have kept : ((s.relocked u.bin).bin u.bin).map (·.count) = some b.count := by
      have modified : (s.relocked u.bin).bin u.bin = (s.bin u.bin).map fun b => { b with lock := .locked } := by
        simp [State.relocked, setLock, State.updateBin, State.bin, dropUnlock]
      rw [modified, here]
      rfl
    rw [exec_binShut lock record empty]
    simp only [State.shutting, kept]
    rfl

/-! ### A lift fault resolved -/

/-- The state of a record whose transfer is resolved with an outcome (R131). -/
def resolvedState : ResolveOutcome → RecordState
  | .delivered => .stored
  | .retrieved => .withdrawn

/-- What the resolution of a lift fault does before the idle lift arbitrates (R131). -/
def State.resolved (s : State) (f : InFlight) : ResolveOutcome → State
  | .delivered => liftIdle (storeInFlight f .resolved s)
  | .retrieved => liftIdle (retrieveInFlight f s)

theorem resolveLift_eq (f : InFlight) (o : ResolveOutcome) (s : State) :
    resolveLift f o s = accept (.resolved f.seq (resolvedState o)) (arbitrate (s.resolved f o)) := by
  cases o <;> rfl

/-- The resolution is no work of a head, and leaves the mode (R131). -/
theorem resolved_frame (f : InFlight) (o : ResolveOutcome) (s : State) :
    (s.resolved f o).heads = s.heads ∧ (s.resolved f o).mode = s.mode := by
  cases o <;> exact ⟨rfl, rfl⟩

/-- The rule of LIFT_RESOLVE with an outcome (R131). -/
def ruleOfLift (o : ResolveOutcome) (s : State) : State × Reply :=
  match s.lift.state with
  | .fault _ f => resolveLift f o s
  | .idle | .moving _ _ => refuse .liftNotFault s

theorem ruleOfLift_of_fault {cause : LiftFaultCause} {f : InFlight} (o : ResolveOutcome)
    (fault : s.lift.state = .fault cause f) :
    ruleOfLift o s = accept (.resolved f.seq (resolvedState o)) (arbitrate (s.resolved f o)) := by
  rw [ruleOfLift, fault]
  exact resolveLift_eq f o s

theorem ruleOfLift_of_no_fault (o : ResolveOutcome) (noFault : ∀ cause f, s.lift.state ≠ .fault cause f) :
    ruleOfLift o s = refuse .liftNotFault s := by
  unfold ruleOfLift
  split
  · next fault => exact absurd fault (noFault _ _)
  · rfl
  · rfl

/-- What LIFT_RESOLVE with an outcome does, once it is taken. -/
theorem exec_liftResolve {r : Req} (o : ResolveOutcome) (takes : s.takes r) (port : r.port = .service) :
    let out := settledReply (ruleOfLift o) (s.holding r (.liftResolve r (some o)))
    exec (.liftResolve r (some o)) s = .next (out.1.replied r out.2) := by
  obtain ⟨form, idle⟩ := takes
  have rule : takeRequest (.liftResolve r (some o)) = guarded true r (settledReply (ruleOfLift o)) := rfl
  rw [exec_taken s (c := .liftResolve r (some o)) rfl idle, rule, guarded_of_ok _ _ (fun _ => port) form]

/-- With every staging queue empty and outside DAY_PENDING nothing follows the resolution (R123, R142). -/
theorem exec_liftResolve_of_fault {r : Req} {cause : LiftFaultCause} {f : InFlight} (o : ResolveOutcome) (takes : s.takes r)
    (port : r.port = .service) (fault : s.lift.state = .fault cause f) (empty : ∀ h, (s.head h).staging = [])
    (mode : s.mode ≠ .dayPending) : exec (.liftResolve r (some o)) s =
      .next (((s.holding r (.liftResolve r (some o))).resolved f o).replied r (.ok (.resolved f.seq (resolvedState o)))) := by
  rw [exec_liftResolve o takes port]
  generalize held : s.holding r (.liftResolve r (some o)) = u
  have lift : u.lift.state = .fault cause f := by rw [← held]; simpa using fault
  obtain ⟨heads, kept⟩ := resolved_frame f o u
  have same (h : HeadId) : ((u.resolved f o).head h).staging = (u.head h).staging := by rw [State.head, heads, State.head]
  have noBags (h : HeadId) : ((u.resolved f o).head h).staging = [] := by
    rw [same, ← held]
    simpa using empty h
  have pending : (u.resolved f o).mode ≠ .dayPending := by
    rw [kept, ← held]
    simpa using mode
  simp only [settledReply, ruleOfLift_of_fault o lift, accept, arbitrate_of_empty _ noBags,
    arbitrateIfFilled_of_staging _ _ same, settleDrain_of_not_pending _ _ pending]

/-- Settles O47: the resolution with each outcome, as it stands once the request is taken. -/
theorem liftResolveEndsTheFault : Obligations.LiftResolveEndsTheFault := by
  intro s r takes port
  refine ⟨fun o noFault => ?_, fun cause f now fault clock empty mode => ⟨?_, ?_⟩⟩
  · have refused : ruleOfLift o (s.holding r (.liftResolve r (some o))) = refuse .liftNotFault _ :=
      ruleOfLift_of_no_fault o (by simpa using noFault)
    rw [exec_liftResolve o takes port, settledReply_of_same _ _ (by simp [refused, refuse]) (by simp [refused, refuse])
      (by simp [refused, refuse]), refused]
    rfl
  · have shown : (s.holding r (.liftResolve r (some .delivered))).now = now := by
      simp [State.now, clock]
    rw [exec_liftResolve_of_fault .delivered takes port fault empty mode]
    simp only [State.resolved, storeInFlight, shown]
    rfl
  · rw [exec_liftResolve_of_fault .retrieved takes port fault empty mode]
    simp only [State.resolved, retrieveInFlight, State.holding_read]
    rfl

end Sys2Proof.Machine
end

section
/-! Every table keeps its size and every queue its capacity: the operations of the heads, the log and the channels (R103, R162,
R170, R197, R200). -/

namespace Sys2Proof.Machine

/-! ### Shaped states -/

/-- The sizes of the tables, in the order of `State.Sized`. -/
def State.sizes (s : State) : List Nat :=
  [s.inputs.length, s.outputs.length, s.rack.bins.length, s.rack.zoneMap.length, s.rack.zoneFull.length,
    s.judge.denominations.length, s.judge.tares.length, s.judge.tolerances.length, s.release.officers.length,
    s.service.pattern.length]

/-- Every table has its size, and every queue of a port is within its capacity. -/
def State.Shaped (s : State) : Prop :=
  s.sizes = [16, 15, 60, 4, 4, 16, 4, 4, 16, 15] ∧ ∀ p, (s.port p).Bounded (noticeCapacity p)

theorem State.shaped_iff (s : State) : s.Shaped ↔ s.Sized ∧ s.link.Bounded := by
  constructor
  · rintro ⟨sizes, bounded⟩
    simp only [State.sizes, List.cons.injEq, and_true] at sizes
    obtain ⟨inputs, outputs, bins, zoneMap, zoneFull, denominations, tares, tolerances, officers, pattern⟩ := sizes
    exact ⟨⟨inputs, outputs, bins, zoneMap, zoneFull, denominations, tares, tolerances, officers, pattern⟩,
      ⟨bounded .branch, bounded .service⟩⟩
  · rintro ⟨sized, bounded⟩
    refine ⟨?_, fun p => ?_⟩
    · simp only [State.sizes, sized.inputs, sized.outputs, sized.bins, sized.zoneMap, sized.zoneFull, sized.denominations,
        sized.tares, sized.tolerances, sized.officers, sized.pattern]
    · cases p
      · exact bounded.branch
      · exact bounded.service

variable {s t : State} {h : HeadId}

namespace State.Shaped

/-- Work that resizes no table and leaves the ports alone. -/
theorem of_same (sh : s.Shaped) (sizes : t.sizes = s.sizes) (ports : ∀ p, t.port p = s.port p) : t.Shaped :=
  ⟨sizes.trans sh.1, fun p => ports p ▸ sh.2 p⟩

theorem setPort {p : PortId} {v : Port} (sh : s.Shaped) (bounded : v.Bounded (noticeCapacity p)) : (s.setPort p v).Shaped := by
  refine ⟨?_, fun q => ?_⟩
  · simpa [State.sizes] using sh.1
  · rcases eq_or_ne q p with rfl | ne
    · rwa [State.setPort_port]
    · rw [State.setPort_port_of_ne _ _ ne]
      exact sh.2 q

/-- A notice is discarded where its queue is full (R200). -/
theorem notify {n : Notice} (sh : s.Shaped) : (notify n s).Shaped :=
  sh.setPort ⟨by simpa using (sh.2 n.port).1, Port.offer_notices_length _ _ _ (sh.2 n.port).2⟩

theorem foldl {α : Type} {f : State → α → State} {l : List α} (sh : s.Shaped)
    (keeps : ∀ s a, s.Shaped → (f s a).Shaped) : (l.foldl f s).Shaped :=
  List.foldlRecOn l f sh fun _ st a _ => keeps _ a st

/-! ### Outputs, alarm and statistics -/

theorem setOutput {n : Nat} {o : OutputLine} (sh : s.Shaped) : (s.setOutput n o).Shaped :=
  sh.of_same (by simp [State.sizes]) fun _ => rfl

theorem handOutput {n : Nat} {v : Bool} (sh : s.Shaped) : (handOutput n v s).Shaped := sh.setOutput

theorem updateHead {f : Head → Head} (sh : s.Shaped) : (updateHead h f s).Shaped :=
  sh.of_same (by simp [State.sizes]) (by simp)

theorem alarmLevel (sh : s.Shaped) : (alarmLevel s).Shaped := sh.of_same (by simp [State.sizes]) (by simp)

theorem reportAlarm {c : AlarmCause} (sh : s.Shaped) : (reportAlarm c s).Shaped :=
  sh.of_same (by simp [State.sizes]) (by simp)

theorem updateStats {f : Stats → Stats} (sh : s.Shaped) : (updateStats f s).Shaped := sh

theorem updateHeadStats {f : HeadStats → HeadStats} (sh : s.Shaped) : (updateHeadStats h f s).Shaped := sh

/-! ### The log and the channels -/

theorem lowWaterFall (sh : s.Shaped) : (lowWaterFall s).Shaped := by
  unfold Machine.lowWaterFall
  split
  · exact notify (s := { s with log := _ }) sh
  · exact sh

theorem lowWaterRise (sh : s.Shaped) : (lowWaterRise s).Shaped := by
  unfold Machine.lowWaterRise
  split <;> exact sh

theorem updateChannel {f : Channel → Channel} (sh : s.Shaped) : (updateChannel h f s).Shaped := sh

theorem refreshIdle (sh : s.Shaped) : (refreshIdle h s).Shaped := sh

theorem abandonWeighing (sh : s.Shaped) : (abandonWeighing h s).Shaped := sh

theorem judgeLowWater (sh : s.Shaped) : (judgeLowWater s).Shaped := sh.lowWaterRise.lowWaterFall

theorem takeReservation (sh : s.Shaped) (taken : takeReservation h s = some t) : t.Shaped := by
  unfold Machine.takeReservation at taken
  split at taken
  · cases taken
  · cases taken
    exact lowWaterFall sh

theorem giveBack (sh : s.Shaped) : (giveBack h s).Shaped := by
  unfold Machine.giveBack
  split
  · exact lowWaterRise sh
  · exact sh

theorem stopStep (sh : s.Shaped) : (stopStep s).Shaped := by
  simp only [Machine.stopStep]
  split
  · exact sh
  · refine Shaped.refreshIdle ?_
    repeat' split
    · refine (notify ?_).updateChannel
      exact sh
    · refine notify ?_
      exact sh
    · refine (notify ?_).updateChannel
      exact sh
    · refine notify ?_
      exact sh

theorem askWarm (sh : s.Shaped) : (askWarm h s).Shaped := by
  simp only [Machine.askWarm]
  repeat' split
  on_goal 4 => exact sh.abandonWeighing.stopStep
  all_goals exact sh

theorem endUnwantedWarmUp (sh : s.Shaped) : (endUnwantedWarmUp h s).Shaped := by
  unfold Machine.endUnwantedWarmUp
  split <;> exact sh

theorem zeroFailed {mass : Option Int} (sh : s.Shaped) : (zeroFailed h mass s).Shaped := by
  unfold Machine.zeroFailed
  split
  · exact sh
  · exact sh.updateChannel.notify

theorem evaluateZero (sh : s.Shaped) : (evaluateZero h s).Shaped := by
  unfold Machine.evaluateZero
  dsimp only
  split
  · exact sh
  · split
    · exact sh
    · split
      · exact sh.updateChannel
      · exact sh.zeroFailed

/-! ### The heads -/

theorem moveHead {f : Head → Head} (sh : s.Shaped) : (moveHead h f s).Shaped := by
  simp only [Machine.moveHead]
  split
  · exact sh.updateHead.stopStep.refreshIdle
  · exact sh.updateHead.refreshIdle

theorem closeHead {c : ClosedCause} (sh : s.Shaped) : (closeHead h c s).Shaped := sh.notify.moveHead.endUnwantedWarmUp

theorem closeReady {c : CloseCause} (sh : s.Shaped) : (closeReady h c s).Shaped := sh.giveBack.closeHead

theorem receiveClose {c : CloseCause} (sh : s.Shaped) : (receiveClose h c s).Shaped := by
  have pending {f : Head → Head} : (Machine.updateHead h f s).Shaped := sh.updateHead
  simp only [Machine.receiveClose]
  repeat' split
  · exact sh
  · exact pending.closeReady
  · exact pending
  · exact pending.closeHead
  · exact pending

theorem closeAll {c : CloseCause} (sh : s.Shaped) : (closeAll c s).Shaped := sh.foldl fun _ _ st => st.receiveClose

theorem logFullSignal (sh : s.Shaped) : (logFullSignal s).Shaped :=
  sh.foldl fun _ _ st => by
    split
    · exact st.receiveClose
    · exact st

theorem signalIfFull (sh : s.Shaped) : (signalIfFull s).Shaped := by
  unfold Machine.signalIfFull
  split
  · exact sh.logFullSignal
  · exact sh

theorem enterFault {c : HeadFaultCause} (sh : s.Shaped) : (enterFault h c s).Shaped := by
  simp only [Machine.enterFault]
  split
  · exact sh.moveHead.abandonWeighing.notify.reportAlarm.updateHeadStats
  · exact sh.moveHead.notify.reportAlarm.updateHeadStats

theorem endDischarge (sh : s.Shaped) : (endDischarge h s).Shaped := by
  have ended {f : Head → Head} : (Machine.updateHead h f s).Shaped := sh.updateHead
  simp only [Machine.endDischarge]
  repeat' split
  · exact ended.closeHead
  · exact ended.askWarm.moveHead
  · next taken => exact (ended.takeReservation taken).moveHead.signalIfFull
  · exact ended.closeHead

theorem cradleCleared (sh : s.Shaped) : (cradleCleared h s).Shaped := by
  simp only [Machine.cradleCleared]
  repeat' split
  · exact sh
  · exact sh.updateHead.endDischarge
  · exact sh.updateHead

theorem openGate (sh : s.Shaped) : (openGate h s).Shaped := by
  simp only [Machine.openGate]
  split
  · exact sh.moveHead
  · exact sh.moveHead.cradleCleared

theorem enterDischarge (sh : s.Shaped) : (enterDischarge h s).Shaped := by
  unfold Machine.enterDischarge
  split
  · exact sh.openGate
  · exact sh.moveHead

theorem enterHold (sh : s.Shaped) : (enterHold h s).Shaped := by
  simp only [Machine.enterHold]
  split
  · exact sh.moveHead.openGate
  · exact sh.moveHead

theorem leaveHold (sh : s.Shaped) : (leaveHold h s).Shaped := by
  unfold Machine.leaveHold
  split
  · exact sh.openGate
  · exact sh

theorem judge {w : WeighOutcome} (sh : s.Shaped) : (Machine.judge h w s).Shaped := by
  simp only [Machine.judge]
  refine (?_ : State.Shaped _).notify.updateHeadStats.enterDischarge
  split <;> exact sh

theorem headOutcome {w : WeighOutcome} (sh : s.Shaped) : (headOutcome h w s).Shaped := by
  simp only [Machine.headOutcome]
  repeat' split
  · exact sh.updateHead.judge
  · exact sh.updateHead
  · exact sh

/-! ### Weighings and readings -/

theorem endStep {w : WeighOutcome} {average : Int} (sh : s.Shaped) : (endStep h w average s).Shaped := by
  simp only [Machine.endStep]
  repeat' split
  · exact sh
  · refine Shaped.refreshIdle ?_
    exact notify sh
  · exact sh

theorem finishWeighing {w : WeighOutcome} {average : Int} (sh : s.Shaped) : (finishWeighing h w average s).Shaped := by
  simp only [Machine.finishWeighing]
  repeat' split
  · exact sh.abandonWeighing.headOutcome
  · exact sh.abandonWeighing.endStep
  · exact sh

theorem startWeighing {q : Requester} (sh : s.Shaped) : (startWeighing h q s).Shaped := by
  simp only [Machine.startWeighing]
  repeat' split
  on_goal 1 => exact sh.updateChannel.refreshIdle.finishWeighing
  all_goals exact sh

theorem enterExamine (sh : s.Shaped) : (enterExamine h s).Shaped := sh.moveHead.startWeighing

theorem enterRecover (sh : s.Shaped) : (enterRecover h s).Shaped := by
  simp only [Machine.enterRecover]
  split
  · exact sh.moveHead.enterExamine
  · exact sh.moveHead.askWarm
  · exact sh.moveHead.askWarm
  · exact sh.moveHead.askWarm.enterExamine

theorem headChannelIdle (sh : s.Shaped) : (headChannelIdle h s).Shaped := by
  simp only [Machine.headChannelIdle]
  repeat' split
  · exact sh.enterFault
  · next taken => exact (sh.takeReservation taken).moveHead.signalIfFull
  · exact sh.closeHead
  · exact sh.enterExamine
  · exact sh

theorem stepChannelIdle (sh : s.Shaped) : (stepChannelIdle h s).Shaped := by
  simp only [Machine.stepChannelIdle]
  repeat' split
  · exact startWeighing sh
  · exact sh
  · exact sh

theorem countReading {w : WeighRecord} {r : Reading} (sh : s.Shaped) : (countReading h w r s).Shaped := by
  simp only [Machine.countReading]
  repeat' split
  on_goal 3 => exact sh.updateChannel.finishWeighing
  all_goals exact sh

theorem endWarmUp {average : Int} {saturated clear : Bool} (sh : s.Shaped) :
    (endWarmUp h average saturated clear s).Shaped := by
  simp only [Machine.endWarmUp]
  refine headChannelIdle (Shaped.refreshIdle (updateChannel ?_)) |>.stepChannelIdle
  repeat' split
  · exact sh
  · exact sh.zeroFailed
  · exact sh.updateChannel

theorem completeReading (sh : s.Shaped) : (completeReading h s).Shaped := by
  simp only [Machine.completeReading]
  split
  · exact sh.endWarmUp
  · exact sh.updateChannel.countReading
  all_goals exact sh

theorem addConversion {code : Int} (sh : s.Shaped) : (addConversion h code s).Shaped := by
  simp only [Machine.addConversion]
  repeat' split
  on_goal 3 => exact sh.updateChannel.completeReading
  all_goals exact sh

theorem settleExpired (sh : s.Shaped) : (settleExpired h s).Shaped := by
  simp only [Machine.settleExpired]
  split
  · exact sh.finishWeighing
  · exact sh

/-! ### Line events at a head -/

theorem startDeposit (sh : s.Shaped) : (startDeposit h s).Shaped := sh.moveHead.updateHeadStats

theorem countBeam (sh : s.Shaped) : (countBeam h s).Shaped := sh.updateHead

theorem intakeShut (sh : s.Shaped) : (intakeShut h s).Shaped := by
  simp only [Machine.intakeShut]
  repeat' split
  · exact sh.closeReady
  · exact sh
  · exact sh.enterExamine
  · exact sh.moveHead
  · exact sh

theorem chuteBeam (sh : s.Shaped) : (chuteBeam h s).Shaped := by
  simp only [Machine.chuteBeam]
  split
  · exact sh.startDeposit
  · exact sh.countBeam
  · exact sh.countBeam
  · exact sh

theorem cradleActivated (sh : s.Shaped) : (cradleActivated h s).Shaped := by
  have intruded : (Machine.enterFault h .unexpectedCradle s).Shaped := sh.enterFault
  simp only [Machine.cradleActivated]
  split
  case h_4 => exact sh.updateHead
  case h_5 => exact sh.enterExamine
  all_goals
    repeat' split
    all_goals assumption

theorem cradleDeactivated (sh : s.Shaped) : (cradleDeactivated h s).Shaped := by
  simp only [Machine.cradleDeactivated]
  split
  · exact sh.updateHead
  · exact sh.giveBack.enterFault
  · exact sh.cradleCleared
  · exact sh.enterFault
  · exact sh.giveBack.enterFault
  all_goals exact sh

theorem gateShut (sh : s.Shaped) : (gateShut h s).Shaped := by
  unfold Machine.gateShut
  split
  · exact sh.endDischarge
  · exact sh

theorem headEdge {role : Nat} {up : Bool} (sh : s.Shaped) : (headEdge h role up s).Shaped := by
  unfold Machine.headEdge
  split
  · exact sh.intakeShut
  · exact sh.chuteBeam
  · exact sh.cradleActivated
  · exact sh.cradleDeactivated
  · exact sh.gateShut
  · exact sh

theorem outputMismatch (sh : s.Shaped) : (outputMismatch h s).Shaped := by
  have faulted : (Machine.enterFault h .outputFault s).Shaped := sh.enterFault
  unfold Machine.outputMismatch
  repeat' split
  all_goals assumption

end State.Shaped

end Sys2Proof.Machine
end

section
/-! Every table keeps its size and every queue its capacity: the rack and the lift, release control, the lines and the supply
restart (R103, R112 to R131, R138 to R161, R163, R164, R204). -/

namespace Sys2Proof.Machine

variable {s t : State} {h : HeadId}

namespace State.Shaped

/-! ### The rack and the lift -/

theorem updateBin {n : Nat} {f : Bin → Bin} (sh : s.Shaped) : (s.updateBin n f).Shaped :=
  sh.of_same (by simp [State.sizes]) fun _ => rfl

theorem setZoneFull {zone : Nat} {v : Bool} (sh : s.Shaped) : (setZoneFull zone v s).Shaped :=
  sh.of_same (by simp [State.sizes, Machine.setZoneFull]) fun _ => rfl

theorem setLock {bin : Nat} {l : LockState} (sh : s.Shaped) : (setLock bin l s).Shaped := sh.updateBin

theorem emptyBin {bin : Nat} (sh : s.Shaped) : (emptyBin bin s).Shaped := sh.updateBin

theorem retrieve {bin mass : Nat} (sh : s.Shaped) : (retrieve bin mass s).Shaped := sh.updateBin

theorem rackFullCheck {r : Record} (sh : s.Shaped) : (rackFullCheck h r s).Shaped := by
  unfold Machine.rackFullCheck
  split
  · exact sh
  · exact notify (s := { s with rack := _ }) sh

theorem allocate {r : Record} {bin : Nat} {overflowed : Bool} (sh : s.Shaped) : (allocate r bin overflowed s).Shaped := by
  have charged : (chargeBin bin r.allocationMass s).Shaped := sh.updateBin
  simp only [Machine.allocate]
  repeat' split
  · exact charged
  · refine (setZoneFull ?_).notify
    exact charged
  · refine setZoneFull ?_
    exact charged
  · exact charged

theorem grant {r : Record} {bin run : Nat} {overflowed : Bool} (sh : s.Shaped) :
    (grant h r bin overflowed run s).Shaped := by
  have popped {v : Head} : ((Machine.allocate r bin overflowed s).setHead h v).Shaped := sh.allocate
  exact popped.leaveHold

theorem consider (sh : s.Shaped) : (consider h s).2.Shaped := by
  obtain e | ⟨r, e⟩ := consider_frame s h
  · rwa [e]
  · rw [e]; exact sh.rackFullCheck

theorem firstEligible {l : List HeadId} (sh : s.Shaped) : (firstEligible l s).2.Shaped := by
  induction l generalizing s with
  | nil => exact sh
  | cons h rest ih =>
    have considered := sh.consider (h := h)
    unfold Machine.firstEligible
    split
    · next e => rwa [e] at considered
    · next e => rw [e] at considered; exact ih considered

theorem grantChosen {run : Nat} {c : Option (HeadId × Record × Nat × Bool) × State} (sh : c.2.Shaped) :
    (grantChosen run c).Shaped := by
  unfold Machine.grantChosen
  split
  · exact grant sh
  · exact sh

theorem arbitrate (sh : s.Shaped) : (arbitrate s).Shaped := by
  have first := sh.firstEligible (l := [s.lift.lastHead])
  unfold Machine.arbitrate
  dsimp only
  repeat' split
  · exact grantChosen sh.firstEligible
  · next e => rw [e] at first; exact grantChosen first
  · next e => rw [e] at first; exact grantChosen first.firstEligible
  · exact grantChosen sh.firstEligible
  · exact sh
  · exact sh

theorem arbitrateIfFilled {before : State} (sh : s.Shaped) : (arbitrateIfFilled before s).Shaped := by
  unfold Machine.arbitrateIfFilled
  split
  · exact sh.arbitrate
  · exact sh

theorem enterLiftFault {d : LiftFaultDetail} {f : InFlight} (sh : s.Shaped) : (enterLiftFault d f s).Shaped := by
  refine (notify ?_).reportAlarm.updateStats
  exact sh

theorem moveAnswered (sh : s.Shaped) : (moveAnswered s).Shaped := sh

theorem storeInFlight {f : InFlight} {mark : StoredMark} (sh : s.Shaped) : (storeInFlight f mark s).Shaped :=
  notify (s := s.updateRecord _ _) sh

theorem liftIdle (sh : s.Shaped) : (liftIdle s).Shaped := sh

theorem moveReport {rep : LateReport} (sh : s.Shaped) : (moveReport rep s).Shaped := by
  unfold Machine.moveReport
  repeat' split
  · exact sh
  · exact sh
  · exact sh.storeInFlight.liftIdle.arbitrate
  · exact sh.moveAnswered.enterLiftFault
  · exact sh.moveAnswered.enterLiftFault
  · exact sh.moveAnswered.notify

/-! ### Release control -/

theorem openHead (sh : s.Shaped) : (openHead h s).2.Shaped := by
  simp only [Machine.openHead]
  split
  · split
    · exact sh.updateHead.askWarm.moveHead
    · exact sh.updateHead.askWarm.moveHead
    all_goals
      split
      · next taken => exact (sh.updateHead.askWarm.takeReservation taken).moveHead
      · exact sh.updateHead
  · dsimp only
    exact sh.updateHead

theorem decideOpenings {auto full : Bool} {l : List HeadId} (sh : s.Shaped) :
    (decideOpenings auto l full s).2.2.Shaped := by
  induction l generalizing full s with
  | nil => exact sh
  | cons h rest ih =>
    unfold Machine.decideOpenings
    split
    · refine ih (?_ : State.Shaped _)
      split
      · exact sh.notify
      · exact sh
    · exact ih sh.openHead

theorem openHeads {auto : Bool} {l : List HeadId} (sh : s.Shaped) : (openHeads auto l s).2.Shaped := by
  unfold Machine.openHeads
  dsimp only
  split
  · exact sh.decideOpenings.logFullSignal
  · exact sh.decideOpenings

theorem endServiceState (sh : s.Shaped) : (endServiceState s).Shaped := by
  unfold Machine.endServiceState
  split
  · exact sh
  · exact sh.of_same (by simp [State.sizes]) fun _ => rfl

theorem changeMode {m : Mode} {source : ModeSource} (sh : s.Shaped) : (changeMode m source s).Shaped :=
  notify (s := { s with release := _ }) sh

theorem evaluateDrain (sh : s.Shaped) : (evaluateDrain s).Shaped := by
  unfold Machine.evaluateDrain
  repeat' split
  · exact sh.changeMode
  all_goals exact sh

theorem settleDrain {before : State} (sh : s.Shaped) : (settleDrain before s).Shaped := by
  unfold Machine.settleDrain
  split
  · exact sh.evaluateDrain
  · exact sh

theorem settled {f : State → State} (sh : (f s).Shaped) : (settled f s).Shaped := sh.arbitrateIfFilled.settleDrain

theorem settledInTurn {l : List (State → State)} (sh : s.Shaped)
    (keeps : ∀ f ∈ l, ∀ s : State, s.Shaped → (f s).Shaped) : (settledInTurn l s).Shaped :=
  settleDrain (List.foldlRecOn l _ sh fun t st f mem => (keeps f mem t st).arbitrateIfFilled)

theorem endReservation {v : Reservation} {reason : EndReason} (sh : s.Shaped) : (endReservation v reason s).Shaped := by
  refine (setLock ?_).notify
  exact sh

theorem activateWindow (sh : s.Shaped) : (activateWindow s).Shaped := by
  unfold Machine.activateWindow
  split <;> exact sh

theorem cancelReservations (sh : s.Shaped) : (cancelReservations s).Shaped := by
  unfold Machine.cancelReservations
  split
  · exact sh
  · exact (sh.foldl fun _ _ st => st.endReservation).arbitrate

theorem setNight {source : ModeSource} {out : List (HeadId × Option Refuse)} (sh : s.Shaped)
    (ok : setNight source s = .ok (out, t)) : t.Shaped := by
  unfold Machine.setNight at ok
  repeat' split at ok
  all_goals cases ok
  · exact sh
  · exact sh.activateWindow.changeMode
  · exact sh.cancelReservations.activateWindow.changeMode.endServiceState.openHeads

theorem setDay {source : ModeSource} (sh : s.Shaped) : (setDay source s).Shaped := by
  unfold Machine.setDay
  split
  · exact sh.changeMode.closeAll.evaluateDrain
  all_goals exact sh

theorem minuteBoundary {now : Nat} (sh : s.Shaped) : (minuteBoundary now s).Shaped := by
  have swept : (sweepAdvices now s).Shaped :=
    foldl (s := { s with advices := _ }) sh fun _ _ st => st.notify
  unfold Machine.minuteBoundary evaluateSchedule
  repeat' split
  · exact swept
  · next ok => exact swept.setNight ok
  · exact swept.notify
  · exact swept.setDay
  · exact swept

theorem dropUnlock {bin : Nat} (sh : s.Shaped) : (dropUnlock bin s).Shaped := sh

theorem unlockAnswered {bin : Nat} (sh : s.Shaped) : (unlockAnswered bin s).Shaped := sh

theorem updateUnlock {bin : Nat} {f : UnlockRecord → UnlockRecord} (sh : s.Shaped) : (updateUnlock bin f s).Shaped := sh

theorem failUnlock {u : UnlockRecord} {cause : UnlockFailCause} (sh : s.Shaped) : (failUnlock u cause s).Shaped :=
  sh.unlockAnswered.dropUnlock.setLock.notify

theorem openLong {u : UnlockRecord} {since : Nat} (sh : s.Shaped) : (openLong u since s).Shaped :=
  sh.updateUnlock.notify.reportAlarm

theorem unlockFails {bin : Nat} {cause : UnlockFailCause} (sh : s.Shaped) : (unlockFails bin cause s).Shaped := by
  unfold Machine.unlockFails
  split
  · exact sh.failUnlock.arbitrate
  · exact sh

theorem binIsShut {u : UnlockRecord} {floorEmpty : Bool} (sh : s.Shaped) : (binIsShut u floorEmpty s).Shaped := by
  have relocked : (Machine.setLock u.bin .locked (Machine.dropUnlock u.bin s)).Shaped := sh.dropUnlock.setLock
  refine Shaped.arbitrate ?_
  split
  · refine (emptyBin ?_).notify
    exact relocked
  · exact relocked.notify

/-! ### The lines -/

theorem setInput {n : Nat} {v : InputLine} (sh : s.Shaped) : (s.setInput n v).Shaped :=
  sh.of_same (by simp [State.sizes]) fun _ => rfl

theorem tamperActivated (sh : s.Shaped) : (tamperActivated s).Shaped := sh.reportAlarm.closeAll

theorem restartCase {cradle : Bool} (sh : s.Shaped) : (restartCase h cradle s).Shaped := by
  unfold Machine.restartCase
  repeat' split
  · exact sh.updateHead.enterHold
  · exact sh.moveHead.endUnwantedWarmUp
  · exact sh.enterFault
  · next taken => exact (sh.takeReservation taken).updateHead.enterRecover
  · exact sh.enterFault

theorem restartEnd (sh : s.Shaped) : (restartEnd s).Shaped := sh.judgeLowWater.arbitrate.evaluateDrain

theorem decideIfReady (sh : s.Shaped) : (decideIfReady h s).Shaped := by
  simp only [Machine.decideIfReady]
  repeat' split
  · exact sh
  · exact sh.updateHead.restartCase
  · exact sh.updateHead.restartCase.restartEnd
  · exact sh

theorem channelSeesCradle {role : Nat} {active : Bool} (sh : s.Shaped) : (channelSeesCradle h role active s).Shaped := by
  unfold Machine.channelSeesCradle
  split <;> exact sh

theorem headFirstLevel {role : Nat} {active : Bool} (sh : s.Shaped) : (headFirstLevel h role active s).Shaped := by
  unfold Machine.headFirstLevel
  repeat' split
  · exact sh.cradleActivated
  · exact sh
  · exact sh.updateHead
  · exact sh

theorem signalFirstLevel {n : Nat} {active : Bool} (sh : s.Shaped) : (signalFirstLevel n active s).Shaped := by
  unfold Machine.signalFirstLevel
  repeat' split
  · exact sh.channelSeesCradle.headFirstLevel
  · exact sh.tamperActivated
  · exact sh

theorem establish {n : Nat} (sh : s.Shaped) : (establish n s).Shaped := by
  simp only [Machine.establish]
  split
  · exact sh.setInput.signalFirstLevel.decideIfReady
  · exact sh.setInput.signalFirstLevel

theorem signalEdge {n : Nat} {up : Bool} (sh : s.Shaped) : (signalEdge n up s).Shaped := by
  unfold Machine.signalEdge
  repeat' split
  · exact sh.channelSeesCradle.headEdge
  · exact sh.tamperActivated
  · exact sh

theorem recordEdge {n : Nat} {up : Bool} (sh : s.Shaped) : (recordEdge n up s).Shaped := by
  simp only [Machine.recordEdge]
  repeat' split
  · exact sh.setInput.notify
  · exact sh.setInput
  · exact sh

theorem takeEdge {n : Nat} (sh : s.Shaped) : (takeEdge n s).Shaped := sh.setInput.signalEdge.recordEdge

theorem rawChanged {n : Nat} (sh : s.Shaped) : (rawChanged n s).Shaped := by
  simp only [Machine.rawChanged]
  repeat' split
  · exact sh.establish
  · exact sh.setInput
  · exact sh.setInput
  · exact sh.takeEdge
  · exact sh.setInput

theorem debounceExpired {n : Nat} (sh : s.Shaped) : (debounceExpired n s).Shaped := by
  simp only [Machine.debounceExpired]
  repeat' split
  · exact sh
  · exact sh.establish
  · exact sh.setInput
  · exact sh.takeEdge

/-! ### The supply restart -/

theorem restartLink {cause : RestartCause} (sh : s.Shaped) : (restartLink cause s).Shaped :=
  notify ⟨sh.1, fun p => by cases p <;> exact ⟨Nat.zero_le _, Nat.zero_le _⟩⟩

theorem restartService (sh : s.Shaped) : (restartService s).Shaped :=
  let ⟨sized, bounded⟩ := s.shaped_iff.1 sh
  (State.shaped_iff _).2 ⟨{ sized with pattern := rfl }, bounded⟩

theorem restartAlarm (sh : s.Shaped) : (restartAlarm s).Shaped := sh

theorem restartOutputs (sh : s.Shaped) : (restartOutputs s).Shaped := by
  refine Shaped.handOutput (Shaped.handOutput ?_)
  exact sh.of_same (by simp [State.sizes]) fun _ => rfl

theorem restartLift (sh : s.Shaped) : (restartLift s).Shaped := by
  simp only [Machine.restartLift]
  split
  · exact sh
  · exact enterLiftFault sh
  · exact reportAlarm sh

theorem restartUnlock {u : UnlockRecord} (sh : s.Shaped) : (restartUnlock s u).Shaped := by
  unfold Machine.restartUnlock
  repeat' split
  · exact sh.failUnlock
  · exact sh.updateUnlock.reportAlarm
  · exact sh.openLong
  · exact sh.updateUnlock

theorem restartRelease (sh : s.Shaped) : (restartRelease s).Shaped := by
  have relocked : (s.release.reservations.foldl (fun s v => Machine.setLock v.bin .locked s) s).Shaped :=
    sh.foldl fun _ _ st => st.setLock
  have unlocked {u : State} {l : List UnlockRecord} (su : u.Shaped) : (l.foldl Machine.restartUnlock u).Shaped :=
    su.foldl fun _ _ st => st.restartUnlock
  simp only [Machine.restartRelease]
  split
  · refine (unlocked ?_).arbitrate
    exact relocked
  · refine unlocked ?_
    exact relocked

theorem drawn (sh : s.Shaped) : s.drawn.Shaped := sh

theorem establishAtOnce {n : Nat} (sh : s.Shaped) : (establishAtOnce s n).Shaped := by
  simp only [Machine.establishAtOnce]
  split
  · exact sh.setInput.signalFirstLevel
  · exact sh

theorem restartLines (sh : s.Shaped) : (restartLines s).Shaped := by
  have established (u : State) (su : u.Shaped) : ((List.range 16).foldl Machine.establishAtOnce u).Shaped :=
    su.foldl fun _ _ st => st.establishAtOnce
  have decided (u : State) (l : List HeadId) (su : u.Shaped) :
      (Machine.settledInTurn (l.map Machine.decideIfReady) u).Shaped :=
    su.settledInTurn fun f mem t st => by
      obtain ⟨h, -, rfl⟩ := List.mem_map.1 mem
      exact st.decideIfReady
  simp only [Machine.restartLines]
  refine decided _ _ (drawn (established _ ?_))
  exact sh.of_same (by simp [State.sizes]) fun _ => rfl

theorem restartHeads (sh : s.Shaped) : (restartHeads s).Shaped := sh

theorem supplyRestart {cause : RestartCause} (sh : s.Shaped) : (supplyRestart cause s).Shaped :=
  sh.restartLink.restartService.restartAlarm.restartOutputs.restartHeads.restartLift.restartRelease.restartLines

theorem cold (levels : BitVec 16) (free : Nat) (pending : List Instr) : (State.cold levels free pending).Shaped :=
  (State.shaped_iff _).2 ⟨State.cold_sized levels free pending, Link.cold_bounded⟩

end State.Shaped

end Sys2Proof.Machine
end

section
/-! Every table keeps its size and every queue its capacity: the requests, the ports and the events, and the statement over
every step (R103, R162, R170, R197, R200). -/

namespace Sys2Proof.Machine

variable {s t : State} {h : HeadId}

namespace State.Shaped

/-! ### Requests -/

theorem guarded {only : Bool} {r : Req} {own : State → State × Reply} (sh : s.Shaped) (taken : (own s).1.Shaped) :
    (guarded only r own s).1.Shaped := by
  unfold Machine.guarded
  repeat' split
  · exact sh
  · exact sh
  · exact taken

theorem checked {refusal : Option Refuse} {own : State → State × Reply} (sh : s.Shaped) (taken : (own s).1.Shaped) :
    (checked refusal own s).1.Shaped := by
  unfold Machine.checked
  split
  · exact sh
  · exact taken

/-- A request followed by the arbitration and the drain evaluation it calls for (R123, R142). -/
theorem guarded_settled {only : Bool} {r : Req} {own : State → State × Reply} (sh : s.Shaped) (taken : (own s).1.Shaped) :
    (Machine.guarded only r (settledReply own) s).1.Shaped := sh.guarded taken.arbitrateIfFilled.settleDrain

theorem enterAdvice {a : Advice} (sh : s.Shaped) : (enterAdvice a s).1.Shaped := by
  unfold Machine.enterAdvice
  split
  · simp only [lateMatch, accept]
    split
    · refine Shaped.arbitrate ?_
      exact sh
    · exact sh
  · exact sh

theorem clearFault (sh : s.Shaped) (ok : clearFault h s = .ok t) : t.Shaped := by
  simp only [Machine.clearFault] at ok
  repeat' split at ok
  all_goals cases ok
  · exact sh.updateHead.enterHold
  · exact sh.updateHead.enterRecover
  · next taken => exact (sh.takeReservation taken).updateHead.enterRecover.signalIfFull
  · exact sh.giveBack.closeHead

theorem resolveLift {f : InFlight} {o : ResolveOutcome} (sh : s.Shaped) : (resolveLift f o s).1.Shaped := by
  cases o with
  | delivered => exact sh.storeInFlight.liftIdle.arbitrate
  | retrieved =>
    have withdrawn {g : Record → Record} : (s.updateRecord f.seq g).Shaped := sh
    exact withdrawn.retrieve.liftIdle.arbitrate

theorem writeOfficer {slot : Nat} {new : Option Officer} (sh : s.Shaped) : (writeOfficer slot new s).Shaped := by
  have written : State.Shaped { s with release := { s.release with officers := s.release.officers.set slot new } } :=
    sh.of_same (by simp [State.sizes]) fun _ => rfl
  simp only [Machine.writeOfficer]
  split
  · exact written.endReservation.arbitrate
  · exact written

theorem confirm {v : Reservation} {officer : Nat} (sh : s.Shaped) : (confirm v officer s).Shaped :=
  setLock (s := { s with release := _ }) sh

theorem senseReadbacks (sh : s.Shaped) : (senseReadbacks s).Shaped :=
  sh.of_same (by simp [State.sizes, Machine.senseReadbacks, State.drawn]) fun _ => rfl

theorem setLine {n debounce : Nat} {p : Polarity} (sh : s.Shaped) : (setLine n p debounce s).Shaped := by
  simp only [Machine.setLine]
  split
  · exact sh.setInput
  · exact sh.setInput.rawChanged

theorem setAlarm {m : AlarmMode} {w : Nat} {p : Polarity} {e : AlarmFlags} (sh : s.Shaped) :
    (setAlarm m w p e s).Shaped := by
  simp only [Machine.setAlarm]
  split
  · refine Shaped.handOutput ?_
    exact sh
  · refine Shaped.alarmLevel ?_
    exact sh

theorem enterService {k : ServiceKind} (sh : s.Shaped) : (enterService k s).Shaped :=
  sh.stopStep.of_same (by cases k <;> simp [State.sizes, Machine.enterService, serviceOutputs, drivePattern]) fun _ => rfl

/-- A list of which every element is known has as many known elements. -/
theorem length_of_mapM_id {α : Type} {l : List (Option α)} {known : List α} (all : l.mapM id = some known) :
    known.length = l.length := by
  induction l generalizing known with
  | nil => cases all; rfl
  | cons x rest ih =>
    simp only [List.mapM_cons, Option.bind_eq_bind, Option.bind_eq_some_iff] at all
    obtain ⟨_, -, tail, found, made⟩ := all
    cases made
    simp [ih found]

/-- A pattern of a PATTERN_SET has its 15 levels (R181). -/
theorem length_of_patternOf {levels : List (Option Bool)} {p : List Bool} (pattern : patternOf levels = some p) :
    p.length = 15 := by
  unfold patternOf at pattern
  split at pattern
  · next length => rw [length_of_mapM_id pattern, length]
  · cases pattern

theorem storePattern {p : List Bool} (sh : s.Shaped) (length : p.length = 15) : (storePattern p s).Shaped := by
  obtain ⟨sized, bounded⟩ := s.shaped_iff.1 sh
  simp only [Machine.storePattern]
  split
  · exact (State.shaped_iff _).2
      ⟨{ sized with pattern := length, outputs := by simpa [drivePattern] using sized.outputs }, bounded⟩
  · exact (State.shaped_iff _).2 ⟨{ sized with pattern := length }, bounded⟩

theorem startStep {k : CalKind} (sh : s.Shaped) : (startStep h k s).Shaped := by
  unfold Machine.startStep
  split
  · exact startWeighing sh
  · refine (askWarm ?_).refreshIdle
    exact sh

theorem takeStep {n : Nat} {ok empty : Bool} {k : CalKind} (sh : s.Shaped) : (takeStep n ok k empty s).1.Shaped := by
  unfold Machine.takeStep
  repeat' split
  · exact sh
  · exact sh
  · exact sh.checked sh.stopStep.startStep

/-- The rule of a request keeps the tables and the queues. -/
theorem takeRequest (c : Instr) (sh : s.Shaped) : (takeRequest c s).1.Shaped := by
  cases c
  case headOpen =>
    refine sh.guarded_settled ?_
    repeat' split
    on_goal 4 => exact sh.openHeads
    all_goals exact sh
  case headClose =>
    refine sh.guarded_settled ?_
    split
    · exact sh
    · exact sh.foldl fun _ _ st => st.receiveClose
  case headClearFault =>
    refine sh.guarded_settled ?_
    repeat' split
    on_goal 2 => next ok => exact sh.clearFault ok
    all_goals exact sh
  case advise => exact sh.guarded_settled (sh.checked sh.enterAdvice)
  case denomSet | bagTypeSet | toleranceSet =>
    refine sh.guarded ?_
    split
    · exact sh
    · exact sh.of_same (by simp [accept, State.sizes]) fun _ => rfl
  case binSet => exact sh.guarded_settled (sh.checked sh.updateBin.arbitrate)
  case zoneMapSet r zones =>
    refine sh.guarded_settled ?_
    split
    · exact sh
    · next length =>
      split
      · exact sh
      · obtain ⟨sized, bounded⟩ := s.shaped_iff.1 sh
        exact arbitrate ((State.shaped_iff _).2 ⟨{ sized with zoneMap := not_not.1 length }, bounded⟩)
  case liftResolve =>
    refine sh.guarded_settled ?_
    repeat' split
    on_goal 2 => exact sh.resolveLift
    all_goals exact sh
  case modeSetNight =>
    refine sh.guarded_settled ?_
    split
    · next ok => exact sh.setNight ok
    · exact sh
  case modeSetDay => exact sh.guarded_settled sh.setDay
  case officerSet =>
    refine sh.guarded_settled ?_
    repeat' split
    on_goal 4 => exact sh.writeOfficer
    all_goals exact sh
  case releaseRequest => exact sh.guarded (sh.checked (setLock (s := { s with release := _ }) sh))
  case releaseConfirm =>
    refine sh.guarded_settled ?_
    repeat' split
    · exact sh
    · exact sh
    · exact sh.endReservation.arbitrate
    · exact sh.endReservation.arbitrate
    · exact sh
    · exact sh
    · exact sh
    · exact sh.confirm
  case releaseCancel =>
    refine sh.guarded_settled ?_
    repeat' split
    on_goal 3 => exact sh.endReservation.arbitrate
    all_goals exact sh
  case lineStatus | snapshot => exact sh.guarded sh.senseReadbacks
  case lineAck =>
    refine sh.guarded ?_
    split
    · exact sh.of_same (by simp [accept, acknowledge, State.sizes]) fun _ => rfl
    · exact sh
  case lineSet =>
    refine sh.guarded_settled ?_
    repeat' split
    · exact sh
    · exact sh
    · exact sh.setLine
  case lineReportSet =>
    refine sh.guarded ?_
    repeat' split
    · exact sh
    · exact sh
    · exact sh.setInput
  case outputSet =>
    refine sh.guarded ?_
    split
    · exact sh.handOutput
    · exact sh
  case clockSet => exact sh.guarded_settled (minuteBoundary (s := { s with clock := _ }) sh)
  case alarmAck => exact sh.guarded (alarmLevel (s := { s with alarm := _ }) sh)
  case alarmSet =>
    refine sh.guarded ?_
    repeat' split
    · exact sh
    · exact sh.setAlarm
    · exact sh
  case logPurge =>
    refine sh.guarded ?_
    split
    · simp only [purge, accept]
      split
      · exact sh
      · refine lowWaterRise ?_
        exact sh
    · exact sh
  case logSet =>
    refine sh.guarded ?_
    split
    · refine judgeLowWater ?_
      exact sh
    · exact sh
  case serviceEnter =>
    refine sh.guarded ?_
    repeat' split
    on_goal 4 => exact sh.enterService
    all_goals exact sh
  case serviceExit => exact sh.guarded sh.endServiceState
  case patternSet =>
    refine sh.guarded ?_
    split
    · exact sh
    · next pattern => exact sh.storePattern (length_of_patternOf pattern)
  case calZero | calSpan | calVerify => exact sh.guarded sh.takeStep
  case status => exact sh.guarded (sh.setPort (sh.2 _))
  case coldInitialise => exact sh.guarded (sh.checked sh)
  case identify | auxRead | logInfo | liftRead | releaseRead | clockRead | statsRead | statsClear | restart =>
    exact sh.guarded sh
  case weightRead =>
    refine sh.guarded ?_
    dsimp only
    repeat' split
    all_goals exact sh
  case settingsRead | linkSet | headSet | weighSet | scanSet | withdraw | adviceQuery | logRead | binRead | liftSet |
      scheduleSet | setReleaseWindow | releaseSet =>
    refine sh.guarded ?_
    repeat' split
    all_goals exact sh
  all_goals exact sh

/-! ### The ports -/

theorem restartWatch (sh : s.Shaped) : (restartWatch s).Shaped := sh.of_same rfl fun p => by cases p <;> rfl

theorem frameSeen {p : PortId} (sh : s.Shaped) : (frameSeen p s).Shaped := by
  cases p with
  | branch =>
    simp only [Machine.frameSeen, watchFrame]
    split
    · refine restartWatch (notify ?_)
      exact sh.of_same rfl fun p => by cases p <;> rfl
    · exact sh.restartWatch
  | service => exact sh

theorem answer {p : PortId} {out : State × Reply} (sh : out.1.Shaped) : (answer p out).Shaped := sh.setPort (sh.2 p)

/-- A request joins its queue only where there is room (R197). -/
theorem arrive {r : Req} {c : Instr} {take : State → State × Reply} (sh : s.Shaped)
    (taken : ∀ u : State, u.Shaped → (take u).1.Shaped) : (arrive r c take s).Shaped := by
  have seen := sh.frameSeen (p := r.port)
  have bounded := seen.2 r.port
  simp only [Machine.arrive]
  split
  · exact seen.setPort bounded
  · next room =>
    have joined := seen.setPort (p := r.port) (v := { (Machine.frameSeen r.port s).port r.port with
      requests := ((Machine.frameSeen r.port s).port r.port).requests ++ [c] }) 
      ⟨by rw [List.length_append]; exact Nat.lt_of_not_le room, bounded.2⟩
    split
    · exact answer (taken _ joined)
    · exact joined

theorem withReceiver {p : PortId} {v : Receiver} (sh : s.Shaped) : (withReceiver p v s).Shaped := sh.setPort (sh.2 p)

theorem discardFrame {p : PortId} (sh : s.Shaped) : (discardFrame p s).Shaped := sh.withReceiver.updateStats

theorem handOn {p : PortId} {kind number : Byte} {payload : List Byte} (sh : s.Shaped) :
    (handOn p kind number payload s).Shaped := by
  unfold Machine.handOn
  split
  · exact sh.arrive fun _ su => su.takeRequest _
  · exact sh.frameSeen

theorem closeFrame {p : PortId} {bytes : List Byte} (sh : s.Shaped) : (closeFrame p bytes s).Shaped := by
  simp only [Machine.closeFrame]
  repeat' split
  · exact sh.withReceiver.handOn
  · exact sh.discardFrame
  · exact sh.discardFrame

theorem receiveByte {p : PortId} {byte : Byte} (sh : s.Shaped) : (receiveByte p byte s).Shaped := by
  unfold Machine.receiveByte
  repeat' split
  · exact sh.withReceiver
  · exact sh
  · exact sh
  · exact sh.discardFrame
  · exact sh.closeFrame
  · exact sh.withReceiver

theorem frameGone {p : PortId} (sh : s.Shaped) : (frameGone p s).Shaped := by
  have ⟨requests, notices⟩ := sh.2 p
  simp only [Machine.frameGone]
  split
  · exact sh
  · exact sh.setPort ⟨requests, by simp; omega⟩
  · have gone := sh.setPort (p := p) (v := { s.port p with
      transmitter := .free, reply := none, requests := (s.port p).requests.tail }) ⟨by simp; omega, notices⟩
    unfold afterReply
    split
    · exact gone.supplyRestart
    · exact cold ..
    · unfold takeNext
      split
      · exact answer (gone.takeRequest _)
      · exact gone

theorem watchExpired (sh : s.Shaped) : (watchExpired s).Shaped := by
  have lost : State.Shaped { s with link := { s.link with lost := true, timer := none } } :=
    sh.of_same rfl fun p => by cases p <;> rfl
  simp only [Machine.watchExpired]
  repeat' split
  · exact lost.reportAlarm.closeAll
  · exact lost.reportAlarm
  · exact sh

/-! ### The scanner and the readbacks -/

theorem judgeReference {mv : Int} (sh : s.Shaped) : (judgeReference h mv s).Shaped := by
  unfold Machine.judgeReference
  repeat' split
  · exact sh
  · exact sh.updateChannel.finishWeighing.receiveClose.notify.reportAlarm
  · exact sh.updateChannel

theorem judgeTemperature {temp : Int} (sh : s.Shaped) : (judgeTemperature temp s).Shaped := by
  have hot : State.Shaped { s with scanner := { s.scanner with tempHigh := true } } := sh
  simp only [Machine.judgeTemperature]
  repeat' split
  on_goal 3 => exact hot.closeAll.notify.reportAlarm
  all_goals exact sh

theorem auxConversion {v : Int} (sh : s.Shaped) : (auxConversion v s).Shaped := by
  unfold Machine.auxConversion
  repeat' split
  · refine settledInTurn (s := { s with scanner := _ }) sh fun f mem u su => ?_
    simp only [List.mem_cons, List.not_mem_nil, or_false] at mem
    obtain rfl | rfl | rfl | rfl := mem
    · exact su.judgeReference
    · exact su.judgeReference
    · exact su.judgeReference
    · exact su.judgeTemperature
  all_goals exact sh

theorem checkMismatch {n : Nat} (sh : s.Shaped) : (checkMismatch n s).Shaped := by
  have flagged : (flagMismatch n s).Shaped := by
    unfold flagMismatch
    split
    · exact sh
    · exact sh.setOutput.notify
  rw [checkMismatch_eq]
  split
  · exact flagged.outputMismatch
  · exact flagged

theorem checkExpired {n : Nat} {level : Bool} (sh : s.Shaped) : (checkExpired n level s).Shaped := by
  simp only [Machine.checkExpired]
  repeat' split
  · exact sh
  · exact sh.setOutput
  · exact sh.setOutput.checkMismatch

/-! ### Commands -/

theorem of_done {u : State} (su : u.Shaped) (next : done u = .next t) : t.Shaped := by
  obtain rfl := Host.Outcome.next.inj next
  exact ⟨su.1, fun p => by simpa [Port.Bounded] using su.2 p⟩

/-- An event keeps the tables and the queues. -/
theorem event {c : Instr} (sh : s.Shaped) (event : requestOf c = none) (next : exec c s = .next t) : t.Shaped := by
  cases c <;> simp only [requestOf, reduceCtorEq] at event <;> refine of_done ?_ next
  case coldStart => exact cold ..
  case supplyRestart =>
    refine Shaped.supplyRestart ?_
    exact sh.of_same (by simp [State.sizes, State.withLevels]) fun _ => rfl
  case rawLevelChange =>
    refine settled ?_
    unfold rawLevelChange
    split
    · exact sh
    · exact sh.setInput.rawChanged
  case debounceTimerExpiry => exact settled sh.debounceExpired
  case tagReport =>
    unfold tagReported
    split <;> exact sh
  case intakeTimerExpiry | descentTimerExpiry | gateTimerExpiry =>
    refine settled ?_
    simp only [intakeExpired, descentExpired, gateExpired]
    split
    · exact sh.enterFault
    · exact sh
  case windowTimerExpiry =>
    refine settled ?_
    simp only [windowExpired]
    repeat' split
    · exact sh.updateHead.judge
    · exact sh.updateHead
    · exact sh
  case conversionComplete => exact settled sh.addConversion
  case settleTimerExpiry =>
    refine settled ?_
    unfold settleTimerExpired
    split
    · exact sh.settleExpired
    · exact sh
  case zeroIntervalExpiry =>
    unfold zeroIntervalExpired
    split
    · exact sh.evaluateZero.updateChannel
    · exact sh
  case auxConversionComplete => exact sh.auxConversion
  case delivered =>
    split
    · exact sh
    · exact settled sh.moveReport
  case moveFault => exact settled sh.moveReport
  case binOpened =>
    split
    · exact sh.unlockAnswered.setLock.updateUnlock
    · exact sh
  case unlockFault =>
    split
    · exact settled sh.unlockFails
    · exact sh
  case binShut =>
    split
    · exact settled sh.binIsShut
    · exact sh
    · exact sh
  case transferTimerExpiry =>
    unfold transferExpired
    repeat' split
    · exact sh.enterLiftFault
    all_goals exact sh
  case confirmTimerExpiry =>
    refine settled ?_
    unfold confirmExpired
    split
    · exact sh.endReservation.arbitrate
    · exact sh
  case unlockTimerExpiry =>
    refine settled ?_
    unfold unlockExpired
    split
    · exact sh.unlockFails
    · exact sh
  case openLongTimerExpiry =>
    unfold openLongExpired
    repeat' split
    · exact sh.openLong
    all_goals exact sh
  case checkTimerExpiry => exact settled sh.checkExpired
  case pulseTimerExpiry =>
    unfold pulseExpired
    split
    · exact handOutput (s := { s with alarm := _ }) sh
    · exact sh
  case clockSecond =>
    refine settled ?_
    simp only [clockTick]
    repeat' split
    on_goal 2 => exact minuteBoundary (s := { s with clock := _ }) sh
    all_goals exact sh
  case byteReceived => exact sh.receiveByte
  case interByteGap =>
    unfold gap
    split
    · exact sh
    · exact sh.discardFrame
  case watchTimerExpiry => exact settled sh.watchExpired
  case frameSent => exact sh.frameGone
  all_goals exact sh

/-- A command keeps the tables and the queues. -/
theorem exec {c : Instr} (sh : s.Shaped) (next : exec c s = .next t) : t.Shaped := by
  cases request : requestOf c with
  | none => exact sh.event request next
  | some r =>
    rw [exec_request s request] at next
    exact of_done (sh.arrive fun _ su => su.takeRequest c) next

end State.Shaped

/-- Settles O55: the sizes and the bounds together are kept by every command. -/
theorem shapesAreKept : Obligations.ShapesAreKept := by
  intro s t sized bounded next
  have sh : s.Shaped := s.shaped_iff.2 ⟨sized, bounded⟩
  refine t.shaped_iff.1 ?_
  unfold step at next
  split at next
  · cases next
    exact sh
  · next rest _ => exact State.Shaped.exec (s := { s with pending := rest }) sh next

end Sys2Proof.Machine
end

section
/-! The configuration of a bin and of the zone map (R106, R107, R119). -/

namespace Sys2Proof.Machine

variable {s : State} {r : Req} {bin zone limit : Nat} {cls : BinClass} {b : Bin}

/-- A bin is in use: it holds bags, is not LOCKED, or would become a standard bin while a record names it (R107). -/
def State.inUse (s : State) (bin : Nat) (b : Bin) (cls : BinClass) : Prop :=
  b.count ≠ 0 ∨ b.lock ≠ .locked ∨ (cls = .standard ∧ b.cls ≠ .standard ∧ ∃ x ∈ s.log.records, x.bin = some bin)

theorem State.not_inUse (empty : b.count = 0) (locked : b.lock = .locked)
    (unnamed : cls = .standard → b.cls ≠ .standard → ∀ x ∈ s.log.records, x.bin ≠ some bin) : ¬ s.inUse bin b cls := by
  rintro (filled | unlocked | ⟨standard, other, x, mem, named⟩)
  · exact filled empty
  · exact unlocked locked
  · exact unnamed standard other x mem named

theorem State.inUse_holding (c : Instr) : (s.holding r c).inUse bin b cls ↔ s.inUse bin b cls := by simp [State.inUse]

/-- The last two checks of R107, where the bin is known and the operands are in range. -/
theorem binSetRefusal_of_known (found : s.bin bin = some b) (known : zone ≤ 3) (low : 1000000 ≤ limit)
    (high : limit ≤ 60000000) :
    (s.inUse bin b cls → binSetRefusal s bin (some cls) zone limit = some .binInUse) ∧
      (¬ s.inUse bin b cls → binSetRefusal s bin (some cls) zone limit = none) := by
  have range : ¬(3 < zone ∨ inRange 1000000 60000000 limit = false) := by rw [inRange_eq_false_iff]; omega
  have named : (s.log.records.any fun x => x.bin == some bin) = true ↔ ∃ x ∈ s.log.records, x.bin = some bin := by simp
  simp only [binSetRefusal, found, if_neg range, named, State.inUse]
  constructor
  · rintro (filled | unlocked | standard)
    · exact if_pos (.inl filled)
    · exact if_pos (.inr unlocked)
    · rw [if_pos standard, ite_self]
  · intro free
    obtain ⟨empty, locked, unnamed⟩ := by simpa only [not_or] using free
    rw [if_neg (not_or.2 ⟨empty, locked⟩), if_neg unnamed]

/-- A change of the rack with no bag waiting: the room it makes is signalled to no one (R119). -/
theorem settledReply_of_rack {own : State → State × Reply} {rack : BinTable} (empty : ∀ h, (s.head h).staging = [])
    (answer : own s = accept .done (arbitrate { s with rack := rack })) :
    settledReply own s = ({ s with rack := rack }, .ok .done) :=
  settledReply_eq (by rw [answer, arbitrate_of_empty { s with rack := rack } empty]; rfl) rfl rfl rfl

/-- Settles O43: BIN_SET by the checks of R107, and the zone map stored; no bag waits for the room made. -/
theorem binsAndZonesAreConfigured : Obligations.BinsAndZonesAreConfigured := by
  intro s r takes empty
  have waiting (c : Instr) (h : HeadId) : ((s.holding r c).head h).staging = [] := by simpa using empty h
  refine ⟨fun bin b cls zone limit found known low high => ?_, fun zones length known => ?_⟩
  · obtain ⟨used, free⟩ := binSetRefusal_of_known (s := s.holding r (.binSet r bin (some cls) zone limit)) (cls := cls)
      (by simpa using found) known low high
    rw [State.inUse_holding] at used free
    refine ⟨fun none locked unnamed => ?_, fun inUse => ?_⟩
    · refine exec_answered (serviceOnly := false) rfl rfl takes nofun (settledReply_of_rack (waiting _) ?_)
      rw [free (State.not_inUse none locked unnamed)]
      rfl
    · refine exec_settled_answered (serviceOnly := false) rfl rfl takes nofun ?_
      rw [used inUse]
      rfl
  · refine exec_answered (serviceOnly := false) rfl rfl takes nofun (settledReply_of_rack (waiting _) ?_)
    rw [if_neg (not_not.2 length), if_neg (by simpa using known)]

end Sys2Proof.Machine
end

section
/-! Reports of the rack drive that answer nothing, late reports, and the expiries of release control's timers (R129, R132, R133, R151,
R156). -/

namespace Sys2Proof.Machine

variable {s : State}

/-! ### Reports -/

/-- A report that is counted as a drive error is followed by nothing else (R123, R133, R142). -/
theorem settled_of_driveError {f : State → State} (unmatched : f s = driveError s) : settled f s = driveError s := by
  rw [settled_of_same, unmatched] <;> simp [unmatched]

/-- A report of a transfer with no MOVE outstanding, or with the lift IDLE, is unmatched (R133). -/
theorem moveReport_of_unmatched (rep : LateReport) (none : s.lift.moveOutstanding = none ∨ s.lift.state = .idle) :
    moveReport rep s = driveError s := by
  unfold moveReport
  split
  · rfl
  · next out =>
    have idle : s.lift.state = .idle := none.resolve_left fun none => out (by rw [none]; rfl)
    rw [idle]

/-- A report taken in FAULT with the MOVE outstanding is sent on, and the order is answered (R129). -/
theorem settled_moveReport_of_late (rep : LateReport) {cause : LiftFaultCause} {f : InFlight}
    (fault : s.lift.state = .fault cause f) (out : s.lift.moveOutstanding.isSome = true) :
    settled (moveReport rep) s = notify (.driveLateReport rep f.seq f.bin) (moveAnswered s) := by
  have late : moveReport rep s = notify (.driveLateReport rep f.seq f.bin) (moveAnswered s) := by
    simp [moveReport, fault, Option.isSome_iff_ne_none.1 out]
  rw [settled_of_busy _ (by simp [late, moveAnswered, fault]), late]

theorem openSince_of_not_unlocked {bin : Nat} (shut : ∀ since, s.lock bin ≠ some (.unlocked since)) :
    s.openSince bin = none := by
  unfold State.openSince
  split
  · next b here =>
    split
    · next since lock => exact absurd (by rw [State.lock, here]; exact congrArg some lock) (shut since)
    all_goals rfl
  · rfl

/-- Settles O24: each unmatched report is `driveError`, and a late one is sent on with the lift in FAULT still. -/
theorem unmatchedReportsAreCounted : Obligations.UnmatchedReportsAreCounted := by
  intro s counted
  refine ⟨rfl, fun bin unmatched => ?_, fun code unmatched => ?_, fun bin free => ⟨?_, ?_⟩, fun bin empty shut => ?_,
    fun cause f fault out => ⟨fun bin known => ?_, fun code => ?_⟩⟩
  · show done (if 59 < bin then driveError s else settled (moveReport (.delivered bin)) s) = done (driveError s)
    split
    · rfl
    · next known => rw [settled_of_driveError (moveReport_of_unmatched _ (unmatched.resolve_left known))]
  · show done (settled (moveReport (.moveFault code)) s) = done (driveError s)
    rw [settled_of_driveError (moveReport_of_unmatched _ unmatched)]
  · show done (if bin ∈ s.lift.unlockList then binIsOpen bin s else driveError s) = done (driveError s)
    rw [if_neg free]
  · show done (if bin ∈ s.lift.unlockList then settled (unlockFails bin .drive) s else driveError s) = done (driveError s)
    rw [if_neg free]
  · show done (match s.openSince bin, s.release.unlockOf bin with
      | some _, some u => settled (binIsShut u empty) s
      | some _, none | none, _ => driveError s) = done (driveError s)
    rw [openSince_of_not_unlocked shut]
  · show done (if 59 < bin then driveError s else settled (moveReport (.delivered bin)) s) = _
    rw [if_neg (by omega), settled_moveReport_of_late _ fault out]
    rfl
  · show done (settled (moveReport (.moveFault code)) s) = _
    rw [settled_moveReport_of_late _ fault out]
    rfl

/-! ### Timers -/

/-- With every staging queue empty nobody waits for the room of a bin whose reservation expires (R119, R151). -/
theorem exec_confirmTimerExpiry {bin : Nat} {v : Reservation} (live : s.release.reservationOf bin = some v)
    (empty : ∀ h, (s.head h).staging = []) :
    exec (.confirmTimerExpiry bin) s = done (endReservation v .expired s) := by
  have expires : confirmExpired bin s = endReservation v .expired s := by
    simp only [confirmExpired, live]
    exact arbitrate_of_empty _ fun h => by simpa using empty h
  show done (settled (confirmExpired bin) s) = _
  rw [settled_of_same, expires] <;> simp [expires]

theorem exec_openLongTimerExpiry {bin since : Nat} {u : UnlockRecord} (lock : s.lock bin = some (.unlocked since))
    (record : s.release.unlockOf bin = some u) (running : u.timer.isSome = true) :
    exec (.openLongTimerExpiry bin) s = done (openLong u since s) := by
  show done (openLongExpired bin s) = _
  simp only [openLongExpired, openSince_of_lock lock, record, running, if_true]

/-- The mark of a bin open long, its notice and its alarm cause (R156). -/
theorem openLong_spec (u : UnlockRecord) (since : Nat) (s : State) :
    (openLong u since s).release =
        (updateUnlock u.bin (fun u => { u with openLong := true, timer := none }) s).release ∧
      (openLong u since s).alarm.latched.binOpenLong = true ∧ (s.link.branch.notices.length < 32 →
        Notice.binOpenLong u.bin since u.requesting u.confirming ∈ (openLong u since s).link.branch.notices) := by
  refine ⟨by simp [openLong], reportAlarm_latched _ .binOpenLong, fun room => ?_⟩
  let v := updateUnlock u.bin (fun u => { u with openLong := true, timer := none }) s
  exact ((State.Raises.refl _).reportAlarm _).mem ((State.Raises.refl v).mem_notify rfl room)

/-- Settles O27: the two expiries are `endReservation` and `openLong`, and the order queue loses its front. -/
theorem releaseTimersExpire : Obligations.ReleaseTimersExpire := by
  intro s bin
  refine ⟨fun v live empty => ?_, fun u since lock record running => ?_, ?_⟩
  · obtain rfl : v.bin = bin := by simpa using List.find?_some live
    rw [exec_confirmTimerExpiry live empty]
    rfl
  · obtain rfl : u.bin = bin := by simpa using List.find?_some record
    obtain ⟨release, latched, sent⟩ := openLong_spec u since s
    refine ⟨_, exec_openLongTimerExpiry lock record running, ?_, ?_, latched, release, fun room => ?_⟩
    · simp
    · simp
    · exact (State.Settles.pump _).branch (sent room)
  · rw [List.drop_one]
    rfl

end Sys2Proof.Machine
end

section
/-! The law of release by its components (R132, R148, R150, R154, R157): what each change of a bin's lock state does to it,
and what a change of its unlock record does. -/

namespace Sys2Proof.Machine

/-- What the law of release says of the bins: of their lock states, the live reservations, the unlock records, the unlock
list and the mode. -/
structure Guarding (locks : List LockState) (reservations : List Reservation) (unlocks : List UnlockRecord)
    (unlockList : List Nat) (mode : ModeName) : Prop where
  reserved   : ∀ b, locks[b]? = some .reserved ↔ b ∈ reservations.map (·.bin)
  unlocking  : ∀ b, locks[b]? = some .unlocking ↔ b ∈ unlockList
  recorded   : ∀ b, locks[b]?.map LockState.isOpen = some true ↔ b ∈ unlocks.map (·.bin)
  oneBin     : (reservations.map (·.bin)).Nodup
  oneOfficer : (reservations.map (·.officer)).Nodup
  four       : reservations.length ≤ 4
  two        : locks.countP LockState.isOpen ≤ 2
  dayOnly    : mode ≠ .day → reservations = [] ∧ locks.countP LockState.isOpen = 0
  pair       : ∀ u ∈ unlocks, u.requesting ≠ u.confirming

namespace Guarding

variable {locks : List LockState} {reservations : List Reservation} {unlocks : List UnlockRecord} {unlockList : List Nat}
  {mode : ModeName} {v : Reservation} {u : UnlockRecord} {b : Nat}

/-! ### A bin that changes its lock state -/

theorem countP_set_locked_le : (locks.set b .locked).countP LockState.isOpen ≤ locks.countP LockState.isOpen := by
  by_cases low : b < locks.length
  · rw [List.countP_set low]
    simp [LockState.isOpen]
  · rw [List.set_eq_of_length_le (by omega)]

/-- A bin that is LOCKED again has no reservation, no unlock record and no place in the unlock list. -/
theorem relock (g : Guarding locks reservations unlocks unlockList mode) (b : Nat) :
    Guarding (locks.set b .locked) (reservations.filter (·.bin != b)) (unlocks.filter (·.bin != b))
      (unlockList.filter (· != b)) mode where
  reserved n := by
    have was := g.reserved n
    grind
  unlocking n := by
    have was := g.unlocking n
    grind
  recorded n := by
    have was := g.recorded n
    grind [LockState.isOpen]
  oneBin := g.oneBin.sublist (List.filter_sublist.map _)
  oneOfficer := g.oneOfficer.sublist (List.filter_sublist.map _)
  four := le_trans (List.length_filter_le ..) g.four
  two := le_trans countP_set_locked_le g.two
  dayOnly other := by
    obtain ⟨none, shut⟩ := g.dayOnly other
    exact ⟨by rw [none]; rfl, Nat.eq_zero_of_le_zero (shut ▸ countP_set_locked_le)⟩
  pair u mem := g.pair u (List.mem_of_mem_filter mem)

/-- A RESERVED bin has no unlock record and no place in the unlock list. -/
theorem not_open_of_reserved (g : Guarding locks reservations unlocks unlockList mode) (mem : v ∈ reservations) :
    v.bin ∉ unlocks.map (·.bin) ∧ v.bin ∉ unlockList := by
  have reserved := (g.reserved v.bin).2 (List.mem_map_of_mem mem)
  rw [← g.recorded, ← g.unlocking, reserved]
  simp [LockState.isOpen]

/-- A bin with an unlock record has no reservation. -/
theorem not_reserved_of_recorded (g : Guarding locks reservations unlocks unlockList mode) (mem : u ∈ unlocks) :
    u.bin ∉ reservations.map (·.bin) := by
  rw [← g.reserved]
  have recorded := (g.recorded u.bin).2 (List.mem_map_of_mem mem)
  intro reserved
  simp [reserved, LockState.isOpen] at recorded

theorem filter_bin_ne_eq_self {α : Type} {f : α → Nat} {list : List α} (absent : b ∉ list.map f) :
    (list.filter fun x => f x != b) = list :=
  List.filter_eq_self.2 fun _ mem => bne_iff_ne.2 fun same => absent (same ▸ List.mem_map_of_mem mem)

theorem filter_ne_eq_self {list : List Nat} (absent : b ∉ list) : list.filter (· != b) = list :=
  filter_bin_ne_eq_self (f := id) (by rwa [List.map_id])

/-- No bin is open exactly while there is no unlock record (R154). -/
theorem shut_iff (g : Guarding locks reservations unlocks unlockList mode) :
    locks.countP LockState.isOpen = 0 ↔ unlocks = [] := by
  rw [List.countP_eq_zero, List.eq_nil_iff_forall_not_mem]
  constructor
  · intro shut u mem
    obtain ⟨l, found, opened⟩ := Option.map_eq_some_iff.1 ((g.recorded u.bin).2 (List.mem_map_of_mem mem))
    exact shut l (List.mem_of_getElem? found) opened
  · intro none l mem opened
    obtain ⟨b, found⟩ := List.getElem?_of_mem mem
    obtain ⟨u, here, -⟩ := List.mem_map.1 ((g.recorded b).1 (by rw [found, Option.map_some, opened]))
    exact none u here

/-- A reservation is ended, and its bin LOCKED (R151). -/
theorem cancel (g : Guarding locks reservations unlocks unlockList mode) (mem : v ∈ reservations) :
    Guarding (locks.set v.bin .locked) (reservations.filter (·.bin != v.bin)) unlocks unlockList mode := by
  obtain ⟨unrecorded, unlisted⟩ := g.not_open_of_reserved mem
  have after := g.relock v.bin
  rwa [filter_bin_ne_eq_self unrecorded, filter_ne_eq_self unlisted] at after

/-- The oldest of the reservations is alone in its bin. -/
theorem filter_of_first {rest : List Reservation} (once : ((v :: rest).map (·.bin)).Nodup) :
    ((v :: rest).filter (·.bin != v.bin)) = rest := by
  rw [List.filter_cons_of_neg (by simp), filter_bin_ne_eq_self (List.nodup_cons.1 once).1]

/-- Every reservation is cleared, and its bin LOCKED (R161). -/
theorem cancelAll (g : Guarding locks reservations unlocks unlockList mode) :
    Guarding (reservations.foldl (fun locks v => locks.set v.bin .locked) locks) [] unlocks unlockList mode := by
  induction reservations generalizing locks with
  | nil => exact g
  | cons v rest ih =>
    have first := g.cancel (.head _)
    rw [filter_of_first g.oneBin] at first
    exact ih first

/-- The unlock record of a bin without reservation is spent or discarded, and the bin LOCKED (R155, R157, R158). -/
theorem discard (g : Guarding locks reservations unlocks unlockList mode) (unreserved : b ∉ reservations.map (·.bin)) :
    Guarding (locks.set b .locked) reservations (unlocks.filter (·.bin != b)) (unlockList.filter (· != b)) mode := by
  have after := g.relock b
  rwa [filter_bin_ne_eq_self unreserved] at after

/-- A LOCKED bin is reserved in DAY, by an officer without a reservation, while there are fewer than 4 (R149). -/
theorem reserve (g : Guarding locks reservations unlocks unlockList .day) (locked : locks[v.bin]? = some .locked)
    (fresh : v.officer ∉ reservations.map (·.officer)) (few : reservations.length < 4) :
    Guarding (locks.set v.bin .reserved) (reservations ++ [v]) unlocks unlockList .day where
  reserved n := by
    have was := g.reserved n
    grind
  unlocking n := by
    have was := g.unlocking n
    grind
  recorded n := by
    have was := g.recorded n
    grind [LockState.isOpen]
  oneBin := by
    have unreserved : v.bin ∉ reservations.map (·.bin) := by simp [← g.reserved, locked]
    have once := g.oneBin
    grind
  oneOfficer := by
    have once := g.oneOfficer
    grind
  four := by
    rw [List.length_append]
    exact few
  two := by
    obtain ⟨low, was⟩ := List.getElem?_eq_some_iff.1 locked
    rw [List.countP_set low]
    simpa [was, LockState.isOpen] using g.two
  dayOnly other := absurd rfl other
  pair := g.pair

/-- A reservation is confirmed in DAY by another officer, while fewer than 2 bins are open (R150). -/
theorem confirm (g : Guarding locks reservations unlocks unlockList .day) (mem : v ∈ reservations)
    (bin : u.bin = v.bin) (pair : u.requesting ≠ u.confirming) (few : locks.countP LockState.isOpen < 2) :
    Guarding (locks.set v.bin .unlocking) (reservations.filter (·.bin != v.bin)) (unlocks ++ [u]) (unlockList ++ [v.bin])
      .day := by
  have reserved := (g.reserved v.bin).2 (List.mem_map_of_mem mem)
  obtain ⟨low, was⟩ := List.getElem?_eq_some_iff.1 reserved
  exact {
    reserved n := by
      have was := g.reserved n
      grind
    unlocking n := by
      have was := g.unlocking n
      grind
    recorded n := by
      have was := g.recorded n
      grind [LockState.isOpen]
    oneBin := g.oneBin.sublist (List.filter_sublist.map _)
    oneOfficer := g.oneOfficer.sublist (List.filter_sublist.map _)
    four := le_trans (List.length_filter_le ..) g.four
    two := by
      rw [List.countP_set low]
      simpa [LockState.isOpen, was] using few
    dayOnly other := absurd rfl other
    pair x mx := by
      rcases List.mem_append.1 mx with old | new
      · exact g.pair x old
      · rwa [List.mem_singleton.1 new] }

/-- An UNLOCKING bin is reported opened, and leaves the unlock list (R154). -/
theorem unlocked {since : Nat} (g : Guarding locks reservations unlocks unlockList mode) (mem : b ∈ unlockList) :
    Guarding (locks.set b (.unlocked since)) reservations unlocks (unlockList.filter (· != b)) mode := by
  have unlocking := (g.unlocking b).2 mem
  obtain ⟨low, was⟩ := List.getElem?_eq_some_iff.1 unlocking
  have still : (locks.set b (.unlocked since)).countP LockState.isOpen = locks.countP LockState.isOpen := by
    have here : 0 < locks.countP LockState.isOpen :=
      List.countP_pos_iff.2 ⟨_, List.getElem_mem low, by rw [was]; rfl⟩
    rw [List.countP_set low]
    simp only [LockState.isOpen, was, if_true]
    omega
  exact {
    reserved n := by
      have was := g.reserved n
      grind
    unlocking n := by
      have was := g.unlocking n
      grind
    recorded n := by
      have was := g.recorded n
      grind [LockState.isOpen]
    oneBin := g.oneBin
    oneOfficer := g.oneOfficer
    four := g.four
    two := still ▸ g.two
    dayOnly other := by
      obtain ⟨none, shut⟩ := g.dayOnly other
      exact ⟨none, still.trans shut⟩
    pair := g.pair }

/-- An unlock record changes, and keeps its bin and its officers. -/
theorem mapUnlocks {f : UnlockRecord → UnlockRecord} (g : Guarding locks reservations unlocks unlockList mode)
    (bin : ∀ x, (f x).bin = x.bin) (pair : ∀ x, (f x).requesting = x.requesting ∧ (f x).confirming = x.confirming) :
    Guarding locks reservations (unlocks.map f) unlockList mode where
  reserved := g.reserved
  unlocking := g.unlocking
  recorded n := by
    have was := g.recorded n
    have same : (unlocks.map f).map (·.bin) = unlocks.map (·.bin) := by simp [bin]
    rwa [same]
  oneBin := g.oneBin
  oneOfficer := g.oneOfficer
  four := g.four
  two := g.two
  dayOnly := g.dayOnly
  pair x mx := by
    obtain ⟨y, my, rfl⟩ := List.mem_map.1 mx
    obtain ⟨requesting, confirming⟩ := pair y
    rw [requesting, confirming]
    exact g.pair y my

end Guarding

end Sys2Proof.Machine
end

section
/-! The law of release is kept: the operations of the heads, the log and the channels, which leave the bins and release
control alone and make no RELEASED record (R85, R118). -/

namespace Sys2Proof.Machine

variable {s t : State} {h : HeadId} {q : List Nat}

/-- The lock states by bin. -/
def BinTable.locks (t : BinTable) : List LockState := t.bins.map (·.lock)

/-- A RELEASED record names two different officers (R157). -/
def Record.Paired (r : Record) : Prop := r.state = .released → ∃ a b, r.officers = some (a, b) ∧ a ≠ b

theorem Record.Paired.of_not_released {r : Record} (other : r.state ≠ .released) : r.Paired :=
  fun released => absurd released other

/-- A record changes in neither its being RELEASED nor its officers. -/
theorem Record.Paired.of_same {r x : Record} (paired : x.Paired) (state : r.state = .released → x.state = .released)
    (officers : r.officers = x.officers) : r.Paired := fun released => officers ▸ paired (state released)

/-- The law of release, with the bins of which an UNLOCK is outstanding given apart from the state: a supply restart clears
the unlock list before release control acts on it (R134, R161). -/
def State.GuardedBy (s : State) (unlockList : List Nat) : Prop :=
  Guarding s.rack.locks s.release.reservations s.release.unlocks unlockList s.mode ∧ ∀ r ∈ s.log.records, r.Paired

/-- The law of release. -/
def State.Guarded (s : State) : Prop := s.GuardedBy s.lift.unlockList

theorem State.lock_eq (s : State) (b : Nat) : s.lock b = s.rack.locks[b]? := by simp [lock, bin, BinTable.locks]

theorem BinTable.openBins_eq (t : BinTable) : t.openBins = t.locks.countP LockState.isOpen := by
  simp only [openBins, locks, List.countP_map]
  rfl

theorem State.guarded_iff (s : State) : s.Guarded ↔ s.ReleaseLaw := by
  constructor
  · rintro ⟨g, paired⟩
    exact {
      reserved b := by simpa only [s.lock_eq, List.mem_map] using g.reserved b
      unlocking b := by simpa only [s.lock_eq] using g.unlocking b
      recorded b := by simpa only [s.lock_eq, List.mem_map] using g.recorded b
      oneBin := g.oneBin
      oneOfficer := g.oneOfficer
      four := g.four
      two := by simpa only [s.rack.openBins_eq] using g.two
      dayOnly := by simpa only [s.rack.openBins_eq] using g.dayOnly
      pair := g.pair
      released := paired }
  · intro law
    exact ⟨{
      reserved b := by simpa only [s.lock_eq, List.mem_map] using law.reserved b
      unlocking b := by simpa only [s.lock_eq] using law.unlocking b
      recorded b := by simpa only [s.lock_eq, List.mem_map] using law.recorded b
      oneBin := law.oneBin
      oneOfficer := law.oneOfficer
      four := law.four
      two := by simpa only [s.rack.openBins_eq] using law.two
      dayOnly := by simpa only [s.rack.openBins_eq] using law.dayOnly
      pair := law.pair }, law.released⟩

namespace State.GuardedBy

theorem bins (g : s.GuardedBy q) :
    Guarding s.rack.locks s.release.reservations s.release.unlocks q s.mode := And.left g

theorem paired (g : s.GuardedBy q) : ∀ r ∈ s.log.records, r.Paired := And.right g

/-- Work that leaves the bins and release control alone, and under which the RELEASED records stay so. -/
theorem of_frame (g : s.GuardedBy q) (paired : ∀ r ∈ t.log.records, r.Paired) (rack : t.rack.locks = s.rack.locks)
    (release : t.release = s.release) : t.GuardedBy q := by
  refine ⟨?_, paired⟩
  rw [State.mode, rack, release]
  exact g.bins

end State.GuardedBy

namespace State.Guarded

theorem bins (g : s.Guarded) :
    Guarding s.rack.locks s.release.reservations s.release.unlocks s.lift.unlockList s.mode := And.left g

theorem paired (g : s.Guarded) : ∀ r ∈ s.log.records, r.Paired := And.right g

/-- Work that leaves the bins and release control alone, and under which the RELEASED records stay so. -/
theorem of_paired (g : s.Guarded) (paired : ∀ r ∈ t.log.records, r.Paired) (rack : t.rack.locks = s.rack.locks)
    (lift : t.lift.unlockList = s.lift.unlockList) (release : t.release = s.release) : t.Guarded := by
  have kept : s.GuardedBy t.lift.unlockList := lift ▸ g
  exact kept.of_frame paired rack release

/-- Work that leaves the records, the bins and release control alone. -/
theorem of_frame (g : s.Guarded) (same : t.log.records = s.log.records ∧ t.rack = s.rack ∧ t.lift = s.lift ∧
    t.release = s.release) : t.Guarded := by
  obtain ⟨records, rack, lift, release⟩ := same
  exact g.of_paired (records ▸ g.paired) (by rw [rack]) (by rw [lift]) release

theorem foldl {α : Type} {f : State → α → State} {l : List α} (g : s.Guarded)
    (keeps : ∀ s a, s.Guarded → (f s a).Guarded) : (l.foldl f s).Guarded :=
  List.foldlRecOn l f g fun _ gt a _ => keeps _ a gt

/-! ### Shared operations -/

theorem setPort {p : PortId} {v : Port} (g : s.Guarded) : (s.setPort p v).Guarded := g.of_frame (by simp)

theorem notify {n : Notice} (g : s.Guarded) : (notify n s).Guarded := g.of_frame (by simp)

theorem reportAlarm {c : AlarmCause} (g : s.Guarded) : (reportAlarm c s).Guarded := g.of_frame (by simp)

theorem alarmLevel (g : s.Guarded) : (alarmLevel s).Guarded := g.of_frame (by simp)

theorem updateHead {f : Head → Head} (g : s.Guarded) : (updateHead h f s).Guarded := g.of_frame (by simp)

theorem updateChannel {f : Channel → Channel} (g : s.Guarded) : (updateChannel h f s).Guarded := g.of_frame (by simp)

theorem updateHeadStats {f : HeadStats → HeadStats} (g : s.Guarded) : (updateHeadStats h f s).Guarded := g

theorem moveHead {f : Head → Head} (g : s.Guarded) : (moveHead h f s).Guarded := g.of_frame (by simp)

theorem closeHead {c : ClosedCause} (g : s.Guarded) : (closeHead h c s).Guarded := g.of_frame (by simp)

theorem enterFault {c : HeadFaultCause} (g : s.Guarded) : (enterFault h c s).Guarded := g.of_frame (by simp)

theorem receiveClose {c : CloseCause} (g : s.Guarded) : (receiveClose h c s).Guarded :=
  g.of_frame (by simp [receiveClose_records])

theorem closeAll {c : CloseCause} (g : s.Guarded) : (closeAll c s).Guarded := g.of_frame (by simp [closeAll_records])

theorem logFullSignal (g : s.Guarded) : (logFullSignal s).Guarded := g.of_frame (by simp [logFullSignal_records])

theorem signalIfFull (g : s.Guarded) : (signalIfFull s).Guarded := g.of_frame (by simp [signalIfFull_records])

theorem lowWaterFall (g : s.Guarded) : (lowWaterFall s).Guarded := g.of_frame (by simp)

theorem lowWaterRise (g : s.Guarded) : (lowWaterRise s).Guarded := g.of_frame (by simp)

theorem judgeLowWater (g : s.Guarded) : (judgeLowWater s).Guarded := g.lowWaterRise.lowWaterFall

theorem takeReservation (g : s.Guarded) (taken : takeReservation h s = some t) : t.Guarded := by
  obtain ⟨-, -, -, records, -⟩ := takeReservation_spec s taken
  obtain ⟨-, -, -, -, rack, lift, release, -⟩ := takeReservation_frame s taken
  exact g.of_frame ⟨records, rack, lift, release⟩

theorem giveBack (g : s.Guarded) : (giveBack h s).Guarded := g.of_frame (by simp)

theorem stopStep (g : s.Guarded) : (stopStep s).Guarded := g.of_frame (by simp)

theorem askWarm (g : s.Guarded) : (askWarm h s).Guarded := g.of_frame (by simp)

theorem endUnwantedWarmUp (g : s.Guarded) : (endUnwantedWarmUp h s).Guarded := g.of_frame (by simp)

theorem evaluateZero (g : s.Guarded) : (evaluateZero h s).Guarded := g.of_frame (by simp)

theorem refreshIdle (g : s.Guarded) : (refreshIdle h s).Guarded := g.of_frame (by simp)

theorem cradleCleared (g : s.Guarded) : (cradleCleared h s).Guarded := g.of_frame (by simp [cradleCleared_records])

theorem endDischarge (g : s.Guarded) : (endDischarge h s).Guarded := g.of_frame (by simp [endDischarge_records])

theorem openGate (g : s.Guarded) : (openGate h s).Guarded := g.of_frame (by simp [openGate_records])

theorem leaveHold (g : s.Guarded) : (leaveHold h s).Guarded := g.of_frame (by simp [leaveHold_records])

/-! ### The heads -/

theorem closeReady {c : CloseCause} (g : s.Guarded) : (closeReady h c s).Guarded := g.giveBack.closeHead

theorem enterDischarge (g : s.Guarded) : (enterDischarge h s).Guarded := by
  unfold Machine.enterDischarge
  split
  · exact g.openGate
  · exact g.moveHead

theorem enterHold (g : s.Guarded) : (enterHold h s).Guarded := by
  simp only [Machine.enterHold]
  split
  · exact g.moveHead.openGate
  · exact g.moveHead

/-- A record is made that is not RELEASED. -/
theorem createRecord {make : Nat → Record} (g : s.Guarded) (made : (make s.log.nextSeq).state ≠ .released) :
    (createRecord h make s).Guarded := by
  refine g.of_paired (fun r mem => ?_) (by simp) (by simp) (by simp)
  rw [createRecord_records] at mem
  rcases List.mem_append.1 mem with old | new
  · exact g.paired r old
  · rw [List.mem_singleton.1 new]
    exact .of_not_released made

theorem judge {w : WeighOutcome} (g : s.Guarded) : (Machine.judge h w s).Guarded := by
  simp only [Machine.judge]
  refine (?_ : State.Guarded _).notify.updateHeadStats.enterDischarge
  have made (l : Lookup) (tol : Option Nat) :=
    g.createRecord (h := h) (make := judgedRecord h (s.head h) w l tol) nofun
  split
  · exact made _ _
  · exact made _ _

theorem headOutcome {w : WeighOutcome} (g : s.Guarded) : (headOutcome h w s).Guarded := by
  simp only [Machine.headOutcome]
  repeat' split
  · exact g.updateHead.judge
  · exact g.updateHead
  · exact g

/-! ### Weighings and readings -/

theorem finishWeighing {w : WeighOutcome} {average : Int} (g : s.Guarded) : (finishWeighing h w average s).Guarded := by
  simp only [Machine.finishWeighing]
  repeat' split
  · exact headOutcome g
  · exact of_frame g (by simp)
  · exact g

theorem startWeighing {r : Requester} (g : s.Guarded) : (startWeighing h r s).Guarded := by
  simp only [Machine.startWeighing]
  repeat' split
  · exact finishWeighing g
  · exact g
  · exact g

theorem enterExamine (g : s.Guarded) : (enterExamine h s).Guarded := g.moveHead.startWeighing

theorem enterRecover (g : s.Guarded) : (enterRecover h s).Guarded := by
  simp only [Machine.enterRecover]
  split
  · exact g.moveHead.enterExamine
  · exact g.moveHead.askWarm
  · exact g.moveHead.askWarm
  · exact g.moveHead.askWarm.enterExamine

theorem headChannelIdle (g : s.Guarded) : (headChannelIdle h s).Guarded := by
  simp only [Machine.headChannelIdle]
  repeat' split
  · exact g.enterFault
  · next taken => exact (g.takeReservation taken).moveHead.signalIfFull
  · exact g.closeHead
  · exact g.enterExamine
  · exact g

theorem stepChannelIdle (g : s.Guarded) : (stepChannelIdle h s).Guarded := by
  simp only [Machine.stepChannelIdle]
  repeat' split
  · exact startWeighing g
  · exact g
  · exact g

theorem countReading {w : WeighRecord} {r : Reading} (g : s.Guarded) : (countReading h w r s).Guarded := by
  simp only [Machine.countReading]
  repeat' split
  on_goal 3 => exact finishWeighing g
  all_goals exact g

theorem endWarmUp {average : Int} {saturated clear : Bool} (g : s.Guarded) :
    (endWarmUp h average saturated clear s).Guarded := by
  simp only [Machine.endWarmUp]
  refine headChannelIdle (updateChannel ?_).refreshIdle |>.stepChannelIdle
  repeat' split
  · exact g
  · exact g.of_frame (by simp)
  · exact g.updateChannel

theorem completeReading (g : s.Guarded) : (completeReading h s).Guarded := by
  simp only [Machine.completeReading]
  split
  · exact g.endWarmUp
  · exact g.updateChannel.countReading
  all_goals exact g

theorem addConversion {code : Int} (g : s.Guarded) : (addConversion h code s).Guarded := by
  simp only [Machine.addConversion]
  repeat' split
  on_goal 3 => exact g.updateChannel.completeReading
  all_goals exact g

theorem settleExpired (g : s.Guarded) : (settleExpired h s).Guarded := by
  simp only [Machine.settleExpired]
  split
  · exact g.finishWeighing
  · exact g

/-! ### Line events at a head -/

theorem intakeShut (g : s.Guarded) : (intakeShut h s).Guarded := by
  simp only [Machine.intakeShut]
  repeat' split
  · exact g.closeReady
  · exact g
  · exact g.enterExamine
  · exact g.moveHead
  · exact g

theorem chuteBeam (g : s.Guarded) : (chuteBeam h s).Guarded := by
  simp only [Machine.chuteBeam]
  split
  · exact g.moveHead
  · exact g.updateHead
  · exact g.updateHead
  · exact g

theorem cradleActivated (g : s.Guarded) : (cradleActivated h s).Guarded := by
  have intruded : (Machine.enterFault h .unexpectedCradle s).Guarded := g.enterFault
  simp only [Machine.cradleActivated]
  split
  case h_4 => exact g.updateHead
  case h_5 => exact g.enterExamine
  all_goals
    repeat' split
    all_goals assumption

theorem cradleDeactivated (g : s.Guarded) : (cradleDeactivated h s).Guarded := by
  simp only [Machine.cradleDeactivated]
  split
  · exact g.updateHead
  · exact g.giveBack.enterFault
  · exact g.cradleCleared
  · exact g.enterFault
  · exact g.giveBack.enterFault
  all_goals exact g

theorem gateShut (g : s.Guarded) : (gateShut h s).Guarded := by
  unfold Machine.gateShut
  split
  · exact g.endDischarge
  · exact g

theorem headEdge {role : Nat} {up : Bool} (g : s.Guarded) : (headEdge h role up s).Guarded := by
  unfold Machine.headEdge
  split
  · exact g.intakeShut
  · exact g.chuteBeam
  · exact g.cradleActivated
  · exact g.cradleDeactivated
  · exact g.gateShut
  · exact g

theorem outputMismatch (g : s.Guarded) : (outputMismatch h s).Guarded := by
  have faulted : (Machine.enterFault h .outputFault s).Guarded := g.enterFault
  unfold Machine.outputMismatch
  repeat' split
  all_goals assumption

end State.Guarded

end Sys2Proof.Machine
end

section
/-! The law of release is kept: the rack and the lift, the opening of heads and the changes of mode (R5, R112 to R131, R138 to
R142). -/

namespace Sys2Proof.Machine

variable {s t : State} {h : HeadId} {q : List Nat}

/-! ### Lock states -/

theorem State.updateBin_locks {n : Nat} {f : Bin → Bin} (keeps : ∀ b, (f b).lock = b.lock) :
    (s.updateBin n f).rack.locks = s.rack.locks := by
  simp only [State.updateBin, BinTable.locks]
  refine List.ext_getElem? fun i => ?_
  simp only [List.getElem?_map, List.getElem?_modify]
  split <;> simp [Function.comp_def, keeps]

theorem setLock_locks (n : Nat) (l : LockState) (s : State) : (setLock n l s).rack.locks = s.rack.locks.set n l := by
  simp only [setLock, State.updateBin, BinTable.locks]
  refine List.ext_getElem? fun i => ?_
  simp only [List.getElem?_map, List.getElem?_modify, List.getElem?_set, List.length_map]
  split
  · next same =>
    subst same
    split
    · next low => simp [low]
    · next high => simp [high]
  · simp

theorem allocate_locks (r : Record) (n : Nat) (o : Bool) (s : State) : (allocate r n o s).rack.locks = s.rack.locks := by
  simp only [BinTable.locks, allocate_bins]
  exact State.updateBin_locks (s := s) (n := n)
    (f := fun b => { b with count := b.count + 1, mass := b.mass + r.allocationMass }) fun _ => rfl

namespace State.GuardedBy

theorem notify {n : Notice} (g : s.GuardedBy q) : (notify n s).GuardedBy q :=
  g.of_frame (by simpa using g.paired) (by simp) (by simp)

theorem reportAlarm {c : AlarmCause} (g : s.GuardedBy q) : (reportAlarm c s).GuardedBy q :=
  g.of_frame (by simpa using g.paired) (by simp) (by simp)

/-- A record changes, to become nothing RELEASED. -/
theorem updateRecord {seq : Nat} {f : Record → Record} {a : RecordState} (g : s.GuardedBy q)
    (becomes : ∀ r, (f r).state = a) (other : a ≠ .released) : (s.updateRecord seq f).GuardedBy q := by
  refine g.of_frame (fun r mem => ?_) rfl rfl
  obtain ⟨x, mx, rfl⟩ := List.mem_map.1 mem
  split
  · exact .of_not_released (becomes x ▸ other)
  · exact g.paired x mx

theorem enterLiftFault {d : LiftFaultDetail} {f : InFlight} (g : s.GuardedBy q) : (enterLiftFault d f s).GuardedBy q := by
  refine (notify (updateRecord ?_ (a := .transferFault) (fun _ => rfl) nofun)).reportAlarm
  exact g

end State.GuardedBy

namespace State.Guarded

/-! ### The rack and the lift -/

theorem updateBin {n : Nat} {f : Bin → Bin} (g : s.Guarded) (keeps : ∀ b, (f b).lock = b.lock) :
    (s.updateBin n f).Guarded := g.of_paired g.paired (State.updateBin_locks keeps) rfl rfl

/-- A record changes, to become nothing RELEASED. -/
theorem updateRecord {seq : Nat} {f : Record → Record} {a : RecordState} (g : s.Guarded) (becomes : ∀ r, (f r).state = a)
    (other : a ≠ .released) : (s.updateRecord seq f).Guarded := GuardedBy.updateRecord g becomes other

theorem updateStats {f : Stats → Stats} (g : s.Guarded) : (updateStats f s).Guarded := g

/-- The lift changes, but for its unlock list. -/
theorem setLift {l : Lift} (g : s.Guarded) (unlockList : l.unlockList = s.lift.unlockList) :
    ({ s with lift := l } : State).Guarded := g.of_paired g.paired rfl unlockList rfl

theorem giveOrder {o : DriveOrder} (g : s.Guarded) : (giveOrder o s).Guarded := g.setLift rfl

theorem grant {r : Record} {bin run : Nat} {o : Bool} (g : s.Guarded) : (grant h r bin o run s).Guarded := by
  have letGo : (s.lettingGo h r bin o).Guarded := by
    refine g.of_paired (by simpa [State.lettingGo] using g.paired) ?_ (by simp [State.lettingGo]) (by simp [State.lettingGo])
    exact allocate_locks r bin o s
  rw [grant_eq]
  have left := letGo.leaveHold (h := h)
  generalize Machine.leaveHold h (s.lettingGo h r bin o) = u at left ⊢
  refine updateStats (setLift (giveOrder (left.updateRecord (f := Record.granted bin o) (fun _ => rfl) nofun)) ?_)
  rfl

theorem arbitrate (g : s.Guarded) : (arbitrate s).Guarded := by
  have outcome := arbitrated s
  have of_checked {u : State} {n : Nat} (checked : s.Checked n u) : u.Guarded :=
    g.of_paired (by rw [checked.log]; exact g.paired) (by rw [checked.rack]; rfl) (by rw [checked.lift]) checked.release
  generalize Machine.arbitrate s = t at outcome ⊢
  cases outcome with
  | checked checked => exact of_checked checked
  | granted _ _ checked => exact (of_checked checked).grant

theorem arbitrateIfFilled {before : State} (g : s.Guarded) : (arbitrateIfFilled before s).Guarded := by
  unfold Machine.arbitrateIfFilled
  split
  · exact g.arbitrate
  · exact g

theorem enterLiftFault {d : LiftFaultDetail} {f : InFlight} (g : s.Guarded) : (enterLiftFault d f s).Guarded := by
  have fault := GuardedBy.enterLiftFault (d := d) (f := f) g
  have listed : (Machine.enterLiftFault d f s).lift.unlockList = s.lift.unlockList := by simp [enterLiftFault_kept]
  rwa [← listed] at fault

theorem storeInFlight {f : InFlight} {mark : StoredMark} (g : s.Guarded) : (storeInFlight f mark s).Guarded :=
  notify (s := s.updateRecord _ _) (g.updateRecord (a := .stored) (fun _ => rfl) nofun)

theorem liftIdle (g : s.Guarded) : (liftIdle s).Guarded := g.setLift rfl

theorem moveAnswered (g : s.Guarded) : (moveAnswered s).Guarded := g.setLift rfl

theorem driveError (g : s.Guarded) : (driveError s).Guarded := g.of_frame (by simp)

theorem moveReport {rep : LateReport} (g : s.Guarded) : (moveReport rep s).Guarded := by
  unfold Machine.moveReport
  repeat' split
  · exact g.driveError
  · exact g.driveError
  · exact g.storeInFlight.liftIdle.arbitrate
  · exact g.moveAnswered.enterLiftFault
  · exact g.moveAnswered.enterLiftFault
  · exact g.moveAnswered.notify

/-! ### Modes and heads -/

theorem openHead (g : s.Guarded) : (openHead h s).2.Guarded := by
  have clear : (Machine.updateHead h (fun hd => { hd with closePending := none }) s).Guarded := g.updateHead
  unfold Machine.openHead
  split
  · dsimp only
    split
    · exact clear.askWarm.moveHead
    · exact clear.askWarm.moveHead
    all_goals
      split
      · next taken => exact (clear.askWarm.takeReservation taken).moveHead
      · exact clear
  · exact clear

theorem decideOpenings {auto full : Bool} {l : List HeadId} (g : s.Guarded) :
    (decideOpenings auto l full s).2.2.Guarded := by
  induction l generalizing full s with
  | nil => exact g
  | cons h rest ih =>
    unfold Machine.decideOpenings
    split
    · refine ih (?_ : State.Guarded _)
      split
      · exact g.notify
      · exact g
    · exact ih g.openHead

theorem openHeads {auto : Bool} {l : List HeadId} (g : s.Guarded) : (openHeads auto l s).2.Guarded := by
  unfold Machine.openHeads
  dsimp only
  split
  · exact g.decideOpenings.logFullSignal
  · exact g.decideOpenings

theorem endServiceState (g : s.Guarded) : (endServiceState s).Guarded := g.of_frame (by simp)

/-- The mode changes: to DAY at any time, and to another with no reservation live and no unlock record (R139, R140, R148). -/
theorem changeMode {m : Mode} {source : ModeSource} (g : s.Guarded)
    (clear : m.name ≠ .day → s.release.reservations = [] ∧ s.release.unlocks = []) :
    (changeMode m source s).Guarded := by
  refine notify ⟨{ g.bins with dayOnly := fun other => ?_ }, g.paired⟩
  rw [g.bins.shut_iff]
  exact clear other

theorem evaluateDrain (g : s.Guarded) : (evaluateDrain s).Guarded := by
  unfold Machine.evaluateDrain
  repeat' split
  · exact g.changeMode nofun
  all_goals exact g

theorem settleDrain {before : State} (g : s.Guarded) : (settleDrain before s).Guarded := by
  unfold Machine.settleDrain
  split
  · exact g.evaluateDrain
  · exact g

theorem settled {f : State → State} (g : (f s).Guarded) : (settled f s).Guarded := g.arbitrateIfFilled.settleDrain

theorem settledInTurn {l : List (State → State)} (g : s.Guarded)
    (keeps : ∀ f ∈ l, ∀ s : State, s.Guarded → (f s).Guarded) : (settledInTurn l s).Guarded :=
  settleDrain (List.foldlRecOn l _ g fun t gt f mem => (keeps f mem t gt).arbitrateIfFilled)

end State.Guarded

end Sys2Proof.Machine
end

section
/-! The law of release is kept: release control (R138 to R158). -/

namespace Sys2Proof.Machine

variable {s t : State} {h : HeadId} {q : List Nat} {v : Reservation} {u : UnlockRecord} {bin : Nat}

theorem mem_of_reservationOf (found : s.release.reservationOf bin = some v) : v ∈ s.release.reservations :=
  List.mem_of_find?_eq_some found

theorem mem_of_disturbed {c : Release} {old new : Option Officer} (found : c.disturbed old new = some v) :
    v ∈ c.reservations := by
  unfold Release.disturbed at found
  repeat' split at found
  · cases found
  · exact List.mem_of_find?_eq_some found
  · cases found

theorem mem_of_unlockOf (found : s.release.unlockOf bin = some u) : u ∈ s.release.unlocks ∧ u.bin = bin :=
  ⟨List.mem_of_find?_eq_some found, by simpa using List.find?_some found⟩

/-- An UNLOCKED bin shows its open-since time. -/
theorem lock_of_openSince {since : Nat} (opened : s.openSince bin = some since) : s.lock bin = some (.unlocked since) := by
  unfold State.openSince at opened
  split at opened
  · next b here =>
    split at opened
    · next lock => cases opened; simp [State.lock, here, lock]
    all_goals cases opened
  · cases opened

namespace State.GuardedBy

/-! ### Unlock records -/

/-- An unlock fails: its bin is LOCKED again, its record discarded (R155). -/
theorem failUnlock {cause : UnlockFailCause} (g : s.GuardedBy q) (unreserved : u.bin ∉ s.release.reservations.map (·.bin)) :
    (failUnlock u cause s).GuardedBy (q.filter (· != u.bin)) := by
  have discarded := g.bins.discard unreserved
  rw [← setLock_locks] at discarded
  exact notify (s := setLock u.bin .locked (dropUnlock u.bin (unlockAnswered u.bin s))) ⟨discarded, g.paired⟩

/-- An unlock record changes, and keeps its bin and its officers. -/
theorem updateUnlock {f : UnlockRecord → UnlockRecord} (g : s.GuardedBy q) (same : ∀ x, (f x).bin = x.bin ∧
    (f x).requesting = x.requesting ∧ (f x).confirming = x.confirming) : (updateUnlock bin f s).GuardedBy q := by
  refine ⟨g.bins.mapUnlocks (fun x => ?_) (fun x => ?_), g.paired⟩
  · obtain ⟨bin, -⟩ := same x
    split
    · exact bin
    · rfl
  · obtain ⟨-, officers⟩ := same x
    split
    · exact officers
    · exact ⟨rfl, rfl⟩

theorem openLong {since : Nat} (g : s.GuardedBy q) : (openLong u since s).GuardedBy q := by
  have marked : (Machine.updateUnlock u.bin (fun u => { u with openLong := true, timer := none }) s).GuardedBy q :=
    g.updateUnlock fun _ => ⟨rfl, rfl, rfl⟩
  exact marked.notify.reportAlarm

end State.GuardedBy

namespace State.Guarded

theorem failUnlock {cause : UnlockFailCause} (g : s.Guarded) (mem : u ∈ s.release.unlocks) :
    (failUnlock u cause s).Guarded :=
  GuardedBy.failUnlock g (g.bins.not_reserved_of_recorded mem)

theorem openLong {since : Nat} (g : s.Guarded) : (openLong u since s).Guarded := by
  have kept := GuardedBy.openLong (u := u) (since := since) g
  rwa [show s.lift = (Machine.openLong u since s).lift by simp] at kept

/-- A bin in the unlock list has an unlock record. -/
theorem unlockOf_of_listed (g : s.Guarded) (listed : bin ∈ s.lift.unlockList) : ∃ u, s.release.unlockOf bin = some u := by
  have unlocking := (g.bins.unlocking bin).2 listed
  obtain ⟨u, mem, rfl⟩ := List.mem_map.1 ((g.bins.recorded bin).1 (by rw [unlocking]; rfl))
  exact Option.isSome_iff_exists.1 (List.find?_isSome.2 ⟨u, mem, by simp⟩)

theorem unlockFails {cause : UnlockFailCause} (g : s.Guarded) (listed : bin ∈ s.lift.unlockList) :
    (unlockFails bin cause s).Guarded := by
  obtain ⟨u, found⟩ := g.unlockOf_of_listed listed
  obtain ⟨mem, -⟩ := mem_of_unlockOf found
  rw [Machine.unlockFails, found]
  exact (g.failUnlock mem).arbitrate

/-- An UNLOCKING bin is reported opened (R154). -/
theorem binIsOpen (g : s.Guarded) (listed : bin ∈ s.lift.unlockList) : (binIsOpen bin s).Guarded := by
  have opened := g.bins.unlocked (since := s.now) listed
  rw [← setLock_locks] at opened
  have kept : (setLock bin (.unlocked s.now) (unlockAnswered bin s)).Guarded := ⟨opened, g.paired⟩
  refine GuardedBy.updateUnlock kept ?_
  exact fun _ => ⟨rfl, rfl, rfl⟩

/-- The records of a bin shut with its floor empty name the two officers of its unlock record (R90, R150). -/
theorem releaseRecords (g : s.Guarded) (pair : u.requesting ≠ u.confirming) : (releaseRecords u s).Guarded := by
  refine notify (updateBin (g.of_paired (t := { s with log := { s.log with records := _ } }) (fun r mem => ?_) rfl rfl rfl)
    fun _ => rfl)
  obtain ⟨x, mx, rfl⟩ := List.mem_map.1 mem
  unfold Record.releasedFrom
  split
  · exact fun _ => ⟨_, _, rfl, pair⟩
  · exact g.paired x mx

/-- An UNLOCKED bin is shut, and LOCKED again (R157, R158). -/
theorem binIsShut {floorEmpty : Bool} {since : Nat} (g : s.Guarded) (opened : s.openSince bin = some since)
    (found : s.release.unlockOf bin = some u) : (binIsShut u floorEmpty s).Guarded := by
  obtain ⟨mem, rfl⟩ := mem_of_unlockOf found
  have unlisted : u.bin ∉ s.lift.unlockList := by
    rw [← g.bins.unlocking, ← s.lock_eq, lock_of_openSince opened]
    nofun
  have discarded := g.bins.discard (g.bins.not_reserved_of_recorded mem)
  rw [← setLock_locks, Guarding.filter_ne_eq_self unlisted] at discarded
  have relocked : (setLock u.bin .locked (dropUnlock u.bin s)).Guarded := ⟨discarded, g.paired⟩
  refine State.Guarded.arbitrate ?_
  split
  · exact relocked.releaseRecords (g.bins.pair u mem)
  · exact relocked.notify

/-! ### Reservations -/

theorem endReservation {reason : EndReason} (g : s.Guarded) (live : v ∈ s.release.reservations) :
    (endReservation v reason s).Guarded := by
  have cancelled := g.bins.cancel live
  rw [← setLock_locks] at cancelled
  exact notify (s := setLock v.bin .locked { s with release := { s.release with reservations := _ } })
    ⟨cancelled, g.paired⟩

/-- Outside DAY no reservation is live, and there is no unlock record (R138, R148). -/
theorem clear_of_not_day (g : s.Guarded) (night : s.mode ≠ .day) :
    s.release.reservations = [] ∧ s.release.unlocks = [] := by
  obtain ⟨none, shut⟩ := g.bins.dayOnly night
  exact ⟨none, g.bins.shut_iff.1 shut⟩

/-- A MODE_SET NIGHT that is not refused finds no bin open (R139). -/
theorem unlocks_of_nightRefusal (g : s.Guarded) (allowed : nightRefusal s = none) : s.release.unlocks = [] := by
  rw [← g.bins.shut_iff, ← BinTable.openBins_eq]
  unfold nightRefusal at allowed
  split at allowed
  · cases allowed
  · next shut => exact Nat.eq_zero_of_not_pos shut

/-- The live reservations ended in turn, none is left, and no unlock record is made. -/
theorem endReservations {reason : EndReason} {l : List Reservation} (g : s.Guarded) (all : s.release.reservations = l) :
    let t := l.foldl (fun s v => Machine.endReservation v reason s) s
    t.Guarded ∧ t.release.reservations = [] ∧ t.release.unlocks = s.release.unlocks := by
  induction l generalizing s with
  | nil => exact ⟨g, all, rfl⟩
  | cons v rest ih =>
    have left : (Machine.endReservation v reason s).release.reservations = rest := by
      have once := g.bins.oneBin
      rw [all] at once
      simpa [Machine.endReservation, all] using Guarding.filter_of_first once
    exact ih (g.endReservation (all ▸ .head _)) left

theorem activateWindow (g : s.Guarded) : (activateWindow s).Guarded := by
  unfold Machine.activateWindow
  split <;> exact g

theorem activateWindow_release : (Machine.activateWindow s).release.reservations = s.release.reservations ∧
    (Machine.activateWindow s).release.unlocks = s.release.unlocks := by
  unfold Machine.activateWindow
  split <;> exact ⟨rfl, rfl⟩

/-- Every live reservation is cancelled (R139). -/
theorem cancelReservations (g : s.Guarded) : (cancelReservations s).Guarded ∧
    (cancelReservations s).release.reservations = [] ∧ (cancelReservations s).release.unlocks = s.release.unlocks := by
  obtain ⟨ended, none, unlocks⟩ := g.endReservations (reason := .cancelled) rfl
  unfold Machine.cancelReservations
  split
  · next empty => exact ⟨g, List.isEmpty_iff.1 empty, rfl⟩
  · exact ⟨ended.arbitrate, by simpa using none, by simpa using unlocks⟩

theorem setNight {source : ModeSource} {out : List (HeadId × Option Refuse)} (g : s.Guarded)
    (ok : setNight source s = .ok (out, t)) : t.Guarded := by
  unfold Machine.setNight at ok
  repeat' split at ok
  all_goals cases ok
  · exact g
  · next mode _ _ =>
    obtain ⟨reservations, unlocks⟩ := activateWindow_release (s := s)
    refine g.activateWindow.changeMode fun _ => ?_
    rw [reservations, unlocks]
    exact g.clear_of_not_day (by rw [State.mode, mode]; nofun)
  · next allowed =>
    obtain ⟨cancelled, none, kept⟩ := g.cancelReservations
    obtain ⟨reservations, unlocks⟩ := activateWindow_release (s := Machine.cancelReservations s)
    refine (cancelled.activateWindow.changeMode fun _ => ?_).endServiceState.openHeads
    rw [reservations, unlocks, kept]
    exact ⟨none, g.unlocks_of_nightRefusal allowed⟩

theorem setDay {source : ModeSource} (g : s.Guarded) : (setDay source s).Guarded := by
  unfold Machine.setDay
  split
  · next night =>
    have clear := g.clear_of_not_day (by rw [State.mode, night]; nofun)
    exact (g.changeMode fun _ => clear).closeAll.evaluateDrain
  all_goals exact g

theorem minuteBoundary {now : Nat} (g : s.Guarded) : (minuteBoundary now s).Guarded := by
  have swept : (sweepAdvices now s).Guarded :=
    foldl (s := { s with advices := _ }) g fun _ _ gt => gt.notify
  unfold Machine.minuteBoundary evaluateSchedule
  repeat' split
  · exact swept
  · next ok => exact swept.setNight ok
  · exact swept.notify
  · exact swept.setDay
  · exact swept

/-- A bin is reserved, every check of a RELEASE_REQUEST passed (R149). -/
theorem reserve {officer : Nat} (g : s.Guarded) (allowed : requestRefusal s bin officer = none) :
    (reserve bin officer s).Guarded := by
  unfold requestRefusal at allowed
  repeat' split at allowed
  all_goals cases allowed
  next night _ _ _ b here _ lock busy full =>
    have day : s.mode = .day := not_not.1 night
    have bins := g.bins
    rw [day] at bins
    have reserved := bins.reserve (v := ⟨bin, officer, s.now, s.release.settings.confirmTime⟩)
      (by rw [← s.lock_eq, State.lock, here, Option.map_some, not_not.1 lock]) (by simpa using busy) (by omega)
    rw [← setLock_locks, ← day] at reserved
    exact ⟨reserved, g.paired⟩

/-- A reservation is confirmed in DAY by another officer, with fewer than 2 bins open (R150). -/
theorem confirm {officer : Nat} (g : s.Guarded) (day : s.mode = .day) (live : v ∈ s.release.reservations)
    (other : officer ≠ v.officer) (few : s.rack.openBins < 2) : (confirm v officer s).Guarded := by
  have bins := g.bins
  rw [day] at bins
  have confirmed := bins.confirm (u := ⟨v.bin, v.officer, officer, some s.release.settings.unlockTime, false⟩) live rfl
    other.symm (by rwa [← BinTable.openBins_eq])
  rw [← setLock_locks, ← day] at confirmed
  exact ⟨confirmed, g.paired⟩

theorem writeOfficer {slot : Nat} {new : Option Officer} (g : s.Guarded) : (writeOfficer slot new s).Guarded := by
  have written : State.Guarded { s with release := { s.release with officers := s.release.officers.set slot new } } := g
  simp only [Machine.writeOfficer]
  split
  · next found => exact (written.endReservation (mem_of_disturbed found)).arbitrate
  · exact written

end State.Guarded

end Sys2Proof.Machine
end

section
/-! The law of release is kept: the lines and the supply restart (R25, R134, R161, R163, R164). -/

namespace Sys2Proof.Machine

variable {s t : State} {h : HeadId} {q : List Nat} {u : UnlockRecord}

namespace State.Guarded

/-! ### The lines -/

theorem setInput {n : Nat} {v : InputLine} (g : s.Guarded) : (s.setInput n v).Guarded := g

theorem tamperActivated (g : s.Guarded) : (tamperActivated s).Guarded := g.reportAlarm.closeAll

theorem restartCase {cradle : Bool} (g : s.Guarded) : (restartCase h cradle s).Guarded := by
  unfold Machine.restartCase
  repeat' split
  · exact g.updateHead.enterHold
  · exact g.moveHead.endUnwantedWarmUp
  · exact g.enterFault
  · next taken => exact (g.takeReservation taken).updateHead.enterRecover
  · exact g.enterFault

theorem restartEnd (g : s.Guarded) : (restartEnd s).Guarded := g.judgeLowWater.arbitrate.evaluateDrain

theorem decideIfReady (g : s.Guarded) : (decideIfReady h s).Guarded := by
  simp only [Machine.decideIfReady]
  repeat' split
  · exact g
  · exact g.updateHead.restartCase
  · exact g.updateHead.restartCase.restartEnd
  · exact g

theorem channelSeesCradle {role : Nat} {active : Bool} (g : s.Guarded) : (channelSeesCradle h role active s).Guarded := by
  unfold Machine.channelSeesCradle
  split <;> exact g

theorem headFirstLevel {role : Nat} {active : Bool} (g : s.Guarded) : (headFirstLevel h role active s).Guarded := by
  unfold Machine.headFirstLevel
  repeat' split
  · exact g.cradleActivated
  · exact g
  · exact g.updateHead
  · exact g

theorem signalFirstLevel {n : Nat} {active : Bool} (g : s.Guarded) : (signalFirstLevel n active s).Guarded := by
  unfold Machine.signalFirstLevel
  repeat' split
  · exact g.channelSeesCradle.headFirstLevel
  · exact g.tamperActivated
  · exact g

theorem establish {n : Nat} (g : s.Guarded) : (establish n s).Guarded := by
  simp only [Machine.establish]
  split
  · exact g.setInput.signalFirstLevel.decideIfReady
  · exact g.setInput.signalFirstLevel

theorem signalEdge {n : Nat} {up : Bool} (g : s.Guarded) : (signalEdge n up s).Guarded := by
  unfold Machine.signalEdge
  repeat' split
  · exact g.channelSeesCradle.headEdge
  · exact g.tamperActivated
  · exact g

theorem recordEdge {n : Nat} {up : Bool} (g : s.Guarded) : (recordEdge n up s).Guarded := by
  simp only [Machine.recordEdge]
  repeat' split
  · exact g.setInput.notify
  · exact g.setInput
  · exact g

theorem takeEdge {n : Nat} (g : s.Guarded) : (takeEdge n s).Guarded := g.setInput.signalEdge.recordEdge

theorem rawChanged {n : Nat} (g : s.Guarded) : (rawChanged n s).Guarded := by
  simp only [Machine.rawChanged]
  repeat' split
  · exact g.establish
  · exact g.setInput
  · exact g.setInput
  · exact g.takeEdge
  · exact g.setInput

theorem debounceExpired {n : Nat} (g : s.Guarded) : (debounceExpired n s).Guarded := by
  simp only [Machine.debounceExpired]
  repeat' split
  · exact g
  · exact g.establish
  · exact g.setInput
  · exact g.takeEdge

theorem establishAtOnce {n : Nat} (g : s.Guarded) : (establishAtOnce s n).Guarded := by
  simp only [Machine.establishAtOnce]
  split
  · exact g.setInput.signalFirstLevel
  · exact g

theorem setInputs {l : List InputLine} (g : s.Guarded) : ({ s with inputs := l } : State).Guarded := g

theorem drawn (g : s.Guarded) : s.drawn.Guarded := g

theorem restartLines (g : s.Guarded) : (restartLines s).Guarded := by
  have established : ((List.range 16).foldl Machine.establishAtOnce _).Guarded :=
    (g.setInputs (l := s.inputs.map InputLine.restarted)).foldl fun _ _ gt => gt.establishAtOnce
  simp only [Machine.restartLines]
  refine established.drawn.settledInTurn fun f mem u gu => ?_
  obtain ⟨h, -, rfl⟩ := List.mem_map.1 mem
  exact gu.decideIfReady

end State.Guarded

/-! ### The supply restart -/

/-- Release control in the middle of its restart: no reservation is left, the unlock list is cleared, and the bins of `q` are
still UNLOCKING (R134, R161). -/
structure State.Relocking (s : State) (q : List Nat) : Prop where
  guarded    : s.GuardedBy q
  unreserved : s.release.reservations = []
  unlockList : s.lift.unlockList = []

theorem failUnlock_kept {cause : UnlockFailCause} : (failUnlock u cause s).release.reservations = s.release.reservations ∧
    (failUnlock u cause s).lift.unlockList = s.lift.unlockList.filter (· != u.bin) := by
  simp [failUnlock, dropUnlock, unlockAnswered]

theorem updateUnlock_reservations {bin : Nat} {f : UnlockRecord → UnlockRecord} :
    (updateUnlock bin f s).release.reservations = s.release.reservations := rfl

namespace State.Relocking

/-- The unlock record of an UNLOCKING bin fails, and that of an UNLOCKED bin goes on (R155, R161). -/
theorem restartUnlock (m : s.Relocking q) :
    ∃ q', (restartUnlock s u).Relocking q' ∧ ∀ b ∈ q', b ∈ q ∧ b ≠ u.bin := by
  have ⟨g, unreserved, unlockList⟩ := m
  have unlocked (since : Nat) (opened : s.openSince u.bin = some since) (b : Nat) (mem : b ∈ q) :
      b ∈ q ∧ b ≠ u.bin := by
    refine ⟨mem, ?_⟩
    rintro rfl
    have lock := (g.bins.unlocking u.bin).2 mem
    rw [← s.lock_eq, lock_of_openSince opened] at lock
    cases lock
  have timed (timer : Timer) : (updateUnlock u.bin (fun u => { u with timer := timer }) s).GuardedBy q :=
    g.updateUnlock fun _ => ⟨rfl, rfl, rfl⟩
  unfold Machine.restartUnlock
  repeat' split
  · exact ⟨_, ⟨g.failUnlock (by simp [unreserved]), by simpa [failUnlock_kept], by simp [failUnlock_kept, unlockList]⟩,
      fun b mem => by simpa using mem⟩
  · next opened _ =>
    exact ⟨q, ⟨(timed none).reportAlarm, by simpa [updateUnlock_reservations], by simpa⟩, unlocked _ opened⟩
  · next opened _ _ _ =>
    exact ⟨q, ⟨g.openLong, by simpa [openLong, updateUnlock_reservations], by simpa⟩, unlocked _ opened⟩
  · next opened _ _ _ _ => exact ⟨q, ⟨timed _, unreserved, unlockList⟩, unlocked _ opened⟩

/-- Every unlock record taken in turn, no bin is UNLOCKING any more (R161). -/
theorem restartUnlocks {l : List UnlockRecord} (m : s.Relocking q) (listed : ∀ b ∈ q, b ∈ l.map (·.bin)) :
    (l.foldl Machine.restartUnlock s).Relocking [] := by
  induction l generalizing s q with
  | nil =>
    obtain rfl : q = [] := List.eq_nil_iff_forall_not_mem.2 fun b mem => nomatch listed b mem
    exact m
  | cons u rest ih =>
    obtain ⟨q', next, left⟩ := m.restartUnlock (u := u)
    refine ih next fun b mem => ?_
    obtain ⟨before, ne⟩ := left b mem
    exact (List.mem_cons.1 (listed b before)).resolve_left ne

theorem guards (m : s.Relocking []) : s.Guarded := by
  have g := m.guarded
  rwa [← m.unlockList] at g

end State.Relocking

/-- The bins of some reservations are LOCKED: nothing but the bin table changes. -/
theorem foldl_setLock_locked (l : List Reservation) (s : State) :
    let t := l.foldl (fun s v => setLock v.bin .locked s) s
    t.rack.locks = l.foldl (fun locks v => locks.set v.bin .locked) s.rack.locks ∧ t.release = s.release ∧
      t.lift = s.lift ∧ t.log = s.log := by
  induction l generalizing s with
  | nil => exact ⟨rfl, rfl, rfl, rfl⟩
  | cons v rest ih =>
    obtain ⟨locks, kept⟩ := ih (setLock v.bin .locked s)
    rw [setLock_locks] at locks
    exact ⟨locks, kept⟩

namespace State.GuardedBy

theorem restartRelease (g : s.GuardedBy q) (unlockList : s.lift.unlockList = []) : (restartRelease s).Guarded := by
  simp only [Machine.restartRelease]
  obtain ⟨locks, release, lift, log⟩ := foldl_setLock_locked s.release.reservations s
  generalize s.release.reservations.foldl (fun s v => setLock v.bin .locked s) s = t at locks release lift log ⊢
  have cleared : State.Relocking { t with release := { t.release with reservations := [] } } q :=
    ⟨⟨by rw [locks, State.mode, release]; exact g.bins.cancelAll, by rw [log]; exact g.paired⟩, rfl,
      lift ▸ unlockList⟩
  have listed (b : Nat) (mem : b ∈ q) : b ∈ t.release.unlocks.map (·.bin) := by
    rw [release, ← g.bins.recorded, (g.bins.unlocking b).2 mem]
    rfl
  have relocked := (cleared.restartUnlocks listed).guards
  split
  · exact relocked.arbitrate
  · exact relocked

end State.GuardedBy

namespace State.Guarded

/-- The lift's restart clears the unlock list, before release control has acted on it (R134). -/
theorem restartLift (g : s.Guarded) :
    (restartLift s).GuardedBy s.lift.unlockList ∧ (restartLift s).lift.unlockList = [] := by
  have unordered : State.GuardedBy { s with lift := s.lift.unordered } s.lift.unlockList := g
  cases state : s.lift.state with
  | idle =>
    rw [restartLift_of_idle state]
    exact ⟨unordered, rfl⟩
  | moving =>
    rw [restartLift_of_moving state]
    exact ⟨unordered.enterLiftFault, by simp [enterLiftFault_kept, Lift.unordered]⟩
  | fault =>
    rw [restartLift_of_fault state]
    exact ⟨unordered.reportAlarm, by simp [Lift.unordered]⟩

theorem supplyRestart {cause : RestartCause} (g : s.Guarded) : (supplyRestart cause s).Guarded := by
  obtain ⟨-, -, rack, release, -, -, lift, log, -⟩ := restartBlocks_frame cause s
  have blocks : (restartBlocks cause s).Guarded := g.of_frame ⟨by rw [log], rack, lift, release⟩
  obtain ⟨unordered, cleared⟩ := blocks.restartLift
  exact (unordered.restartRelease cleared).restartLines

theorem cold (levels : BitVec 16) (free : Nat) (pending : List Instr) : (State.cold levels free pending).Guarded :=
  (State.guarded_iff _).2
    (State.releaseLaw_of_all_locked (fun _ mem => (BinTable.cold_bin mem).2.2) rfl rfl rfl rfl)

end State.Guarded

end Sys2Proof.Machine
end

section
/-! The law of release is kept: the requests, the ports and the events, and the statement over every step (R132, R148, R150,
R154, R157). -/

namespace Sys2Proof.Machine

variable {s t : State} {h : HeadId}

namespace State.Guarded

/-! ### Requests -/

theorem guarded {only : Bool} {r : Req} {own : State → State × Reply} (g : s.Guarded) (taken : (own s).1.Guarded) :
    (guarded only r own s).1.Guarded := by
  unfold Machine.guarded
  repeat' split
  · exact g
  · exact g
  · exact taken

theorem checked {refusal : Option Refuse} {own : State → State × Reply} (g : s.Guarded)
    (taken : refusal = none → (own s).1.Guarded) : (checked refusal own s).1.Guarded := by
  unfold Machine.checked
  split
  · exact g
  · exact taken rfl

/-- A request followed by the arbitration and the drain evaluation it calls for (R123, R142). -/
theorem guarded_settled {only : Bool} {r : Req} {own : State → State × Reply} (g : s.Guarded) (taken : (own s).1.Guarded) :
    (Machine.guarded only r (settledReply own) s).1.Guarded := g.guarded taken.arbitrateIfFilled.settleDrain

/-- A late match leaves the state and the officers of its record (R80). -/
theorem lateMatch {a : Advice} {x : Record} (g : s.Guarded) : (lateMatch a x s).1.Guarded := by
  have matched (v : Verdict) (index expected tolerance : Nat) :
      (s.updateRecord x.seq fun r => r.lateMatched v index expected tolerance).Guarded := by
    refine g.of_paired (fun r mem => ?_) rfl rfl rfl
    obtain ⟨y, my, rfl⟩ := List.mem_map.1 mem
    split
    · exact (g.paired y my).of_same id rfl
    · exact g.paired y my
  simp only [Machine.lateMatch, accept]
  split
  · refine State.Guarded.arbitrate ?_
    exact matched ..
  · exact matched ..

theorem enterAdvice {a : Advice} (g : s.Guarded) : (enterAdvice a s).1.Guarded := by
  unfold Machine.enterAdvice
  split
  · exact g.lateMatch
  · exact g

theorem clearFault (g : s.Guarded) (ok : clearFault h s = .ok t) : t.Guarded := by
  simp only [Machine.clearFault] at ok
  repeat' split at ok
  all_goals cases ok
  · exact g.updateHead.enterHold
  · exact g.updateHead.enterRecover
  · next taken => exact (g.takeReservation taken).updateHead.enterRecover.signalIfFull
  · exact g.giveBack.closeHead

theorem resolveLift {f : InFlight} {o : ResolveOutcome} (g : s.Guarded) : (resolveLift f o s).1.Guarded := by
  cases o with
  | delivered => exact g.storeInFlight.liftIdle.arbitrate
  | retrieved =>
    refine (updateBin (updateRecord g (a := .withdrawn) ?_ nofun) ?_).liftIdle.arbitrate
    · exact fun _ => rfl
    · exact fun _ => rfl

/-- A purge takes RELEASED and WITHDRAWN records out (R99). -/
theorem purge (g : s.Guarded) : (purge s).1.Guarded := by
  have purged (advices : AdviceTable) : State.Guarded
      { s with log := { s.log with records := s.log.records.filter fun r => !r.final }, advices := advices } :=
    g.of_paired (fun r mem => g.paired r (List.mem_of_mem_filter mem)) rfl rfl rfl
  simp only [Machine.purge, accept]
  split
  · exact purged _
  · exact (purged _).lowWaterRise

theorem setLine {n debounce : Nat} {p : Polarity} (g : s.Guarded) : (setLine n p debounce s).Guarded := by
  simp only [Machine.setLine]
  split
  · exact g.setInput
  · exact g.setInput.rawChanged

theorem setAlarm {m : AlarmMode} {w : Nat} {p : Polarity} {e : AlarmFlags} (g : s.Guarded) :
    (setAlarm m w p e s).Guarded := by
  simp only [Machine.setAlarm]
  split
  · exact g
  · exact State.Guarded.alarmLevel (s := { s with alarm := _ }) g

theorem enterService {k : ServiceKind} (g : s.Guarded) : (enterService k s).Guarded := g.stopStep

theorem storePattern {p : List Bool} (g : s.Guarded) : (storePattern p s).Guarded := by
  simp only [Machine.storePattern]
  split <;> exact g

theorem startStep {k : CalKind} (g : s.Guarded) : (startStep h k s).Guarded := by
  unfold Machine.startStep
  split
  · exact startWeighing g
  · refine (State.Guarded.askWarm ?_).refreshIdle
    exact g

theorem takeStep {n : Nat} {ok empty : Bool} {k : CalKind} (g : s.Guarded) : (takeStep n ok k empty s).1.Guarded := by
  unfold Machine.takeStep
  repeat' split
  · exact g
  · exact g
  · exact g.checked fun _ => g.stopStep.startStep

/-- The rule of a request keeps the law of release. -/
theorem takeRequest (c : Instr) (g : s.Guarded) : (takeRequest c s).1.Guarded := by
  cases c
  case headOpen =>
    refine g.guarded_settled ?_
    repeat' split
    on_goal 4 => exact g.openHeads
    all_goals exact g
  case headClose =>
    refine g.guarded_settled ?_
    split
    · exact g
    · exact g.foldl fun _ _ st => st.receiveClose
  case headClearFault =>
    refine g.guarded_settled ?_
    repeat' split
    on_goal 2 => next ok => exact g.clearFault ok
    all_goals exact g
  case advise => exact g.guarded_settled (g.checked fun _ => g.enterAdvice)
  case denomSet | bagTypeSet | toleranceSet =>
    refine g.guarded ?_
    split
    · exact g
    · exact g
  case binSet =>
    refine g.guarded_settled (g.checked fun _ => (updateBin g ?_).arbitrate)
    exact fun _ => rfl
  case zoneMapSet =>
    refine g.guarded_settled ?_
    repeat' split
    · exact g
    · exact g
    · refine State.Guarded.arbitrate ?_
      exact g
  case liftResolve =>
    refine g.guarded_settled ?_
    repeat' split
    on_goal 2 => exact g.resolveLift
    all_goals exact g
  case modeSetNight =>
    refine g.guarded_settled ?_
    split
    · next ok => exact g.setNight ok
    · exact g
  case modeSetDay => exact g.guarded_settled g.setDay
  case officerSet =>
    refine g.guarded_settled ?_
    repeat' split
    on_goal 4 => exact g.writeOfficer
    all_goals exact g
  case releaseRequest => exact g.guarded (g.checked fun allowed => g.reserve allowed)
  case releaseConfirm =>
    refine g.guarded_settled ?_
    repeat' split
    · exact g
    · exact g
    · next found _ => exact (g.endReservation (mem_of_reservationOf found)).arbitrate
    · next found _ _ => exact (g.endReservation (mem_of_reservationOf found)).arbitrate
    · exact g
    · exact g
    · exact g
    · next night _ _ found _ other _ _ few =>
      exact g.confirm (not_not.1 night) (mem_of_reservationOf found) other (Nat.lt_of_not_le few)
  case releaseCancel =>
    refine g.guarded_settled ?_
    repeat' split
    · exact g
    · exact g
    · next found _ => exact (g.endReservation (mem_of_reservationOf found)).arbitrate
  case lineStatus | snapshot => exact g.guarded g
  case lineAck =>
    refine g.guarded ?_
    split
    · exact g
    · exact g
  case lineSet =>
    refine g.guarded_settled ?_
    repeat' split
    · exact g
    · exact g
    · exact g.setLine
  case lineReportSet =>
    refine g.guarded ?_
    repeat' split
    · exact g
    · exact g
    · exact g.setInput
  case outputSet =>
    refine g.guarded ?_
    split <;> exact g
  case clockSet => exact g.guarded_settled (State.Guarded.minuteBoundary (s := { s with clock := _ }) g)
  case alarmAck => exact g.guarded (State.Guarded.alarmLevel (s := { s with alarm := _ }) g)
  case alarmSet =>
    refine g.guarded ?_
    repeat' split
    · exact g
    · exact g.setAlarm
    · exact g
  case logPurge =>
    refine g.guarded ?_
    split
    · exact g.purge
    · exact g
  case logSet =>
    refine g.guarded ?_
    split
    · exact State.Guarded.judgeLowWater (s := { s with log := { s.log with lowWater := _ } }) g
    · exact g
  case serviceEnter =>
    refine g.guarded ?_
    repeat' split
    on_goal 4 => exact g.enterService
    all_goals exact g
  case serviceExit => exact g.guarded g.endServiceState
  case patternSet =>
    refine g.guarded ?_
    split
    · exact g
    · exact g.storePattern
  case calZero | calSpan | calVerify => exact g.guarded g.takeStep
  case status => exact g.guarded g.setPort
  case coldInitialise => exact g.guarded (g.checked fun _ => g)
  case identify | auxRead | logInfo | liftRead | releaseRead | clockRead | statsRead | statsClear | restart =>
    exact g.guarded g
  case weightRead =>
    refine g.guarded ?_
    dsimp only
    repeat' split
    all_goals exact g
  case settingsRead | linkSet | headSet | weighSet | scanSet | withdraw | adviceQuery | logRead | binRead | liftSet |
      scheduleSet | setReleaseWindow | releaseSet =>
    refine g.guarded ?_
    repeat' split
    all_goals exact g
  all_goals exact g

/-! ### The ports -/

theorem frameSeen {p : PortId} (g : s.Guarded) : (frameSeen p s).Guarded := g.of_frame (by simp)

theorem answer {p : PortId} {out : State × Reply} (g : out.1.Guarded) : (answer p out).Guarded := g.setPort

theorem arrive {r : Req} {c : Instr} {take : State → State × Reply} (g : s.Guarded)
    (taken : ∀ u : State, u.Guarded → (take u).1.Guarded) : (arrive r c take s).Guarded := by
  simp only [Machine.arrive]
  repeat' split
  · exact g.frameSeen.setPort
  · exact answer (taken _ g.frameSeen.setPort)
  · exact g.frameSeen.setPort

theorem withReceiver {p : PortId} {v : Receiver} (g : s.Guarded) : (withReceiver p v s).Guarded := g.setPort

theorem discardFrame {p : PortId} (g : s.Guarded) : (discardFrame p s).Guarded := g.withReceiver.updateStats

theorem handOn {p : PortId} {kind number : Byte} {payload : List Byte} (g : s.Guarded) :
    (handOn p kind number payload s).Guarded := by
  unfold Machine.handOn
  split
  · exact g.arrive fun _ gu => gu.takeRequest _
  · exact g.frameSeen

theorem closeFrame {p : PortId} {bytes : List Byte} (g : s.Guarded) : (closeFrame p bytes s).Guarded := by
  simp only [Machine.closeFrame]
  repeat' split
  · exact g.withReceiver.handOn
  · exact g.discardFrame
  · exact g.discardFrame

theorem receiveByte {p : PortId} {byte : Byte} (g : s.Guarded) : (receiveByte p byte s).Guarded := by
  unfold Machine.receiveByte
  repeat' split
  · exact g.withReceiver
  · exact g
  · exact g
  · exact g.discardFrame
  · exact g.closeFrame
  · exact g.withReceiver

theorem frameGone {p : PortId} (g : s.Guarded) : (frameGone p s).Guarded := by
  simp only [Machine.frameGone]
  split
  · exact g
  · exact g.setPort
  · have gone := g.setPort (p := p) (v := { s.port p with
      transmitter := .free, reply := none, requests := (s.port p).requests.tail })
    unfold afterReply
    split
    · exact gone.supplyRestart
    · exact cold ..
    · unfold takeNext
      split
      · exact answer (gone.takeRequest _)
      · exact gone

theorem watchExpired (g : s.Guarded) : (watchExpired s).Guarded := by
  have lost : State.Guarded { s with link := { s.link with lost := true, timer := none } } := g
  simp only [Machine.watchExpired]
  repeat' split
  · exact lost.reportAlarm.closeAll
  · exact lost.reportAlarm
  · exact g

/-! ### The scanner and the readbacks -/

theorem judgeReference {mv : Int} (g : s.Guarded) : (judgeReference h mv s).Guarded := by
  unfold Machine.judgeReference
  repeat' split
  · exact g
  · exact g.updateChannel.finishWeighing.receiveClose.notify.reportAlarm
  · exact g.updateChannel

theorem judgeTemperature {temp : Int} (g : s.Guarded) : (judgeTemperature temp s).Guarded := by
  have hot : State.Guarded { s with scanner := { s.scanner with tempHigh := true } } := g
  simp only [Machine.judgeTemperature]
  repeat' split
  on_goal 3 => exact hot.closeAll.notify.reportAlarm
  all_goals exact g

theorem auxConversion {v : Int} (g : s.Guarded) : (auxConversion v s).Guarded := by
  unfold Machine.auxConversion
  repeat' split
  · refine settledInTurn (s := { s with scanner := _ }) g fun f mem u gu => ?_
    simp only [List.mem_cons, List.not_mem_nil, or_false] at mem
    obtain rfl | rfl | rfl | rfl := mem
    · exact gu.judgeReference
    · exact gu.judgeReference
    · exact gu.judgeReference
    · exact gu.judgeTemperature
  all_goals exact g

theorem checkMismatch {n : Nat} (g : s.Guarded) : (checkMismatch n s).Guarded := by
  have flagged : (flagMismatch n s).Guarded := by
    unfold flagMismatch
    split
    · exact g
    · exact notify (s := s.setOutput _ _) g
  rw [checkMismatch_eq]
  split
  · exact flagged.outputMismatch
  · exact flagged

theorem checkExpired {n : Nat} {level : Bool} (g : s.Guarded) : (checkExpired n level s).Guarded := by
  simp only [Machine.checkExpired]
  repeat' split
  · exact g
  · exact g
  · exact checkMismatch (s := s.setOutput _ _) g

theorem clockTick (g : s.Guarded) : (clockTick s).Guarded := by
  simp only [Machine.clockTick]
  repeat' split
  on_goal 2 => exact State.Guarded.minuteBoundary (s := { s with clock := _ }) g
  all_goals exact g

/-! ### Release control's timers -/

theorem confirmExpired {bin : Nat} (g : s.Guarded) : (confirmExpired bin s).Guarded := by
  unfold Machine.confirmExpired
  split
  · next found => exact (g.endReservation (mem_of_reservationOf found)).arbitrate
  · exact g

theorem unlockExpired {bin : Nat} (g : s.Guarded) : (unlockExpired bin s).Guarded := by
  unfold Machine.unlockExpired
  split
  · next running =>
    obtain ⟨unlocking, -⟩ := running
    refine g.unlockFails ((g.bins.unlocking bin).1 ?_)
    rwa [← s.lock_eq]
  · exact g

theorem openLongExpired {bin : Nat} (g : s.Guarded) : (openLongExpired bin s).Guarded := by
  unfold Machine.openLongExpired
  repeat' split
  · exact g.openLong
  all_goals exact g

/-! ### Commands -/

theorem of_done {u : State} (gu : u.Guarded) (next : done u = .next t) : t.Guarded := by
  obtain rfl := Host.Outcome.next.inj next
  exact gu

/-- An event keeps the law of release. -/
theorem event {c : Instr} (g : s.Guarded) (event : requestOf c = none) (next : exec c s = .next t) : t.Guarded := by
  cases c <;> simp only [requestOf, reduceCtorEq] at event <;> refine of_done ?_ next
  case coldStart => exact cold ..
  case supplyRestart =>
    refine State.Guarded.supplyRestart ?_
    exact g
  case rawLevelChange =>
    refine settled ?_
    unfold rawLevelChange
    split
    · exact g
    · exact g.setInput.rawChanged
  case debounceTimerExpiry => exact settled g.debounceExpired
  case tagReport =>
    unfold tagReported
    split <;> exact g
  case intakeTimerExpiry | descentTimerExpiry | gateTimerExpiry =>
    refine settled ?_
    simp only [intakeExpired, descentExpired, gateExpired]
    split
    · exact g.enterFault
    · exact g
  case windowTimerExpiry =>
    refine settled ?_
    simp only [windowExpired]
    repeat' split
    · exact g.updateHead.judge
    · exact g.updateHead
    · exact g
  case conversionComplete => exact settled g.addConversion
  case settleTimerExpiry =>
    refine settled ?_
    unfold settleTimerExpired
    split
    · exact g.settleExpired
    · exact g
  case zeroIntervalExpiry =>
    unfold zeroIntervalExpired
    split
    · exact g.evaluateZero.updateChannel
    · exact g
  case auxConversionComplete => exact g.auxConversion
  case delivered =>
    split
    · exact g.driveError
    · exact settled g.moveReport
  case moveFault => exact settled g.moveReport
  case binOpened =>
    split
    · next listed => exact g.binIsOpen listed
    · exact g.driveError
  case unlockFault =>
    split
    · next listed => exact settled (g.unlockFails listed)
    · exact g.driveError
  case binShut =>
    split
    · next opened found => exact settled (g.binIsShut opened found)
    · exact g.driveError
    · exact g.driveError
  case transferTimerExpiry =>
    unfold transferExpired
    repeat' split
    · exact g.enterLiftFault
    all_goals exact g
  case confirmTimerExpiry => exact settled g.confirmExpired
  case unlockTimerExpiry => exact settled g.unlockExpired
  case openLongTimerExpiry => exact g.openLongExpired
  case checkTimerExpiry => exact settled g.checkExpired
  case pulseTimerExpiry =>
    unfold pulseExpired
    split <;> exact g
  case clockSecond => exact settled g.clockTick
  case byteReceived => exact g.receiveByte
  case interByteGap =>
    unfold gap
    split
    · exact g
    · exact g.discardFrame
  case watchTimerExpiry => exact settled g.watchExpired
  case frameSent => exact g.frameGone
  all_goals exact g

/-- A command keeps the law of release. -/
theorem exec {c : Instr} (g : s.Guarded) (next : exec c s = .next t) : t.Guarded := by
  cases request : requestOf c with
  | none => exact g.event request next
  | some r =>
    rw [exec_request s request] at next
    exact of_done (g.arrive fun _ gu => gu.takeRequest c) next

end State.Guarded

/-- Settles O58: the law, by its components, is kept by every command. -/
theorem releaseLawIsKept : Obligations.ReleaseLawIsKept := by
  intro s t _ law next
  refine t.guarded_iff.1 ?_
  have g : s.Guarded := s.guarded_iff.2 law
  unfold step at next
  split at next
  · cases next
    exact g
  · next rest _ => exact State.Guarded.exec (s := { s with pending := rest }) g next

end Sys2Proof.Machine
end
